-- ==== Sys2Proof/Word.lean ====
section
/-! DEFINITION. The word types of the yard bus and of the cannon line (R138, R188, R198). -/

namespace Sys2Proof

/-- One data byte of a yard bus frame, of a cannon line frame or of the settings EEPROM. -/
abbrev Byte := BitVec 8

/-- A yard bus node number, 0 to 31: the lower five bits of a CAN identifier (R188). -/
abbrev Node := BitVec 5

/-- An 11-bit CAN identifier: message code in bits 10 to 5, sender in bits 4 to 0 (R198). -/
abbrev Identifier := BitVec 11

end Sys2Proof
end

