-- ==== Sys2Proof/Syntax.lean ====
section
/-! DEFINITION. The commands of the block: one constructor for each row of spec/opcode_table.json, in the table's
order. A request command carries the sender's node and the fields its owner's rule lists, most significant byte
first; it is the request handler's take of that request (R193, log 5). A reply command of the cannon line carries the
bytes that arrived (R138). An event of a timer or of a pin carries what the event shows the part. -/

namespace Sys2Proof

/-- The two wind masts (R23). -/
inductive MastId where
  | a | b
  deriving DecidableEq, Repr

/-- The commands, one constructor per row of the table. -/
inductive Instr where
  /-- Power is applied (R175). -/
  | powerOnReset
  /-- The reset pin is released after being active (R175). -/
  | externalReset
  /-- The settings image has been read (R203); `answers` says whether the EEPROM answered. -/
  | load (answers : Bool)
  /-- One pulse of a mast's anemometer (R23). -/
  | anemometerPulse (mast : MastId)
  /-- The measurement second ends with these vane inputs (R24, R25). -/
  | endOfSecond (vaneA vaneB : BitVec 4)
  /-- One pulse of a dust monitor (R36). -/
  | dustPulse (channel : Nat)
  /-- A dust window's time runs out with this level on the ready input (R36, R40). -/
  | windowEnd (channel : Nat) (ready : Bool)
  /-- R47, R48: issue, slot, part and the five field bytes. -/
  | forecastSlot (node : Node) (issue slot part : Byte) (fields : BitVec 40)
  /-- R51. -/
  | weatherNow (node : Node) (rain : BitVec 16) (humidity temperature : Byte)
  /-- The evaluation timer expires (R53). -/
  | evaluation
  /-- A bed's settle timer reaches Tsettle (R11). -/
  | settleTimerExpiry (bed : Nat)
  /-- R69. -/
  | waterGrant (node : Node) (source : Byte) (amount : BitVec 32)
  /-- R70. -/
  | waterWithdraw (node : Node) (source : Byte) (amount : BitVec 32)
  /-- R79. -/
  | waterQuality (node : Node) (turbidity : BitVec 16)
  /-- R82. -/
  | pumpState (node : Node) (pumps : Byte) (flow : BitVec 16)
  /-- The usage period timer expires (R83). -/
  | usagePeriodExpiry
  /-- R90. -/
  | waterQuery (node : Node) (part : Byte)
  /-- R93. -/
  | zoneClaim (node : Node) (machine activity first last : Byte)
  /-- R97. -/
  | zoneRelease (node : Node) (machine outcome : Byte)
  /-- A machine's claim has stood for Tclaim (R98). -/
  | claimExpiry (machine : Nat)
  /-- R102. -/
  | moistureHoldSet (node : Node) (bed : Byte) (cap : BitVec 24) (tag : BitVec 16)
  /-- R105. -/
  | moistureHoldClear (node : Node) (bed : Byte) (tag : BitVec 16)
  /-- R116. -/
  | manualSpray (node : Node) (bed : Byte) (volume : BitVec 24) (preference : Byte)
  /-- R117. -/
  | cancelSpray (node : Node) (bed : Byte)
  /-- A waiting order's life has passed (R118). -/
  | orderExpiry (bed : Nat)
  /-- The attempt mark is set and the dispatcher takes an attempt (R120). -/
  | dispatchAttempt
  /-- The line is quiet and a transaction is chosen (R142). -/
  | transactionBegin
  /-- The last stop bit of a request has gone (R141). -/
  | requestSent
  /-- The bytes of a reply to a PING have arrived (R153). -/
  | ping (reply : List Byte)
  /-- The bytes of a reply to a START have arrived (R149). -/
  | start (reply : List Byte)
  /-- The bytes of a reply to a POLL have arrived (R150). -/
  | poll (reply : List Byte)
  /-- The bytes of a reply to a TRIM have arrived (R151). -/
  | trim (reply : List Byte)
  /-- The bytes of a reply to a STOP have arrived (R152). -/
  | stop (reply : List Byte)
  /-- The bytes of a reply to a TEST have arrived (R159). -/
  | test (reply : List Byte)
  /-- The last byte of an ALL_STOP has gone (R158). -/
  | allStop
  /-- The reply-start time has passed with no byte (R141). -/
  | noReply
  /-- The reply-complete time has passed with bytes missing (R141). -/
  | shortReply
  /-- One second has passed since a spraying cannon's last transaction (R144). -/
  | pollDue (cannon : Nat)
  /-- Thirty seconds have passed since a lost cannon's last transaction (R144). -/
  | pingDue (cannon : Nat)
  /-- The receive line has been at break for the line-stuck time (R156). -/
  | lineFault
  /-- Ten seconds have passed since the line fault (R148). -/
  | lineFaultEndOfStarts
  /-- The receive line has been at mark for one second (R157). -/
  | lineReturn
  /-- R147. -/
  | cannonRestore (node : Node) (cannon : Byte)
  /-- R159. -/
  | testSpray (node : Node) (cannon : Byte)
  /-- R161. -/
  | cannonQuery (node : Node) (cannon part : Byte)
  /-- R22. -/
  | bedQuery (node : Node) (bed part : Byte)
  /-- R167. -/
  | recordRead (node : Node)
  /-- The read timer expires (R173). -/
  | readTimerExpiry
  /-- R179. -/
  | allHold (node : Node)
  /-- R179. -/
  | holdRelease (node : Node)
  /-- R181. -/
  | maintEnter (node : Node)
  /-- The drain deadline expires (R181). -/
  | drainDeadline
  /-- R182. -/
  | maintExit (node : Node)
  /-- R184. -/
  | flagClear (node : Node) (mask : Byte)
  /-- R185. -/
  | statusQuery (node : Node) (part : Byte)
  /-- One oscillator second of the yard clock (R186). -/
  | yardSecond
  /-- R187. -/
  | timeSet (node : Node) (day : BitVec 16) (seconds : BitVec 24)
  /-- A data frame arrives on the yard bus (R190, R191). -/
  | requestArrival (identifier : Identifier) (data : List Byte)
  /-- The frame at the head of the outbound queue has been transmitted (R188, R196). -/
  | frameSent
  /-- The CAN controller goes bus-off (R189). -/
  | busOff
  /-- The CAN controller has recovered from bus-off (R189). -/
  | busRecovered
  /-- R204. -/
  | settingWrite (node : Node) (item index : Byte) (value : BitVec 32)
  /-- R204. -/
  | settingRead (node : Node) (item index : Byte)
  /-- R205. -/
  | settingCommit (node : Node)
  /-- The EEPROM has finished a page write (R201). -/
  | pageWriteDone
  /-- A page write is still busy after 20 ms (R201). -/
  | pageFailure
  /-- The image has been read back (R205); `differ` lists the bytes that read otherwise than they were written. -/
  | readBack (differ : List Host.Cell)
  deriving DecidableEq, Repr

end Sys2Proof
end

