-- ==== Sys2Proof/WellFormed.lean ====
section
/-! DEFINITION. The well-formed commands: the checks the types of Syntax.lean do not already make. -/

namespace Sys2Proof

/-- A number lies in `1` to `n`. -/
def numbered (n k : Nat) : Bool := decide (1 ≤ k ∧ k ≤ n)

/-- A command is well-formed. An event of a channel, bed, machine or cannon names one that exists (R1, R36, R92, R137);
a complete reply has the bytes of its command's reply (R139); a CAN frame has at most 8 data bytes (R188); a byte read
back lies in the 8 KiB of the EEPROM (R201). -/
def Instr.wellFormed : Instr → Bool
  | .powerOnReset => true
  | .externalReset => true
  | .load _ => true
  | .anemometerPulse _ => true
  | .endOfSecond _ _ => true
  | .dustPulse channel => numbered 8 channel
  | .windowEnd channel _ => numbered 8 channel
  | .forecastSlot _ _ _ _ _ => true
  | .weatherNow _ _ _ _ => true
  | .evaluation => true
  | .settleTimerExpiry bed => numbered 32 bed
  | .waterGrant _ _ _ => true
  | .waterWithdraw _ _ _ => true
  | .waterQuality _ _ => true
  | .pumpState _ _ _ => true
  | .usagePeriodExpiry => true
  | .waterQuery _ _ => true
  | .zoneClaim _ _ _ _ _ => true
  | .zoneRelease _ _ _ => true
  | .claimExpiry machine => numbered 15 machine
  | .moistureHoldSet _ _ _ _ => true
  | .moistureHoldClear _ _ _ => true
  | .manualSpray _ _ _ _ => true
  | .cancelSpray _ _ => true
  | .orderExpiry bed => numbered 32 bed
  | .dispatchAttempt => true
  | .transactionBegin => true
  | .requestSent => true
  | .ping reply => decide (9 ≤ reply.length)
  | .start reply => decide (6 ≤ reply.length)
  | .poll reply => decide (9 ≤ reply.length)
  | .trim reply => decide (9 ≤ reply.length)
  | .stop reply => decide (9 ≤ reply.length)
  | .test reply => decide (6 ≤ reply.length)
  | .allStop => true
  | .noReply => true
  | .shortReply => true
  | .pollDue cannon => numbered 24 cannon
  | .pingDue cannon => numbered 24 cannon
  | .lineFault => true
  | .lineFaultEndOfStarts => true
  | .lineReturn => true
  | .cannonRestore _ _ => true
  | .testSpray _ _ => true
  | .cannonQuery _ _ _ => true
  | .bedQuery _ _ _ => true
  | .recordRead _ => true
  | .readTimerExpiry => true
  | .allHold _ => true
  | .holdRelease _ => true
  | .maintEnter _ => true
  | .drainDeadline => true
  | .maintExit _ => true
  | .flagClear _ _ => true
  | .statusQuery _ _ => true
  | .yardSecond => true
  | .timeSet _ _ _ => true
  | .requestArrival _ data => decide (data.length ≤ 8)
  | .frameSent => true
  | .busOff => true
  | .busRecovered => true
  | .settingWrite _ _ _ _ => true
  | .settingRead _ _ _ => true
  | .settingCommit _ => true
  | .pageWriteDone => true
  | .pageFailure => true
  | .readBack differ => differ.all (fun d => decide (d.1 < 8192))

end Sys2Proof
end

