-- ==== Sys2Proof/Decode.lean ====
section
/-! DEFINITION. The decoder over the rows of spec/opcode_table.json that give bits. No row gives any: a command is an
event at the part, not a word it fetches (log 29). -/

namespace Sys2Proof

/-- The command a word spells by the table's bits. No row of the table has bits, so no word spells one. -/
def decodeTableWord (_nbits _w : Nat) : Option Instr := none

end Sys2Proof
end

