-- ==== Sys2Proof/Config.lean ====
section
/-! DEFINITION. The free values: what the manual leaves open after a step that goes on. None has a body, so no
proof can see one (logs 8 and 19). -/

namespace Sys2Proof.Config

/-- The byte found at an address of an EEPROM page whose write failed or was cut by a reset. R205 calls such a page
"in doubt". The first argument is the free-value counter of the state, the second the address. Log 8. -/
opaque doubtByte : Nat → Nat → Sys2Proof.Byte

/-- The delivered total of an order whose sum no longer fits the 32 bits of R112. The first argument is the
free-value counter, the second the sum. Log 19. -/
opaque deliveredOverflow : Nat → Nat → BitVec 32

end Sys2Proof.Config
end

