-- ==== Sys2Proof/Machine/Bytes.lean ====
section
/-! DEFINITION. Byte order, clamping, the two CRCs, the sparse map that holds the EEPROM and the settings, and numbered
tables. Values on both buses are most significant byte first (00_scope.md, Conventions). -/

namespace Sys2Proof.Machine

/-- A value as one byte. -/
def be8 (n : Nat) : List Byte := [BitVec.ofNat 8 n]

/-- A value as two bytes, most significant first. -/
def be16 (n : Nat) : List Byte := [BitVec.ofNat 8 (n / 256), BitVec.ofNat 8 n]

/-- A value as three bytes, most significant first. -/
def be24 (n : Nat) : List Byte := BitVec.ofNat 8 (n / 65536) :: be16 n

/-- A value as four bytes, most significant first. -/
def be32 (n : Nat) : List Byte := be16 (n / 65536) ++ be16 n

/-- A value as five bytes, most significant first. -/
def be40 (n : Nat) : List Byte := BitVec.ofNat 8 (n / 4294967296) :: be32 n

/-- The value of bytes given most significant first. -/
def ofBe (bytes : List Byte) : Nat := bytes.foldl (fun acc b => acc * 256 + b.toNat) 0

/-- `min cap n`: a figure that saturates. -/
def saturate (cap n : Nat) : Nat := min cap n

/-- To clamp is to replace a value outside a range by the range's nearer end (00_scope.md, Conventions). -/
def clampInt (lo hi v : Int) : Int := if v < lo then lo else if hi < v then hi else v

/-- Division that rounds up. -/
def ceilDiv (a b : Nat) : Nat := (a + b - 1) / b

/-- One bit of the CRC-8 of R138: polynomial 0x07, most significant bit first. -/
def crc8Bit (c : Byte) : Byte := if c.msb then (c <<< 1) ^^^ 0x07#8 else c <<< 1

/-- One byte of the CRC-8 of R138. -/
def crc8Byte (c b : Byte) : Byte := crc8Bit^[8] (c ^^^ b)

/-- The CRC-8 of R138 over the bytes from the address to the last argument. -/
def crc8 (bytes : List Byte) : Byte := bytes.foldl crc8Byte 0x00#8

/-- One bit of the CRC-16 of R201: polynomial 0x1021, most significant bit first. -/
def crc16Bit (c : BitVec 16) : BitVec 16 := if c.msb then (c <<< 1) ^^^ 0x1021#16 else c <<< 1

/-- One byte of the CRC-16 of R201. -/
def crc16Byte (c : BitVec 16) (b : Byte) : BitVec 16 := crc16Bit^[8] (c ^^^ (b.setWidth 16 <<< 8))

/-- The CRC-16 of R201 over the image body, from the initial value 0xFFFF. -/
def crc16 (bytes : List Byte) : BitVec 16 := bytes.foldl crc16Byte 0xFFFF#16

/-- The value listed for a key of a sparse map. -/
def sparseFind {α : Type} (k : Nat) : List (Nat × α) → Option α
  | [] => none
  | (j, v) :: rest => if j = k then some v else sparseFind k rest

/-- A sparse map without one key. -/
def sparseErase {α : Type} (k : Nat) : List (Nat × α) → List (Nat × α)
  | [] => []
  | (j, v) :: rest => if j = k then rest else (j, v) :: sparseErase k rest

/-- A sparse map with one key listed, in rising order of keys. -/
def sparseInsert {α : Type} (k : Nat) (v : α) : List (Nat × α) → List (Nat × α)
  | [] => [(k, v)]
  | (j, w) :: rest =>
    if k < j then (k, v) :: (j, w) :: rest
    else if k = j then (k, v) :: rest
    else (j, w) :: sparseInsert k v rest

/-- What a sparse map reads at a key: the listed value, or the value of an unlisted key. -/
def sparseGet {α : Type} (unlisted : α) (k : Nat) (m : List (Nat × α)) : α := (sparseFind k m).getD unlisted

/-- A sparse map after a write: a value equal to the unlisted one is not listed. -/
def sparsePut {α : Type} [DecidableEq α] (unlisted : α) (k : Nat) (v : α) (m : List (Nat × α)) : List (Nat × α) :=
  if v = unlisted then sparseErase k m else sparseInsert k v m

/-- The canonical form of a sparse map: keys strictly rising and no entry equal to its unlisted value. -/
def sparseWf {α : Type} [DecidableEq α] (unlisted : Nat → α) : List (Nat × α) → Bool
  | [] => true
  | [(k, v)] => decide (v ≠ unlisted k)
  | (k, v) :: (j, w) :: rest => decide (v ≠ unlisted k) && decide (k < j) && sparseWf unlisted ((j, w) :: rest)

/-- Entry `k` of a table numbered from 1 (beds, cannons, channels, slots); `d` outside the table. -/
def nth {α : Type} {n : Nat} (v : Vector α n) (d : α) (k : Nat) : α :=
  if k = 0 then d else (v[k - 1]?).getD d

/-- A table numbered from 1 with entry `k` replaced; unchanged when there is no entry `k`. -/
def setNth {α : Type} {n : Nat} (v : Vector α n) (k : Nat) (x : α) : Vector α n :=
  if k = 0 then v else v.setIfInBounds (k - 1) x

/-- The numbers `lo` to `lo + n - 1` in ascending order. -/
def numbersFrom (lo : Nat) : Nat → List Nat
  | 0 => []
  | n + 1 => lo :: numbersFrom (lo + 1) n

/-- Beds 1 to 32 in ascending order (R1). -/
def bedNumbers : List Nat := numbersFrom 1 32

/-- Cannon addresses 1 to 24 in ascending order (R137). -/
def cannonNumbers : List Nat := numbersFrom 1 24

/-- Dust channels 1 to 8 in ascending order (R36). -/
def channelNumbers : List Nat := numbersFrom 1 8

/-- Forecast slots 1 to 12 in ascending order (R46). -/
def slotNumbers : List Nat := numbersFrom 1 12

end Sys2Proof.Machine
end

