-- ==== Sys2Proof/Machine/Settings.lean ====
section
/-! DEFINITION. The settings: the item table of R202 with its ranges and defaults, the named settings of each chapter,
the image of R201 and the validity conditions of R202. -/

namespace Sys2Proof.Machine

/-- A set of settings: a version (R201) and a sparse map from the key of an item to its value. An item with no entry
has its default (R202). -/
structure Settings where
  version : Nat
  entries : List (Nat × Int)
  deriving DecidableEq, Repr

/-- The range and the default of one item and index (R202). -/
structure ItemRange where
  low : Int
  high : Int
  dflt : Int
  deriving DecidableEq, Repr

/-- One entry of a bed's cannon list (R2): a cannon address and its arc. -/
structure ListEntry where
  cannon : Nat
  left : Nat
  right : Nat
  deriving DecidableEq, Repr

/-- An item code and an index as one number: keys rise with the code and then the index (R205). -/
def settingKey (code index : Nat) : Nat := code * 256 + index

/-- The notice routing defaults of R197: OPS 1, WTR 2, MET 4, SVC 8. -/
def noticeRoutingDefault (kind : Nat) : Int :=
  if kind ≤ 2 then 15 else if kind = 3 then 7 else if kind ≤ 5 then 1 else if kind = 6 then 3
  else if kind = 7 then 2 else if kind = 8 then 9 else 1

/-- The record routing defaults of R164: OPS 1, WTR 2, MET 4. -/
def recordRoutingDefault (kind : Nat) : Int :=
  if kind ≤ 2 then 5 else if kind = 3 then 1 else if kind = 4 then 3 else if kind ≤ 6 then 1
  else if kind = 7 then 3 else if kind = 8 then 5 else 4

/-- The dust channel settings in the order of the table of R35. -/
def dustItems : List ItemRange :=
  [⟨0, 1, 0⟩, ⟨0, 255, 59⟩, ⟨0, 255, 99⟩, ⟨1, 65535, 77⟩, ⟨0, 255, 60⟩, ⟨0, 20000, 150⟩, ⟨0, 20000, 300⟩,
   ⟨0, 20000, 200⟩, ⟨1, 15, 3⟩]

/-- The risk settings in the order of the table of R54. -/
def riskItems : List ItemRange :=
  [⟨10, 200, 55⟩, ⟨10, 200, 40⟩, ⟨10, 200, 35⟩, ⟨0, 200, 60⟩, ⟨0, 100, 80⟩, ⟨0, 3, 2⟩, ⟨1, 65535, 1000⟩,
   ⟨1, 65535, 4000⟩, ⟨1, 65535, 12000⟩, ⟨0, 65535, 500⟩, ⟨0, 1000, 600⟩, ⟨0, 1000, 850⟩, ⟨50, 1000, 200⟩,
   ⟨1, 65535, 200⟩, ⟨0, 200, 20⟩, ⟨600, 86400, 7200⟩, ⟨0, 65535, 20⟩]

/-- Winit, Wstack, Wcrust, Tsettle (R4, R8, R11). -/
def wetnessItems : List ItemRange := [⟨0, 1000, 500⟩, ⟨0, 1000, 120⟩, ⟨0, 1000, 700⟩, ⟨600, 172800, 43200⟩]

/-- The water settings in the order of the table of R91. -/
def waterItems : List ItemRange :=
  [⟨0, 100000000, 150000⟩, ⟨0, 100000000, 20000⟩, ⟨10, 4000, 40⟩, ⟨60, 86400, 900⟩, ⟨1, 4, 2⟩, ⟨1, 8, 4⟩,
   ⟨1, 65535, 6000⟩]

/-- Tclaim, Tlife, Tlifem, Tfrz, Tread, Wmark (R92, R118, R180, R173, R171). -/
def limitItems : List ItemRange :=
  [⟨60, 86400, 1800⟩, ⟨60, 86400, 1200⟩, ⟨60, 86400, 3600⟩, ⟨-40, 58, 2⟩, ⟨60, 86400, 600⟩, ⟨1, 32, 16⟩]

/-- The line timeouts: reply-start, reply-complete, line-stuck (R145). -/
def timeoutItems : List ItemRange := [⟨5, 100, 20⟩, ⟨20, 250, 80⟩, ⟨50, 2000, 250⟩]

/-- The item table of R202: the range and default of an item and index, or nothing for an unknown one. A yes or no is 1
or 0 (log 37), and an exposure mask is 0 to 65,535 (log 46). -/
def itemRange (code index : Nat) : Option ItemRange :=
  if code = 0x01 then (if index = 0 then some ⟨0, 31, 1⟩ else none)
  else if code = 0x02 then (if index = 0 then some ⟨0, 2, 0⟩ else none)
  else if code = 0x03 then (if index < 32 then some ⟨0, 4, 0⟩ else none)
  else if code = 0x04 then (if 1 ≤ index ∧ index ≤ 9 then some ⟨0, 15, noticeRoutingDefault index⟩ else none)
  else if code = 0x05 then (if 1 ≤ index ∧ index ≤ 9 then some ⟨0, 7, recordRoutingDefault index⟩ else none)
  else if code = 0x10 then (if 1 ≤ index ∧ index ≤ 32 then some ⟨0, 1, 0⟩ else none)
  else if code = 0x11 then (if 1 ≤ index ∧ index ≤ 32 then some ⟨1, 250, 1⟩ else none)
  else if code = 0x12 then (if 1 ≤ index ∧ index ≤ 32 then some ⟨0, 65535, 0⟩ else none)
  else if code = 0x13 then (if 1 ≤ index ∧ index ≤ 32 then some ⟨0, 100, 0⟩ else none)
  else if code = 0x14 then (if 1 ≤ index ∧ index ≤ 32 then some ⟨0, 8, 0⟩ else none)
  else if code = 0x15 then (if index < 128 then some ⟨0, 24, 0⟩ else none)
  else if code = 0x16 ∨ code = 0x17 then (if index < 128 then some ⟨0, 359, 0⟩ else none)
  else if code = 0x20 then (if 1 ≤ index ∧ index ≤ 24 then some ⟨1, 65535, 1500⟩ else none)
  else if code = 0x21 then (if 1 ≤ index ∧ index ≤ 24 then some ⟨1, 65535, 3000⟩ else none)
  else if code = 0x22 then timeoutItems[index]?
  else if code = 0x28 then (if index < 128 then dustItems[index % 16]? else none)
  else if code = 0x30 then (if 1 ≤ index ∧ index ≤ 2 then some ⟨1, 2000, 75⟩ else none)
  else if code = 0x38 then riskItems[index]?
  else if code = 0x40 then wetnessItems[index]?
  else if code = 0x48 then waterItems[index]?
  else if code = 0x50 then limitItems[index]?
  else none

/-- The default of a key; 0 for a key that names no item. -/
def settingDefault (key : Nat) : Int := ((itemRange (key / 256) (key % 256)).map (·.dflt)).getD 0

/-- The value of an item and index: its entry, or its default (R202). -/
def Settings.get (S : Settings) (code index : Nat) : Int :=
  sparseGet (settingDefault (settingKey code index)) (settingKey code index) S.entries

/-- The value of an unsigned item. -/
def Settings.nat (S : Settings) (code index : Nat) : Nat := (S.get code index).toNat

/-- The settings with one value written (R204). -/
def Settings.put (S : Settings) (code index : Nat) (v : Int) : Settings :=
  { S with entries := sparsePut (settingDefault (settingKey code index)) (settingKey code index) v S.entries }

/-- The canonical form of a set of settings. -/
abbrev Settings.wf (S : Settings) : Prop := sparseWf settingDefault S.entries = true

/-- Every item at its default, at a given version. -/
def Settings.defaults (version : Nat) : Settings := ⟨version, []⟩

/-- The built-in defaults of R203: every item at its default, node 31 made SVC, version 0. -/
def Settings.builtIn : Settings := (Settings.defaults 0).put 0x03 31 4

/-! ### Named settings -/

/-- Own node number (R188). -/
def Settings.ownNode (S : Settings) : Nat := S.nat 0x01 0
/-- Roster class code of a node (R190). -/
def Settings.rosterCode (S : Settings) (node : Nat) : Nat := S.nat 0x03 node
/-- Target class set of a notice kind (R197). -/
def Settings.noticeSet (S : Settings) (kind : Nat) : Nat := S.nat 0x04 kind
/-- Reader set of a record kind (R164). -/
def Settings.recordSet (S : Settings) (kind : Nat) : Nat := S.nat 0x05 kind

/-- A bed is defined (R2): the value 1 of item 0x10, a yes or no whose number is the model's choice (log 37). -/
def Settings.bedDefined (S : Settings) (b : Nat) : Bool := decide (1 ≤ b ∧ b ≤ 32 ∧ S.get 0x10 b = 1)
/-- Area class A of a bed (R2). -/
def Settings.area (S : Settings) (b : Nat) : Nat := S.nat 0x11 b
/-- Exposure mask M of a bed (R2). How item 0x12 holds the set is the model's choice: bit s is one when sector s is in M, as
BED_QUERY reports it (R22, log 46). -/
def Settings.mask (S : Settings) (b : Nat) : Nat := S.nat 0x12 b
/-- Shelter H of a bed, per cent (R2). -/
def Settings.shelter (S : Settings) (b : Nat) : Nat := S.nat 0x13 b
/-- Dust channel of a bed, 0 for none (R2). -/
def Settings.bedChannel (S : Settings) (b : Nat) : Nat := S.nat 0x14 b
/-- The cannon address at a list position 0 to 3 of a bed, 0 when unused (R202). -/
def Settings.listAddress (S : Settings) (b position : Nat) : Nat := S.nat 0x15 ((b - 1) * 4 + position)
/-- The list entry at a position of a bed (R2). -/
def Settings.listEntry (S : Settings) (b position : Nat) : ListEntry :=
  ⟨S.listAddress b position, S.nat 0x16 ((b - 1) * 4 + position), S.nat 0x17 ((b - 1) * 4 + position)⟩
/-- The cannon list of a bed, in list order (R2): the used positions from position 0 on. -/
def Settings.cannonList (S : Settings) (b : Nat) : List ListEntry :=
  ((numbersFrom 0 4).map (S.listEntry b)).takeWhile (fun e => e.cannon != 0)
/-- A cannon is in use when it appears in the cannon list of at least one defined bed (R144). -/
def Settings.inUse (S : Settings) (c : Nat) : Bool :=
  bedNumbers.any (fun b => S.bedDefined b && (S.cannonList b).any (fun e => e.cannon == c))

/-- Rated flow of a cannon, L/min (R145). -/
def Settings.ratedFlow (S : Settings) (c : Nat) : Nat := S.nat 0x20 c
/-- Per-start limit of a cannon, litres (R145). -/
def Settings.startLimit (S : Settings) (c : Nat) : Nat := S.nat 0x21 c
/-- Reply-start time, ms (R145). -/
def Settings.replyStart (S : Settings) : Nat := S.nat 0x22 0
/-- Reply-complete time, ms (R145). -/
def Settings.replyComplete (S : Settings) : Nat := S.nat 0x22 1

/-- A dust channel setting by its field number in the table of R35. -/
def Settings.dust (S : Settings) (channel field : Nat) : Nat := S.nat 0x28 ((channel - 1) * 16 + field)
/-- A channel number names a channel that is in use (R35). -/
def Settings.channelInUse (S : Settings) (ch : Nat) : Bool := decide (1 ≤ ch ∧ ch ≤ 8 ∧ S.dust ch 0 = 1)
/-- n = (WINCNT + 1) × (WINSTEP + 1), the window length in steps of 10 ms (R36). -/
def Settings.windowSteps (S : Settings) (ch : Nat) : Nat := (S.dust ch 1 + 1) * (S.dust ch 2 + 1)
/-- Calibration K_cal (R35). -/
def Settings.kCal (S : Settings) (ch : Nat) : Nat := S.dust ch 3
/-- Z, windows per zero window (R35). -/
def Settings.zeroEvery (S : Settings) (ch : Nat) : Nat := S.dust ch 4
/-- WATCH level (R35). -/
def Settings.watchLevel (S : Settings) (ch : Nat) : Nat := S.dust ch 5
/-- LIMIT level (R35). -/
def Settings.limitLevel (S : Settings) (ch : Nat) : Nat := S.dust ch 6
/-- CLEAR level (R35). -/
def Settings.clearLevel (S : Settings) (ch : Nat) : Nat := S.dust ch 7
/-- Persistence P (R35). -/
def Settings.persistence (S : Settings) (ch : Nat) : Nat := S.dust ch 8
/-- K_an of mast A or B (R23). -/
def Settings.kAn (S : Settings) (mast : Sys2Proof.MastId) : Nat :=
  match mast with
  | .a => S.nat 0x30 1
  | .b => S.nat 0x30 2

/-- Ut0 SETTLED (R54). -/
def Settings.utSettled (S : Settings) : Nat := S.nat 0x38 0
/-- Ut0 FRESH (R54). -/
def Settings.utFresh (S : Settings) : Nat := S.nat 0x38 1
/-- Ut0 WORKED (R54). -/
def Settings.utWorked (S : Settings) : Nat := S.nat 0x38 2
/-- Wslope (R54). -/
def Settings.wSlope (S : Settings) : Nat := S.nat 0x38 3
/-- Forecast trust Tf, per cent (R54). -/
def Settings.trust (S : Settings) : Nat := S.nat 0x38 4
/-- Lookahead L, hours (R54). -/
def Settings.lookahead (S : Settings) : Nat := S.nat 0x38 5
/-- T_watch (R54). -/
def Settings.tWatch (S : Settings) : Nat := S.nat 0x38 6
/-- T_act (R54). -/
def Settings.tAct (S : Settings) : Nat := S.nat 0x38 7
/-- T_sev (R54). -/
def Settings.tSev (S : Settings) : Nat := S.nat 0x38 8
/-- Hysteresis Hy (R54). -/
def Settings.hysteresis (S : Settings) : Nat := S.nat 0x38 9
/-- Wetness target for ACT (R54). -/
def Settings.wtAct (S : Settings) : Nat := S.nat 0x38 10
/-- Wetness target for SEVERE (R54). -/
def Settings.wtSev (S : Settings) : Nat := S.nat 0x38 11
/-- Saturation water S, litres per 100 m² (R54). -/
def Settings.saturation (S : Settings) : Nat := S.nat 0x38 12
/-- Vmin, the minimum useful volume (R54). -/
def Settings.vMin (S : Settings) : Nat := S.nat 0x38 13
/-- Evaporation coefficient Kev (R54). -/
def Settings.kEv (S : Settings) : Nat := S.nat 0x38 14
/-- Fallback interval Tfall, seconds (R54). -/
def Settings.tFall (S : Settings) : Nat := S.nat 0x38 15
/-- Rskip (R54). -/
def Settings.rSkip (S : Settings) : Nat := S.nat 0x38 16

/-- Winit (R4). -/
def Settings.wInit (S : Settings) : Nat := S.nat 0x40 0
/-- Wstack (R8). -/
def Settings.wStack (S : Settings) : Nat := S.nat 0x40 1
/-- Wcrust (R11). -/
def Settings.wCrust (S : Settings) : Nat := S.nat 0x40 2
/-- Tsettle, seconds (R11). -/
def Settings.tSettle (S : Settings) : Nat := S.nat 0x40 3

/-- Fresh daily cap Fcap (R91). -/
def Settings.fCap (S : Settings) : Nat := S.nat 0x48 0
/-- Reserve floor Rfloor (R91). -/
def Settings.rFloor (S : Settings) : Nat := S.nat 0x48 1
/-- Quality limit Qlim (R91). -/
def Settings.qLim (S : Settings) : Nat := S.nat 0x48 2
/-- Usage period Tuse, seconds (R91). -/
def Settings.tUse (S : Settings) : Nat := S.nat 0x48 3
/-- Slots per pump Kslot (R91). -/
def Settings.kSlot (S : Settings) : Nat := S.nat 0x48 4
/-- Configured slots Nslot (R91). -/
def Settings.nSlot (S : Settings) : Nat := S.nat 0x48 5
/-- Configured header flow Fhead (R91). -/
def Settings.fHead (S : Settings) : Nat := S.nat 0x48 6

/-- Claim limit Tclaim, seconds (R92). -/
def Settings.tClaim (S : Settings) : Nat := S.nat 0x50 0
/-- Life of an automatic order Tlife, seconds (R118). -/
def Settings.tLife (S : Settings) : Nat := S.nat 0x50 1
/-- Life of a manual order Tlifem, seconds (R118). -/
def Settings.tLifeManual (S : Settings) : Nat := S.nat 0x50 2
/-- Freeze limit Tfrz, whole °C (R180). -/
def Settings.tFreeze (S : Settings) : Int := S.get 0x50 3
/-- Read timer Tread, seconds (R173). -/
def Settings.tRead (S : Settings) : Nat := S.nat 0x50 4
/-- Watermark Wmark (R171). -/
def Settings.wMark (S : Settings) : Nat := S.nat 0x50 5

/-! ### Every item and index in ascending order -/

/-- The keys of one item, for an index range. -/
def keysOf (code first count : Nat) : List Nat := (numbersFrom first count).map (settingKey code)

/-- Every item and index in ascending order of code and then index (R205): 755 keys. -/
def allKeys : List Nat :=
  keysOf 0x01 0 1 ++ keysOf 0x02 0 1 ++ keysOf 0x03 0 32 ++ keysOf 0x04 1 9 ++ keysOf 0x05 1 9 ++
  keysOf 0x10 1 32 ++ keysOf 0x11 1 32 ++ keysOf 0x12 1 32 ++ keysOf 0x13 1 32 ++ keysOf 0x14 1 32 ++
  keysOf 0x15 0 128 ++ keysOf 0x16 0 128 ++ keysOf 0x17 0 128 ++ keysOf 0x20 1 24 ++ keysOf 0x21 1 24 ++
  keysOf 0x22 0 3 ++ (numbersFrom 0 8).flatMap (fun c => keysOf 0x28 (c * 16) 9) ++ keysOf 0x30 1 2 ++
  keysOf 0x38 0 17 ++ keysOf 0x40 0 4 ++ keysOf 0x48 0 7 ++ keysOf 0x50 0 6

/-! ### The image of R201 -/

/-- Item 0x50 index 3, Tfrz, is the one signed item (R202). -/
def itemSigned (code index : Nat) : Bool := decide (code = 0x50 ∧ index = 3)

/-- A 4-byte value as the item reads it: two's complement when the item is signed (R191, R201). -/
def settingOfWord (code index : Nat) (w : BitVec 32) : Int := if itemSigned code index then w.toInt else w.toNat

/-- A value as the 4 bytes in which SETTING_WRITE, the replies and the image carry it. -/
def settingBytes (v : Int) : List Byte := be32 (BitVec.ofInt 32 v).toNat

/-- A value is in the range of its item; false for an unknown item or index (R202, R204). -/
def settingInRange (code index : Nat) (v : Int) : Bool :=
  match itemRange code index with
  | some r => decide (r.low ≤ v ∧ v ≤ r.high)
  | none => false

/-- The body of the image: every item as an entry of 6 bytes (R201, R205). -/
def imageBody (S : Settings) : List Byte :=
  allKeys.flatMap (fun k => be8 (k / 256) ++ be8 (k % 256) ++ settingBytes (S.get (k / 256) (k % 256)))

/-- The whole image at a version: header of length, version and CRC-16, then the body (R201). -/
def formImage (S : Settings) (version : Nat) : List Byte :=
  be16 (6 + (imageBody S).length) ++ be16 version ++ be16 (crc16 (imageBody S)).toNat ++ imageBody S

/-- The entries of an image body: item code, index and value word. -/
def parseEntries : List Byte → List (Nat × Nat × BitVec 32)
  | c :: i :: v3 :: v2 :: v1 :: v0 :: rest =>
    (c.toNat, i.toNat, BitVec.ofNat 32 (ofBe [v3, v2, v1, v0])) :: parseEntries rest
  | _ => []

/-- The settings that entries give; of two entries for one item and index the later stands (R202). -/
def settingsOf (version : Nat) (entries : List (Nat × Nat × BitVec 32)) : Settings :=
  entries.foldl (fun S e => S.put e.1 e.2.1 (settingOfWord e.1 e.2.1 e.2.2)) (Settings.defaults version)

/-! ### The validity conditions of R202 -/

/-- Entries whose own value is out of range, or that name no item. -/
def rangeFailures (S : Settings) : List Nat :=
  S.entries.filterMap (fun e => if settingInRange (e.1 / 256) (e.1 % 256) e.2 then none else some e.1)

/-- A list of 4 positions holds 1 to 4 addresses, filled from position 0 with no unused position between used ones. -/
def listFilled (addresses : List Nat) : Bool :=
  match addresses with
  | [] => false
  | a :: rest => a != 0 && (rest.dropWhile (· != 0)).all (· == 0)

/-- The four addresses of a bed's cannon list, unused positions included. -/
def Settings.rawList (S : Settings) (b : Nat) : List Nat := (numbersFrom 0 4).map (S.listAddress b)

/-- The key of the address at a list position. -/
def listKey (b position : Nat) : Nat := settingKey 0x15 ((b - 1) * 4 + position)

/-- Defined beds whose list is empty or has a gap: the entry reported is the list's last (R202, R205, log 16). -/
def listFailures (S : Settings) : List Nat :=
  bedNumbers.filterMap (fun b => if S.bedDefined b && !listFilled (S.rawList b) then some (listKey b 3) else none)

/-- The keys at which the list of a bed names a cannon, in ascending order. -/
def namingsIn (S : Settings) (b c : Nat) : List Nat :=
  (numbersFrom 0 4).filterMap (fun p => if S.listAddress b p = c then some (listKey b p) else none)

/-- The keys at which defined beds name a cannon, in ascending order. -/
def namings (S : Settings) (c : Nat) : List Nat :=
  bedNumbers.flatMap (fun b => if S.bedDefined b then namingsIn S b c else [])

/-- Cannons named twice in any one list, of a defined bed or not: the last naming in that list (R202, R205, log 16). -/
def repeatFailures (S : Settings) : List Nat :=
  bedNumbers.flatMap (fun b => cannonNumbers.filterMap (fun c =>
    if 2 ≤ (namingsIn S b c).length then (namingsIn S b c).getLast? else none))

/-- Cannons in the lists of more than two defined beds: the last naming of all (R202, R205, log 16). -/
def countFailures (S : Settings) : List Nat :=
  cannonNumbers.filterMap (fun c =>
    if 3 ≤ (bedNumbers.filter (fun b => S.bedDefined b && (S.rawList b).contains c)).length
    then (namings S c).getLast? else none)

/-- In-use channels whose WATCH or CLEAR level is above their LIMIT level (R35). -/
def levelFailures (S : Settings) : List Nat :=
  channelNumbers.flatMap (fun ch => if S.channelInUse ch then
    (if S.limitLevel ch < S.watchLevel ch then [settingKey 0x28 ((ch - 1) * 16 + 6)] else []) ++
    (if S.limitLevel ch < S.clearLevel ch then [settingKey 0x28 ((ch - 1) * 16 + 7)] else []) else [])

/-- The conditions of R54 and the timeout order of R202. -/
def orderFailures (S : Settings) : List Nat :=
  (if S.tWatch < S.tAct ∧ S.tAct < S.tSev then [] else [settingKey 0x38 8]) ++
  (if S.wtSev < S.wtAct then [settingKey 0x38 11] else []) ++
  (if S.replyStart < S.replyComplete then [] else [settingKey 0x22 1])

/-- The keys of every failing entry (R205). -/
def failures (S : Settings) : List Nat :=
  rangeFailures S ++ listFailures S ++ repeatFailures S ++ countFailures S ++ levelFailures S ++ orderFailures S

/-- The first failing entry in ascending order of code and then index, if any (R205). -/
def firstFailure (S : Settings) : Option Nat := (failures S).min?

/-- What the load judges of an image's bytes (R202): the settings of a valid image, nothing for an invalid one. -/
def judgeImage (image : List Byte) : Option Settings :=
  let length := ofBe (image.take 2)
  let body := (image.drop 6).take (length - 6)
  let entries := parseEntries body
  let S := settingsOf (ofBe ((image.drop 2).take 2)) entries
  if 6 ≤ length ∧ length ≤ 8192 ∧ length % 6 = 0 ∧ length ≤ image.length
      ∧ (crc16 body).toNat = ofBe ((image.drop 4).take 2)
      ∧ entries.all (fun e => settingInRange e.1 e.2.1 (settingOfWord e.1 e.2.1 e.2.2)) ∧ firstFailure S = none
  then some S else none

/-! ### The EEPROM of R201 -/

/-- The byte an EEPROM address reads as when nothing has written it. PRESUMED erased, 0xFF (log 7). -/
def eepromUnlisted : Byte := 0xFF#8

/-- One byte of the EEPROM. -/
def eepromRead (mem : List Host.Cell) (address : Nat) : Byte := sparseGet eepromUnlisted address mem

/-- The canonical form of the EEPROM's contents: addresses strictly rising, no entry equal to an unlisted byte. -/
abbrev Memory.wf (mem : List Host.Cell) : Prop := sparseWf (fun _ => eepromUnlisted) mem = true

/-- The EEPROM with one byte written; the store uses the 8 KiB from address 0. -/
def eepromWrite (mem : List Host.Cell) (address : Nat) (b : Byte) : List Host.Cell :=
  if address < 8192 then sparsePut eepromUnlisted address b mem else mem

/-- The EEPROM with bytes written from an address on. -/
def eepromWriteBlock (mem : List Host.Cell) (address : Nat) : List Byte → List Host.Cell
  | [] => mem
  | b :: rest => eepromWriteBlock (eepromWrite mem address b) (address + 1) rest

/-- `count` bytes of the EEPROM read from an address on. -/
def eepromReadBlock (mem : List Host.Cell) (address count : Nat) : List Byte :=
  (numbersFrom address count).map (eepromRead mem)

/-- The image as the store reads it: the header first, then as many bytes as a usable length names. -/
def eepromImage (mem : List Host.Cell) : List Byte :=
  let length := ofBe (eepromReadBlock mem 0 2)
  eepromReadBlock mem 0 (if 6 ≤ length ∧ length ≤ 8192 then length else 6)

end Sys2Proof.Machine
end

