-- ==== Sys2Proof/Machine/State.lean ====
section
/-! DEFINITION. The state of the twelve blocks as plain data, and the state right after a power-on reset. Times are
readings of the part's oscillator in milliseconds (log 1). -/

namespace Sys2Proof.Machine

/-! ### Names -/

/-- Result codes of a reply (R199). -/
inductive Result where
  | ok | clamped | busy | refusedClass | badLength | badValue | wrongMode | stale | unknownBed | unknownCannon
  | held | noMatch | full | empty | failed
  deriving DecidableEq, Repr

/-- Notice kinds (R197). -/
inductive NoticeKind where
  | started | mode | recordsWaiting | claimExpired | holdEnded | waterUse | demand | cannonState | sprayDone
  deriving DecidableEq, Repr

/-- Record kinds (R163). -/
inductive RecordKind where
  | dustExceed | dustClear | cappedAtRisk | waterShort | cannonOut | lineFault | overrun | forecastLost | windBasis
  | overflow
  deriving DecidableEq, Repr

/-- Node classes of the roster (R190). -/
inductive NodeClass where
  | none | ops | wtr | met | svc
  deriving DecidableEq, Repr

/-- Classes that read records (R162). -/
inductive ReaderClass where
  | ops | wtr | met
  deriving DecidableEq, Repr

/-- Coordinator modes (R175). -/
inductive Mode where
  | starting | automatic | fallback | hold | maintenance
  deriving DecidableEq, Repr

/-- Kinds of reset (R203). -/
inductive ResetKind where
  | powerOn | external | settingsRestart
  deriving DecidableEq, Repr

/-- Surface states of a bed (R3). -/
inductive Surface where
  | settled | fresh | worked | empty
  deriving DecidableEq, Repr

/-- Bands of a bed, rising (R19). -/
inductive Band where
  | low | watch | act | severe
  deriving DecidableEq, Repr

/-- Activities of a machine (R92). -/
inductive ZoneActivity where
  | travel | stack | reclaim | load
  deriving DecidableEq, Repr

/-- What a machine's release says it did (R97), and the outcome of an expiry (R10). -/
inductive ReleaseOutcome where
  | none | stacked | reclaimed | emptied | expiry
  deriving DecidableEq, Repr

/-- Health of a mast (R30). -/
inductive Health where
  | healthy | failed
  deriving DecidableEq, Repr

/-- The wind basis (R33). -/
inductive Basis where
  | none | liveA | liveB
  deriving DecidableEq, Repr

/-- States of a dust channel, with the reason of a FAULT (R40). -/
inductive ChannelState where
  | off | measuring | zeroing | faultNotReady | faultDirty
  deriving DecidableEq, Repr

/-- The two water sources (R67). -/
inductive WaterSource where
  | recycled | fresh
  deriving DecidableEq, Repr

/-- The quality gate (R79). -/
inductive Gate where
  | isOpen | gated
  deriving DecidableEq, Repr

/-- Priority and origin of an order, most urgent first (R112). -/
inductive Origin where
  | autoSevere | manual | autoAct | prewet
  deriving DecidableEq, Repr

/-- Manual source preference (R112). -/
inductive Preference where
  | any | recycled | fresh
  deriving DecidableEq, Repr

/-- States of an order (R112). -/
inductive OrderState where
  | waiting | granted | spraying | stopping
  deriving DecidableEq, Repr

/-- The check an order failed (R112). -/
inductive Block where
  | mode | zone | cap | water | cannon | capacity
  deriving DecidableEq, Repr

/-- Outcomes of an order (R119). -/
inductive OrderOutcome where
  | complete | satisfied | cancelled | expired
  deriving DecidableEq, Repr

/-- Activities of a cannon (R145). -/
inductive CannonActivity where
  | offline | idle | spraying | locked | outOfService
  deriving DecidableEq, Repr

/-- Last fault of a cannon (R145). -/
inductive CannonFault where
  | none | noReply | shortReply | check | badState | locked | meter
  deriving DecidableEq, Repr

/-- Commands of the cannon line (R139), with the arguments they carry. A TRIM also carries the serial of the hold that
asked for it (R107). -/
inductive LineCommand where
  | ping
  | start (limit left right : Nat)
  | poll
  | trim (limit hold : Nat)
  | stop
  | test
  | allStop
  deriving DecidableEq, Repr

/-- A test spray on a cannon: none, placed but not answered SPRAYING, or spraying (R159). -/
inductive TestState where
  | none | placed | spraying
  deriving DecidableEq, Repr

/-- The CAN controller: off the bus (remembering whether it left while bus-off, R200), joined, or bus-off (R189). -/
inductive BusState where
  | away (wasBusOff : Bool)
  | joined
  | busOff
  deriving DecidableEq, Repr

/-! ### Yard Bus Port -/

/-- A queued request (R192). -/
structure Request where
  node : Node
  code : Nat
  data : List Byte
  arrival : Nat
  deriving DecidableEq, Repr

/-- A frame of the outbound queue, complete with its data (R195, R198). -/
inductive Frame where
  | reply (node : Node) (code : Nat) (result : Result) (data : List Byte)
  | notice (classes : Nat) (kind : NoticeKind) (data : List Byte)
  | record (kind : RecordKind) (subject value seconds : Nat)
  deriving DecidableEq, Repr

/-- A long request in progress (R194): its sender and code. -/
structure LongRequest where
  node : Node
  code : Nat
  deriving DecidableEq, Repr

/-- A frame as the bus carried it (R198). -/
structure SentFrame where
  identifier : Identifier
  data : List Byte
  deriving DecidableEq, Repr

/-- The Yard Bus Port (R188 to R200). -/
structure Port where
  urgent : List Request
  routine : List Request
  outbound : List Frame
  long : Option LongRequest
  bus : BusState
  sent : Option SentFrame
  deriving DecidableEq, Repr

/-! ### Measurement Unit -/

/-- A mast record (R23 to R32). -/
structure Mast where
  health : Health
  pulses : Nat
  speed : Option Nat
  sector : Option Nat
  zeroRun : Nat
  loneRun : Nat
  restoreRun : Nat
  deriving DecidableEq, Repr

/-- One sample of the wind ring (R26). -/
structure Sample where
  speed : Nat
  sector : Nat
  deriving DecidableEq, Repr

/-- The live values (R29). -/
structure LiveWind where
  mean : Nat
  gust : Nat
  sector : Nat
  deriving DecidableEq, Repr

/-- A dust channel record (R36 to R45). -/
structure Channel where
  state : ChannelState
  windowDue : Option Nat
  zeroWindow : Bool
  valve : Bool
  count : Nat
  sinceZero : Nat
  baseline : Nat
  dirty : Bool
  held : Option Nat
  aboveRun : Nat
  belowRun : Nat
  latched : Bool
  deriving DecidableEq, Repr

/-- The Measurement Unit. -/
structure Measurement where
  mastA : Mast
  mastB : Mast
  basis : Basis
  ring : List Sample
  live : Option LiveWind
  secondDue : Option Nat
  channels : Vector Channel 8
  deriving DecidableEq, Repr

/-! ### Forecast Table -/

/-- A forecast slot (R46). -/
structure Slot where
  hour : Option Nat
  mean : Option Nat
  gust : Option Nat
  sector : Option Nat
  humidity : Option Nat
  temperature : Option Int
  rain : Option Nat
  deriving DecidableEq, Repr

/-- The Forecast Table and the weather-now record, each weather field with the time it arrived (R46, R51). -/
structure Forecast where
  issue : Nat
  live : Bool
  slots : Vector Slot 12
  humidity : Option (Nat × Nat)
  temperature : Option (Int × Nat)
  deriving DecidableEq, Repr

/-! ### Bed Table -/

/-- A moisture hold (R101). The serial tells a hold from a later hold on the same bed (R107, log 26). -/
structure Hold where
  cap : Nat
  tag : Nat
  tally : Nat
  serial : Nat
  deriving DecidableEq, Repr

/-- The runtime part of a bed record (R3). -/
structure Bed where
  surface : Surface
  wetness : Nat
  risk : Nat
  band : Band
  lastSprayEnd : Option Nat
  cursor : Nat
  hold : Option Hold
  cappedAtRisk : Bool
  waterShort : Bool
  settleSince : Option Nat
  deriving DecidableEq, Repr

/-- A pending HOLD_ENDED notice (R111). -/
structure HoldEnded where
  bed : Nat
  tag : Nat
  tally : Nat
  deriving DecidableEq, Repr

/-- The Bed Table. -/
structure BedTable where
  records : Vector Bed 32
  pending : List HoldEnded
  holdSerial : Nat
  deriving DecidableEq, Repr

/-! ### Water Account -/

/-- A source record (R67) with its pending WATER_USE amount (R84). -/
structure Source where
  balance : Nat
  reserved : Nat
  charged : Nat
  pendingUse : Nat
  deriving DecidableEq, Repr

/-- The Water Account (R67 to R91). -/
structure Water where
  recycled : Source
  fresh : Source
  gate : Gate
  turbidity : Option Nat
  freshToday : Nat
  usageDue : Option Nat
  demandMark : Bool
  pumps : Nat
  flowLimit : Nat
  slotCapacity : Nat
  flowCapacity : Nat
  deriving DecidableEq, Repr

/-! ### Zone Register -/

/-- An entry of the machine table (R92). `prior` holds one kept prior state for each defined bed of the range. -/
structure Claim where
  machine : Nat
  activity : ZoneActivity
  first : Nat
  last : Nat
  since : Nat
  prior : List (Nat × Surface)
  deriving DecidableEq, Repr

/-- The Zone Register (R92 to R100). -/
structure Zones where
  entries : List Claim
  pending : List Nat
  deriving DecidableEq, Repr

/-! ### Spray Dispatcher -/

/-- How a start counts against the moisture hold of its bed (R101): it does not; granted while the hold stands;
running when the hold was created, with Dh and the cap at creation; trimmed, with Dt. -/
inductive HoldCount where
  | uncounted
  | granted
  | running (dh cap : Nat)
  | trimmed (dt : Nat)
  deriving DecidableEq, Repr

/-- The current start of an order (R112). -/
structure Start where
  cannon : Nat
  source : WaterSource
  volume : Nat
  acknowledged : Bool
  delivered : Option Nat
  sequence : Nat
  count : HoldCount
  deriving DecidableEq, Repr

/-- An order (R112). `serial` orders the creations (R113, log 26). -/
structure Order where
  id : Nat
  bed : Nat
  origin : Origin
  remaining : Nat
  delivered : Nat
  manual : Bool
  preference : Preference
  state : OrderState
  blocked : Option Block
  start : Option Start
  ending : Option OrderOutcome
  created : Nat
  waitStart : Nat
  serial : Nat
  deriving DecidableEq, Repr

/-- A pending SPRAY_DONE notice (R119). -/
structure SprayDone where
  bed : Nat
  delivered : Nat
  outcome : OrderOutcome
  deriving DecidableEq, Repr

/-- The Spray Dispatcher (R112 to R136). -/
structure Dispatcher where
  orders : List Order
  nextId : Nat
  grantSequence : Nat
  attempt : Bool
  pending : List SprayDone
  serial : Nat
  deriving DecidableEq, Repr

/-! ### Cannon Line Controller -/

/-- A held command and its place in the order of holding (R142, R143). -/
structure HeldCommand where
  command : LineCommand
  serial : Nat
  deriving DecidableEq, Repr

/-- A cannon record (R145). The bed of the current start is the bed of the order whose start uses the cannon. -/
structure Cannon where
  activity : CannonActivity
  suspect : Bool
  score : Nat
  lastFault : CannonFault
  streak : Nat
  overrun : Bool
  lastGood : Option Nat
  held : Option HeldCommand
  test : TestState
  lastEnd : Option Nat
  pollDue : Bool
  pingDue : Bool
  mark : Bool
  deriving DecidableEq, Repr

/-- The line state (R156): OK, or FAULT since a time, with whether the 10-second ends have been made. -/
inductive LineState where
  | ok
  | fault (since : Nat) (endsMade : Bool)
  deriving DecidableEq, Repr

/-- The transaction in flight (R137): the cannon (0 for ALL_STOP), the command, the frame's bytes, the grant sequence
of the start in progress on the cannon when it began, and the time its last stop bit went, once it has. -/
structure Transaction where
  cannon : Nat
  command : LineCommand
  frame : List Byte
  sequence : Option Nat
  sentAt : Option Nat
  deriving DecidableEq, Repr

/-- The Cannon Line Controller (R137 to R161). -/
structure Line where
  cannons : Vector Cannon 24
  state : LineState
  transaction : Option Transaction
  allStopDue : Bool
  lastPolled : Nat
  lastPinged : Nat
  heldSerial : Nat
  deriving DecidableEq, Repr

/-! ### Record Queue -/

/-- A set of reader classes (R162). -/
structure Readers where
  ops : Bool
  wtr : Bool
  met : Bool
  deriving DecidableEq, Repr

/-- A record (R162). -/
structure Record where
  kind : RecordKind
  subject : Nat
  value : Nat
  seconds : Nat
  day : Nat
  band : Option Band
  unread : Readers
  deriving DecidableEq, Repr

/-- The Record Queue (R162 to R174): records oldest first, pending marks, read timer. -/
structure RecordQueue where
  queue : List Record
  marks : Readers
  readDue : Option Nat
  deriving DecidableEq, Repr

/-! ### Mode Controller and Yard Clock -/

/-- The Mode Controller and Yard Clock (R175 to R187). -/
structure Controller where
  mode : Mode
  operator : Bool
  freeze : Bool
  flags : Byte
  modeMark : Bool
  drain : Option Nat
  seconds : Nat
  day : Nat
  yardDue : Nat
  deriving DecidableEq, Repr

/-! ### Settings Store -/

/-- A commit in progress (R205): the image, the page being written (the number of pages while it is read back), and
the time that page write began. -/
structure Commit where
  image : List Byte
  page : Nat
  since : Nat
  deriving DecidableEq, Repr

/-- The data of a STARTED notice not yet queued (R203). -/
structure StartedMark where
  kind : ResetKind
  valid : Bool
  version : Nat
  deriving DecidableEq, Repr

/-- The Settings Store (R201 to R206). -/
structure Store where
  working : Settings
  uncommitted : Bool
  commit : Option Commit
  eeprom : List Host.Cell
  started : Option StartedMark
  resetKind : ResetKind
  verified : Option (List Byte)
  deriving DecidableEq, Repr

/-! ### The machine -/

/-- The state of the part, block by block, with the queue of waiting commands. -/
structure State where
  osc : Nat
  conf : Settings
  evalDue : Option Nat
  port : Port
  meas : Measurement
  forecast : Forecast
  beds : BedTable
  water : Water
  zones : Zones
  disp : Dispatcher
  line : Line
  recs : RecordQueue
  ctrl : Controller
  store : Store
  freeCount : Nat
  pending : List Sys2Proof.Instr
  deriving DecidableEq, Repr

/-- The reasons the machine can stop. None: the manual stops the part nowhere (INVENTORY.md, Faults). Nothing raises
one, which is safe. -/
inductive Fault where
  deriving DecidableEq, Repr

/-- The reasons a command can be refused. -/
inductive Refusal where
  /-- Raised by an arm of exec for a command that has no meaning yet; no arm raises it. Safe. -/
  | notModelled (mnemonic : String)
  deriving DecidableEq, Repr

/-! ### The values of a reset -/

/-- No reader class. -/
def Readers.none : Readers := ⟨false, false, false⟩

/-- A mast after a reset (R34). -/
def Mast.initial : Mast := ⟨.healthy, 0, Option.none, Option.none, 0, 0, 0⟩

/-- A dust channel after a reset and before the load (R45). -/
def Channel.initial : Channel :=
  ⟨.off, Option.none, false, false, 0, 0, 0, false, Option.none, 0, 0, false⟩

/-- An empty forecast slot (R46). -/
def Slot.empty : Slot := ⟨none, none, none, none, none, none, none⟩

/-- The runtime part of a bed after a reset, with W at Winit (R4). -/
def Bed.initial (wInit : Nat) : Bed := ⟨.settled, wInit, 0, .low, none, 0, none, false, false, none⟩

/-- A source record after a reset (R67). -/
def Source.initial : Source := ⟨0, 0, 0, 0⟩

/-- A cannon record after a reset (R145). -/
def Cannon.initial : Cannon :=
  ⟨.offline, false, 0, .none, 0, false, Option.none, Option.none, .none, Option.none, false, false, false⟩

/-- The machine right after a power-on reset: mode STARTING, TIME_UNSET set, every block at its power-on values
(R4, R34, R45, R46, R67, R76, R79, R81, R92, R136, R145, R162, R175, R184, R186, R200). The EEPROM lists nothing
(log 7); the settings in force and the working copy are the built-in defaults until the load (log 10). -/
def State.reset : State where
  osc := 0
  conf := Settings.builtIn
  evalDue := none
  port := ⟨[], [], [], none, .away false, none⟩
  meas := ⟨Mast.initial, Mast.initial, .liveA, [], none, none, Vector.replicate 8 Channel.initial⟩
  forecast := ⟨0, false, Vector.replicate 12 Slot.empty, none, none⟩
  beds := ⟨Vector.replicate 32 (Bed.initial Settings.builtIn.wInit), [], 0⟩
  water := ⟨Source.initial, Source.initial, .isOpen, none, 0, none, false, 0, 0, 0, 0⟩
  zones := ⟨[], []⟩
  disp := ⟨[], 0, 0, false, [], 0⟩
  line := ⟨Vector.replicate 24 Cannon.initial, .ok, none, false, 0, 0, 0⟩
  recs := ⟨[], Readers.none, none⟩
  ctrl := ⟨.starting, false, false, 0x04#8, false, none, 0, 0, 1000⟩
  store := ⟨Settings.builtIn, false, none, [], none, .powerOn, none⟩
  freeCount := 0
  pending := []

end Sys2Proof.Machine
end

