-- ==== Sys2Proof/Machine/Operands.lean ====
section
/-! DEFINITION. Operand forms: the codes in which names travel on the yard bus, the absent markers and clamps of
request fields, the request table of the message summary, the frames of both buses and the judgment of a cannon's
reply. -/

namespace Sys2Proof.Machine

/-! ### Codes -/

/-- R199. -/
def Result.code : Result → Nat
  | .ok => 0 | .clamped => 1 | .busy => 2 | .refusedClass => 3 | .badLength => 4 | .badValue => 5 | .wrongMode => 6
  | .stale => 7 | .unknownBed => 8 | .unknownCannon => 9 | .held => 10 | .noMatch => 11 | .full => 12 | .empty => 13
  | .failed => 14

/-- R197. -/
def NoticeKind.code : NoticeKind → Nat
  | .started => 1 | .mode => 2 | .recordsWaiting => 3 | .claimExpired => 4 | .holdEnded => 5 | .waterUse => 6
  | .demand => 7 | .cannonState => 8 | .sprayDone => 9

/-- R163. -/
def RecordKind.code : RecordKind → Nat
  | .dustExceed => 1 | .dustClear => 2 | .cappedAtRisk => 3 | .waterShort => 4 | .cannonOut => 5 | .lineFault => 6
  | .overrun => 7 | .forecastLost => 8 | .windBasis => 9 | .overflow => 10

/-- The roster's class of a setting value (R202). -/
def NodeClass.ofCode (n : Nat) : NodeClass :=
  if n = 1 then .ops else if n = 2 then .wtr else if n = 3 then .met else if n = 4 then .svc else .none

/-- R183. -/
def Mode.code : Mode → Nat
  | .starting => 0 | .automatic => 1 | .fallback => 2 | .hold => 3 | .maintenance => 4

/-- R203. -/
def ResetKind.code : ResetKind → Nat
  | .powerOn => 0 | .external => 1 | .settingsRestart => 2

/-- R22. -/
def Surface.code : Surface → Nat
  | .settled => 0 | .fresh => 1 | .worked => 2 | .empty => 3

/-- R22. -/
def Band.code : Band → Nat
  | .low => 0 | .watch => 1 | .act => 2 | .severe => 3

/-- The band byte of a RECORD_READ reply: 255 when absent (R167). -/
def bandByte (b : Option Band) : Nat := (b.map Band.code).getD 255

/-- R185. -/
def Basis.code : Basis → Nat
  | .none => 0 | .liveA => 1 | .liveB => 2

/-- R79. -/
def Gate.code : Gate → Nat
  | .isOpen => 0 | .gated => 1

/-- The source a request names, if any (R69). -/
def sourceOf (b : Byte) : Option WaterSource := if b = 0#8 then some .recycled else if b = 1#8 then some .fresh else none

/-- R67. -/
def WaterSource.code : WaterSource → Nat
  | .recycled => 0 | .fresh => 1

/-- The activity a ZONE_CLAIM names, if any (R93). -/
def activityOf (b : Byte) : Option ZoneActivity :=
  if b = 0#8 then some .travel else if b = 1#8 then some .stack else if b = 2#8 then some .reclaim
  else if b = 3#8 then some .load else none

/-- The outcome a ZONE_RELEASE names, if any (R97). -/
def outcomeOf (b : Byte) : Option ReleaseOutcome :=
  if b = 0#8 then some .none else if b = 1#8 then some .stacked else if b = 2#8 then some .reclaimed
  else if b = 3#8 then some .emptied else none

/-- The preference a MANUAL_SPRAY names, if any (R116). -/
def preferenceOf (b : Byte) : Option Preference :=
  if b = 0#8 then some .any else if b = 1#8 then some .recycled else if b = 2#8 then some .fresh else none

/-- The priority of an origin, 0 most urgent (R112). -/
def Origin.priority : Origin → Nat
  | .autoSevere => 0 | .manual => 1 | .autoAct => 2 | .prewet => 3

/-- The origin with the smaller priority number (R114). -/
def Origin.moreUrgent (a b : Origin) : Origin := if b.priority < a.priority then b else a

/-- R116. -/
def OrderState.code : OrderState → Nat
  | .waiting => 0 | .granted => 1 | .spraying => 2 | .stopping => 3

/-- R116. -/
def blockCode : Option Block → Nat
  | none => 0 | some .mode => 1 | some .zone => 2 | some .cap => 3 | some .water => 4 | some .cannon => 5
  | some .capacity => 6

/-- R119. -/
def OrderOutcome.code : OrderOutcome → Nat
  | .complete => 0 | .satisfied => 1 | .cancelled => 2 | .expired => 3

/-- R160. -/
def CannonActivity.code : CannonActivity → Nat
  | .offline => 0 | .idle => 1 | .spraying => 2 | .locked => 3 | .outOfService => 4

/-- R160. -/
def CannonFault.code : CannonFault → Nat
  | .none => 0 | .noReply => 1 | .shortReply => 2 | .check => 3 | .badState => 4 | .locked => 5 | .meter => 6

/-- The held command byte of CANNON_QUERY (R161). -/
def heldCode : Option HeldCommand → Nat
  | some ⟨.start _ _ _, _⟩ => 1
  | some ⟨.trim _ _, _⟩ => 2
  | some ⟨.stop, _⟩ => 3
  | some ⟨.test, _⟩ => 4
  | _ => 0

/-- A Bool as a byte value. -/
def flagByte (b : Bool) : Nat := if b then 1 else 0

/-! ### Reader classes -/

/-- The readers a routing set value names: OPS, WTR, MET in bits 0 to 2 (R202). -/
def Readers.ofMask (m : Nat) : Readers := ⟨m.testBit 0, m.testBit 1, m.testBit 2⟩

/-- A reader set holds a class. -/
def Readers.has (r : Readers) : ReaderClass → Bool
  | .ops => r.ops | .wtr => r.wtr | .met => r.met

/-- A reader set with a class put in or taken out. -/
def Readers.set (r : Readers) (v : Bool) : ReaderClass → Readers
  | .ops => { r with ops := v } | .wtr => { r with wtr := v } | .met => { r with met := v }

/-- The union of two reader sets (R169). -/
def Readers.union (a b : Readers) : Readers := ⟨a.ops || b.ops, a.wtr || b.wtr, a.met || b.met⟩

/-- A reader set with no class. -/
def Readers.isEmpty (r : Readers) : Bool := !(r.ops || r.wtr || r.met)

/-- The bit of a reader class in a routing set (R197, R202). -/
def ReaderClass.bit : ReaderClass → Nat
  | .ops => 0 | .wtr => 1 | .met => 2

/-- The reader class of a node class; SVC reads no records (R164). -/
def NodeClass.reader : NodeClass → Option ReaderClass
  | .ops => some .ops | .wtr => some .wtr | .met => some .met | .none => Option.none | .svc => Option.none

/-! ### Fields of requests -/

/-- A 2-byte forecast or weather field: absent when all ones (R48). -/
def field16 (n : Nat) : Option Nat := if n = 65535 then none else some n

/-- A 1-byte unsigned field: absent when 255 (R48). -/
def field8 (b : Byte) : Option Nat := if b = 255#8 then none else some b.toNat

/-- A signed temperature byte: absent when −128 (R48). -/
def fieldTemperature (b : Byte) : Option Int := if b = 128#8 then none else some b.toInt

/-- A present value outside `0` to `hi` is clamped (R48). -/
def clampField (hi : Nat) (v : Option Nat) : Option Nat := v.map (fun n => min hi n)

/-- A present temperature outside −40 to 60 is clamped (R48). -/
def clampTemperature (v : Option Int) : Option Int := v.map (clampInt (-40) 60)

/-- OK, or CLAMPED when a value was brought into range (R199). -/
def okOrClamped (clamped : Bool) : Result := if clamped then .clamped else .ok

/-- The message summary: classes that may send a request code, and its required bytes (R191). -/
def requestInfo (code : Nat) : Option (List NodeClass × Nat) :=
  if code = 0x01 ∨ code = 0x02 then some ([.ops, .met], 0)
  else if code = 0x04 then some ([.ops], 4)
  else if code = 0x05 then some ([.ops], 2)
  else if code = 0x10 then some ([.ops], 6)
  else if code = 0x11 then some ([.ops], 3)
  else if code = 0x12 then some ([.ops], 5)
  else if code = 0x13 then some ([.ops], 1)
  else if code = 0x18 ∨ code = 0x19 then some ([.wtr], 5)
  else if code = 0x1A then some ([.wtr], 2)
  else if code = 0x1B then some ([.wtr], 3)
  else if code = 0x20 then some ([.met], 8)
  else if code = 0x21 then some ([.met], 4)
  else if code = 0x22 then some ([.met], 5)
  else if code = 0x24 then some ([.met, .ops, .wtr], 0)
  else if code = 0x28 ∨ code = 0x2A then some ([.ops, .wtr, .met, .svc], 1)
  else if code = 0x29 ∨ code = 0x2B then some ([.ops, .wtr, .met, .svc], 2)
  else if code = 0x2C then some ([.ops, .svc], 1)
  else if code = 0x30 then some ([.svc], 6)
  else if code = 0x31 then some ([.svc], 2)
  else if code = 0x32 ∨ code = 0x33 ∨ code = 0x34 then some ([.svc], 0)
  else if code = 0x35 then some ([.ops, .svc], 1)
  else if code = 0x36 then some ([.svc], 1)
  else none

/-- MAINT_ENTER and SETTING_COMMIT are the long requests (R194). -/
def isLong (code : Nat) : Bool := decide (code = 0x32 ∨ code = 0x33)

/-! ### Yard bus frames -/

/-- The message code of an identifier: its upper 6 bits (R198). -/
def identifierCode (i : Identifier) : Nat := i.toNat / 32

/-- The sender of an identifier: its lower 5 bits (R198). -/
def identifierNode (i : Identifier) : Node := i.setWidth 5

/-- The identifier of a code from a node (R198). -/
def identifierOf (code node : Nat) : Identifier := BitVec.ofNat 11 (code * 32 + node % 32)

/-- The message code of a frame the part sends (R198). -/
def Frame.code : Frame → Nat
  | .reply _ _ _ _ => 0x3C
  | .notice _ _ _ => 0x3D
  | .record _ _ _ _ => 0x3A

/-- The data bytes of a frame the part sends (R198). -/
def Frame.bytes : Frame → List Byte
  | .reply node code result data => be8 node.toNat ++ be8 code ++ be8 result.code ++ data
  | .notice classes kind data => be8 classes ++ be8 kind.code ++ data
  | .record kind subject value seconds => be8 kind.code ++ be8 subject ++ be16 value ++ be32 seconds

/-! ### Cannon line frames -/

/-- The command code of the cannon line (R139). -/
def LineCommand.code : LineCommand → Nat
  | .ping => 0x01 | .start _ _ _ => 0x02 | .poll => 0x03 | .trim _ _ => 0x04 | .stop => 0x05 | .test => 0x06
  | .allStop => 0x0F

/-- The argument bytes of a command (R139); a TEST's pulse length is always 10 s. -/
def LineCommand.arguments : LineCommand → List Byte
  | .start limit left right => be16 limit ++ be16 left ++ be16 right
  | .trim limit _ => be24 limit
  | .test => be8 10
  | _ => []

/-- How many argument bytes the reply to a command has; nothing answers ALL_STOP (R139). -/
def LineCommand.replyArguments : LineCommand → Nat
  | .ping => 4 | .start _ _ _ => 1 | .poll => 4 | .trim _ _ => 4 | .stop => 4 | .test => 1 | .allStop => 0

/-- A frame of the cannon line: start byte, address, command, length, arguments, CRC-8 (R138). -/
def lineFrame (address code : Nat) (arguments : List Byte) : List Byte :=
  0x7E#8 :: ((be8 address ++ be8 code ++ be8 arguments.length ++ arguments) ++
    [crc8 (be8 address ++ be8 code ++ be8 arguments.length ++ arguments)])

/-- A cannon's own view of itself in a reply (R139). -/
inductive ReplyState where
  | idle | spraying | locked | fault
  deriving DecidableEq, Repr

/-- A taken reply: the cannon's state and, for the commands whose reply has one, its meter (R139). -/
structure Reply where
  state : ReplyState
  meter : Nat
  deriving DecidableEq, Repr

/-- The state byte of a reply, if it is 0 to 3 (R139). -/
def replyStateOf (b : Byte) : Option ReplyState :=
  if b = 0#8 then some .idle else if b = 1#8 then some .spraying else if b = 2#8 then some .locked
  else if b = 3#8 then some .fault else none

/-- How many bytes the line controller reads for the reply to a command (R138). -/
def replyLength (command : LineCommand) : Nat := 5 + command.replyArguments

/-- The judgment of a reply of full length (R138): nothing is a CHECK failure, a reply is taken. -/
def judgeReply (address : Nat) (command : LineCommand) (bytes : List Byte) : Option Reply :=
  match bytes with
  | s :: a :: c :: l :: arguments =>
    if s = 0x7E#8 ∧ a.toNat = address ∧ c.toNat = command.code ∧ l.toNat = command.replyArguments
        ∧ (arguments.drop command.replyArguments).take 1
            = [crc8 (a :: c :: l :: arguments.take command.replyArguments)] then
      match arguments with
      | st :: rest => (replyStateOf st).map (fun v => ⟨v, ofBe (rest.take (command.replyArguments - 1))⟩)
      | [] => none
    else none
  | _ => none

end Sys2Proof.Machine
end

