-- ==== Sys2Proof/Machine/Flags.lean ====
section
/-! DEFINITION. The sticky flags (R184), the condition bytes of the queries (R22, R185) and the MODE notice's hold
reasons byte (R183). -/

namespace Sys2Proof.Machine

/-- The six sticky flags (R184). -/
inductive Flag where
  | settingsInvalid | storeFault | timeUnset | busRecovered | recordOverflow | drainForced
  deriving DecidableEq, Repr

/-- The bit of a flag in the flags byte (R184). -/
def Flag.mask : Flag → Byte
  | .settingsInvalid => 0x01#8 | .storeFault => 0x02#8 | .timeUnset => 0x04#8 | .busRecovered => 0x08#8
  | .recordOverflow => 0x10#8 | .drainForced => 0x20#8

/-- The state with a sticky flag set. -/
def State.setFlag (s : State) (f : Flag) : State := { s with ctrl := { s.ctrl with flags := s.ctrl.flags ||| f.mask } }

/-- TIME_SET clears TIME_UNSET (R187). -/
def State.clearTimeUnset (s : State) : State := { s with ctrl := { s.ctrl with flags := s.ctrl.flags &&& 0xFB#8 } }

/-- FLAG_CLEAR: each flag whose bit is one in the mask is cleared; bits 2, 6 and 7 are ignored (R184). -/
def clearedFlags (flags mask : Byte) : Byte := flags &&& ~~~(mask &&& 0x3B#8)

/-- A byte of conditions from the least significant bit upward. -/
def conditionByte : List Bool → Nat
  | [] => 0
  | b :: rest => flagByte b + 2 * conditionByte rest

/-- The hold reasons byte: OPERATOR in the least significant bit, FREEZE in the next (R183). -/
def reasonsByte (operator freeze : Bool) : Nat := conditionByte [operator, freeze]

end Sys2Proof.Machine
end

