-- ==== Sys2Proof/Machine/Ops.lean ====
section
/-! DEFINITION. The named operations every block uses: the oscillator, the records of the tables, the outbound queue,
the producers' pending notices (R195, R196), the Record Queue (R165 to R172) and the moisture-hold judgments of a bed. -/

namespace Sys2Proof.Machine

/-! ### Time -/

/-- Seconds as oscillator milliseconds. -/
def ms (seconds : Nat) : Nat := seconds * 1000

/-- A timer's expiry tells that the oscillator has reached its deadline (log 1). -/
def State.reach (s : State) (deadline : Nat) : State := { s with osc := max s.osc deadline }

/-! ### Tables -/

/-- The runtime part of bed `b` (R3). -/
def State.bed (s : State) (b : Nat) : Bed := nth s.beds.records (Bed.initial 0) b

/-- The state with the runtime part of bed `b` replaced. -/
def State.setBed (s : State) (b : Nat) (r : Bed) : State :=
  { s with beds := { s.beds with records := setNth s.beds.records b r } }

/-- The record of cannon `c` (R145). -/
def State.cannon (s : State) (c : Nat) : Cannon := nth s.line.cannons Cannon.initial c

/-- The state with the record of cannon `c` replaced. -/
def State.setCannon (s : State) (c : Nat) (r : Cannon) : State :=
  { s with line := { s.line with cannons := setNth s.line.cannons c r } }

/-- The record of dust channel `ch` (R41). -/
def State.channel (s : State) (ch : Nat) : Channel := nth s.meas.channels Channel.initial ch

/-- The state with the record of dust channel `ch` replaced. -/
def State.setChannel (s : State) (ch : Nat) (r : Channel) : State :=
  { s with meas := { s.meas with channels := setNth s.meas.channels ch r } }

/-- The record of a water source (R67). -/
def State.source (s : State) : WaterSource → Source
  | .recycled => s.water.recycled
  | .fresh => s.water.fresh

/-- The state with the record of a water source replaced. -/
def State.setSource (s : State) (w : WaterSource) (r : Source) : State :=
  match w with
  | .recycled => { s with water := { s.water with recycled := r } }
  | .fresh => { s with water := { s.water with fresh := r } }

/-- The available water of a source: balance less reserved (R67). -/
def Source.available (r : Source) : Nat := r.balance - r.reserved

/-- The order on bed `b`, if any (R113). -/
def State.order (s : State) (b : Nat) : Option Order := s.disp.orders.find? (fun o => o.bed == b)

/-- Queue order: priority first, then creation (R113). -/
def Order.before (a b : Order) : Bool :=
  decide (a.origin.priority < b.origin.priority ∨ (a.origin.priority = b.origin.priority ∧ a.serial < b.serial))

/-- An order put into its place in the queue (R113). -/
def insertOrder (o : Order) : List Order → List Order
  | [] => [o]
  | x :: rest => if o.before x then o :: x :: rest else x :: insertOrder o rest

/-- The orders without the order of bed `b`. -/
def ordersWithout (b : Nat) (orders : List Order) : List Order := orders.filter (fun o => o.bed != b)

/-- The state with the order of a bed written, in its place in the queue (R113). -/
def State.putOrder (s : State) (o : Order) : State :=
  { s with disp := { s.disp with orders := insertOrder o (ordersWithout o.bed s.disp.orders) } }

/-- The order whose start uses cannon `c`, if any: the current start of the cannon's record (R145). -/
def State.startOn (s : State) (c : Nat) : Option Order :=
  s.disp.orders.find? (fun o => match o.start with
    | some st => st.cannon == c
    | none => false)

/-- An order is in GRANTED or SPRAYING. -/
def Order.running (o : Order) : Bool := o.state == .granted || o.state == .spraying

/-- An order is in GRANTED, SPRAYING or STOPPING. -/
def Order.inStart (o : Order) : Bool := o.state != .waiting

/-- A cause of a dispatch attempt sets the attempt mark (R120). -/
def State.cause (s : State) : State := { s with disp := { s.disp with attempt := true } }

/-! ### The outbound queue -/

/-- Free entries: 24, less the frames held, less one while a long request's entry is reserved (R195). -/
def State.free (s : State) : Nat := 24 - s.port.outbound.length - (if s.port.long.isSome then 1 else 0)

/-- A frame joins the outbound queue. -/
def State.join (s : State) (f : Frame) : State :=
  { s with port := { s.port with outbound := s.port.outbound ++ [f] } }

/-- A reply joins the outbound queue (R195). -/
def State.reply (s : State) (node : Node) (code : Nat) (r : Result) (data : List Byte) : State :=
  s.join (.reply node code r data)

/-- The room a notice needs: five free entries (R195). -/
def State.room (s : State) : Bool := decide (5 ≤ s.free)

/-- The target class set of a notice kind (R197). -/
def State.classes (s : State) (k : NoticeKind) : Nat := s.conf.noticeSet k.code

/-- A notice joins with its kind's target class set as it stands (R197). -/
def State.notice (s : State) (k : NoticeKind) (data : List Byte) : State := s.join (.notice (s.classes k) k data)

/-! ### Pending lists of HOLD_ENDED, CLAIM_EXPIRED and SPRAY_DONE -/

/-- A pending list after a notice joins it: at most 8, a ninth drops the oldest (R99, R111, R119). -/
def pushPending {α : Type} (pending : List α) (x : α) : List α :=
  if 8 ≤ pending.length then pending.drop 1 ++ [x] else pending ++ [x]

/-- The data of a HOLD_ENDED notice (R111). -/
def HoldEnded.bytes (h : HoldEnded) : List Byte := be8 h.bed ++ be16 h.tag ++ be24 h.tally

/-- The data of a SPRAY_DONE notice (R119). -/
def SprayDone.bytes (d : SprayDone) : List Byte := be8 d.bed ++ be32 d.delivered ++ be8 d.outcome.code

/-- Notices of one kind are queued oldest first while five entries are free; the second part is what stays pending. -/
def sendWhileRoom (k : NoticeKind) : List (List Byte) → State → State × Nat
  | [], s => (s, 0)
  | d :: rest, s =>
    if s.room then
      let r := sendWhileRoom k rest (s.notice k d)
      (r.1, r.2 + 1)
    else (s, 0)

/-- The Bed Table's turn at the outbound queue (R111, R196). -/
def State.flushHoldEnded (s : State) : State :=
  let r := sendWhileRoom .holdEnded (s.beds.pending.map HoldEnded.bytes) s
  { r.1 with beds := { r.1.beds with pending := r.1.beds.pending.drop r.2 } }

/-- The Zone Register's turn at the outbound queue (R99, R196). -/
def State.flushClaimExpired (s : State) : State :=
  let r := sendWhileRoom .claimExpired (s.zones.pending.map be8) s
  { r.1 with zones := { r.1.zones with pending := r.1.zones.pending.drop r.2 } }

/-- The Spray Dispatcher's turn at the outbound queue (R119, R196). -/
def State.flushSprayDone (s : State) : State :=
  let r := sendWhileRoom .sprayDone (s.disp.pending.map SprayDone.bytes) s
  { r.1 with disp := { r.1.disp with pending := r.1.disp.pending.drop r.2 } }

/-- RECORD_OVERFLOW is set when a pending list drops its oldest (R184). -/
def State.overflowIf (s : State) (full : Bool) : State := if full then s.setFlag .recordOverflow else s

/-- The Bed Table makes a HOLD_ENDED notice (R111). -/
def State.makeHoldEnded (s : State) (h : HoldEnded) : State :=
  if s.classes .holdEnded = 0 then s
  else
    let s1 := s.flushHoldEnded
    if s1.room then s1.notice .holdEnded h.bytes
    else { s1.overflowIf (decide (8 ≤ s1.beds.pending.length)) with
      beds := { s1.beds with pending := pushPending s1.beds.pending h } }

/-- The Zone Register makes a CLAIM_EXPIRED notice (R99). -/
def State.makeClaimExpired (s : State) (machine : Nat) : State :=
  if s.classes .claimExpired = 0 then s
  else
    let s1 := s.flushClaimExpired
    if s1.room then s1.notice .claimExpired (be8 machine)
    else { s1.overflowIf (decide (8 ≤ s1.zones.pending.length)) with
      zones := { s1.zones with pending := pushPending s1.zones.pending machine } }

/-- The Spray Dispatcher makes a SPRAY_DONE notice (R119). -/
def State.makeSprayDone (s : State) (d : SprayDone) : State :=
  if s.classes .sprayDone = 0 then s
  else
    let s1 := s.flushSprayDone
    if s1.room then s1.notice .sprayDone d.bytes
    else { s1.overflowIf (decide (8 ≤ s1.disp.pending.length)) with
      disp := { s1.disp with pending := pushPending s1.disp.pending d } }

/-! ### Marks of STARTED, MODE and CANNON_STATE, and pending WATER_USE amounts -/

/-- The data of a STARTED notice (R203). -/
def StartedMark.bytes (m : StartedMark) : List Byte := be8 m.kind.code ++ be8 (flagByte m.valid) ++ be16 m.version

/-- The Settings Store's turn at the outbound queue (R203). -/
def State.flushStarted (s : State) : State :=
  match s.store.started with
  | none => s
  | some m =>
    if s.classes .started = 0 then { s with store := { s.store with started := none } }
    else if s.room then
      let s1 := s.notice .started m.bytes
      { s1 with store := { s1.store with started := none } }
    else s

/-- The data of a MODE notice: the mode and the hold reasons as they stand (R183). -/
def State.modeBytes (s : State) : List Byte :=
  be8 s.ctrl.mode.code ++ be8 (reasonsByte s.ctrl.operator s.ctrl.freeze)

/-- The Mode Controller's turn at the outbound queue (R183). -/
def State.flushMode (s : State) : State :=
  if s.ctrl.modeMark then
    if s.classes .mode = 0 then { s with ctrl := { s.ctrl with modeMark := false } }
    else if s.room then
      let s1 := s.notice .mode s.modeBytes
      { s1 with ctrl := { s1.ctrl with modeMark := false } }
    else s
  else s

/-- A MODE notice is made: the mark is set, and the notice is queued when there is room (R183). -/
def State.makeMode (s : State) : State := { s with ctrl := { s.ctrl with modeMark := true } }.flushMode

/-- The data of a CANNON_STATE notice (R160). -/
def cannonStateBytes (c : Nat) (r : Cannon) : List Byte :=
  be8 c ++ be8 r.activity.code ++ be8 (flagByte r.suspect) ++ be8 r.score ++ be8 r.lastFault.code

/-- One cannon's turn: its mark is cleared as its notice is queued (R160). -/
def flushCannon (s : State) (c : Nat) : State :=
  if (s.cannon c).mark then
    if s.classes .cannonState = 0 then s.setCannon c { s.cannon c with mark := false }
    else if s.room then
      (s.notice .cannonState (cannonStateBytes c (s.cannon c))).setCannon c { s.cannon c with mark := false }
    else s
  else s

/-- The Cannon Line Controller's turn at the outbound queue, in ascending address (R160). -/
def State.flushCannons (s : State) : State := cannonNumbers.foldl flushCannon s

/-- One source's turn: its pending WATER_USE amount is queued and set to 0 (R84). -/
def flushUse (s : State) (w : WaterSource) : State :=
  if (s.source w).pendingUse ≠ 0 ∧ s.room = true then
    (s.notice .waterUse (be8 w.code ++ be32 (s.source w).pendingUse)).setSource w { s.source w with pendingUse := 0 }
  else s

/-- The Water Account's turn at the outbound queue, RECYCLED first (R84). -/
def State.flushWaterUse (s : State) : State := flushUse (flushUse s .recycled) .fresh

/-! ### The Record Queue -/

/-- The unread count of a class: the records whose unread set contains it (R166). -/
def unreadCount (queue : List Record) (c : ReaderClass) : Nat := (queue.filter (fun r => r.unread.has c)).length

/-- The unread count of a class in the state (R166). -/
def State.unread (s : State) (c : ReaderClass) : Nat := unreadCount s.recs.queue c

/-- The classes in the order in which R172 works through them. -/
def readerClasses : List ReaderClass := [.ops, .wtr, .met]

/-- One class's turn: a RECORDS_WAITING notice with the count as it stands, or none for a count of 0 (R172). -/
def flushReader (s : State) (c : ReaderClass) : State :=
  if s.recs.marks.has c = true ∧ s.room = true then
    let s1 := { s with recs := { s.recs with marks := s.recs.marks.set false c } }
    if s.unread c = 0 then s1 else s1.join (.notice (2 ^ c.bit) .recordsWaiting (be8 (s.unread c)))
  else s

/-- The Record Queue's turn at the outbound queue (R172). -/
def State.flushRecords (s : State) : State := readerClasses.foldl flushReader s

/-- Only classes in the RECORDS_WAITING routing set have notices due (R171). -/
def State.tellsClass (s : State) (c : ReaderClass) : Bool := (s.classes .recordsWaiting).testBit c.bit

/-- A count's rise makes a notice due: from 0 to 1, or to the watermark from one below it (R171). -/
def State.riseDue (s : State) (c : ReaderClass) (countBefore countAfter : Nat) : Bool :=
  s.tellsClass c && (decide (countBefore = 0 ∧ countAfter = 1) ||
    decide (countBefore + 1 = s.conf.wMark ∧ countAfter = s.conf.wMark))

/-- The queue after a new record: absorbed into a standing OVERFLOW (R170), displacing the newest of a full queue
(R169), or joined as the newest (R165). -/
def recordJoin (queue : List Record) (r : Record) : List Record :=
  match queue.getLast? with
  | none => [r]
  | some newest =>
    if newest.kind = .overflow then
      queue.dropLast ++ [{ newest with value := saturate 65535 (newest.value + 1), unread := newest.unread.union r.unread }]
    else if 32 ≤ queue.length then
      queue.dropLast ++ [⟨.overflow, 0, 2, r.seconds, r.day, none, newest.unread.union r.unread⟩]
    else queue ++ [r]

/-- The new record is summed up in an OVERFLOW record, not kept (R169, R170). -/
def recordLost (queue : List Record) : Bool :=
  match queue.getLast? with
  | none => false
  | some newest => newest.kind == .overflow || decide (32 ≤ queue.length)

/-- A producer asks for a record (R165), in one event with its effects on the marks (R171) and the timer (R173). -/
def State.askRecord (s : State) (k : RecordKind) (subject value : Nat) (band : Option Band) : State :=
  let set := Readers.ofMask (s.conf.recordSet k.code)
  if set.isEmpty then s
  else
    let queue := recordJoin s.recs.queue ⟨k, subject, value, s.ctrl.seconds, s.ctrl.day, band, set⟩
    let due := fun c => s.recs.marks.has c || s.riseDue c (s.unread c) (unreadCount queue c)
    let readDue := if s.recs.queue.isEmpty then some (s.osc + ms s.conf.tRead) else s.recs.readDue
    (({ s with recs := ⟨queue, ⟨due .ops, due .wtr, due .met⟩, readDue⟩ } : State).overflowIf
      (recordLost s.recs.queue)).flushRecords

/-! ### The pass of R196 -/

/-- One producer's place in the pass: it is offered the room only while five entries are free. -/
def offer (turn : State → State) (s : State) : State := if s.room then turn s else s

/-- The room is offered to the producers in the order of R196. -/
def State.offerRoom (s : State) : State :=
  offer State.flushRecords (offer State.flushWaterUse (offer State.flushSprayDone (offer State.flushClaimExpired
    (offer State.flushHoldEnded (offer State.flushCannons (offer State.flushMode (offer State.flushStarted s)))))))

/-! ### Moisture holds on a bed -/

/-- The room under a hold: the cap less the tally (05, Moisture holds). -/
def Hold.room (h : Hold) : Nat := h.cap - h.tally

/-- A bed is CAPPED while it holds a moisture hold whose room is below Vmin (R109). -/
def Bed.capped (vMin : Nat) (r : Bed) : Bool :=
  match r.hold with
  | some h => decide (h.room < vMin)
  | none => false

/-- Bed `b` is CAPPED (R109). -/
def State.capped (s : State) (b : Nat) : Bool := (s.bed b).capped s.conf.vMin

/-- The judgment of capped at risk (R110): a record at the start of an episode, the flag cleared at its end. -/
def State.judgeAtRisk (s : State) (b : Nat) : State :=
  let r := s.bed b
  if s.capped b = true ∧ r.band = .severe then
    if r.cappedAtRisk then s
    else
      (s.setBed b { r with cappedAtRisk := true }).askRecord .cappedAtRisk b
        (saturate 65535 (((r.hold.map Hold.tally).getD 0) / 100)) (some .severe)
  else s.setBed b { r with cappedAtRisk := false }

/-- How a start counts once the hold of its bed has ended: against no hold (R105, R108). -/
def uncountStart (s : State) (b : Nat) : State :=
  match s.order b with
  | some o => (match o.start with
    | some st => s.putOrder { o with start := some { st with count := .uncounted } }
    | none => s)
  | none => s

/-- A hold is taken off a bed: the capped-at-risk flag is cleared (R12, R20, R105), its running start counts against
no hold, and the end is a cause of a dispatch attempt (R109). -/
def State.removeHold (s : State) (b : Nat) : State :=
  (uncountStart (s.setBed b { s.bed b with hold := none, cappedAtRisk := false }) b).cause

/-- A hold ends with its bed: as removed, with a HOLD_ENDED notice (R12, R111). -/
def State.endHold (s : State) (b : Nat) : State :=
  match (s.bed b).hold with
  | some h => (s.removeHold b).makeHoldEnded ⟨b, h.tag, h.tally⟩
  | none => s

end Sys2Proof.Machine
end

