-- ==== Sys2Proof/Machine/Starts.lean ====
section
/-! DEFINITION. Operations on the starts of orders: how a start is charged, refused, trimmed, stopped or ended by
estimate, and how commands are placed for a cannon (R74, R75, R101, R107, R108, R119, R128 to R130, R143, R148). -/

namespace Sys2Proof.Machine

/-! ### The drain -/

/-- The drain ends: the deadline stops, and the deferred MAINT_ENTER reply is queued in its reserved entry, carrying 0,
or 1 when the deadline forced it (R181, R194). -/
def State.endDrain (s : State) (forced : Bool) : State :=
  match s.port.long with
  | some l =>
    ({ s with ctrl := { s.ctrl with drain := none }, port := { s.port with long := none } } : State).reply
      l.node l.code .ok (be8 (flagByte forced))
  | none => { s with ctrl := { s.ctrl with drain := none } }

/-- The dispatcher is drained when no order is in GRANTED, SPRAYING or STOPPING (R133). -/
def State.drained (s : State) : Bool := s.disp.orders.all (fun o => !o.inStart)

/-- The start end that leaves no order in a start completes the drain (R133, R181). -/
def State.checkDrained (s : State) : State :=
  if s.ctrl.drain.isSome = true ∧ s.drained = true then s.endDrain false else s

/-! ### The end of an order -/

/-- An order ends with an outcome and leaves the queue: the bed's water-short episode ends (R135), and an order whose
manual flag is set makes a SPRAY_DONE notice (R119). -/
def State.removeOrder (s : State) (o : Order) (outcome : OrderOutcome) : State :=
  let s1 := ({ s with disp := { s.disp with orders := ordersWithout o.bed s.disp.orders } } : State).setBed o.bed
    { s.bed o.bed with waterShort := false }
  if o.manual then s1.makeSprayDone ⟨o.bed, o.delivered, outcome⟩ else s1

/-- The life of an order in seconds, by its manual flag (R118). -/
def State.life (s : State) (o : Order) : Nat := if o.manual then s.conf.tLifeManual else s.conf.tLife

/-- The life of an order has passed since its wait start (R118). -/
def State.lifePassed (s : State) (o : Order) : Bool := decide (o.waitStart + ms (s.life o) ≤ s.osc)

/-! ### The moisture hold's view of a start -/

/-- The hold point: deliveries above it count against the hold (R101). -/
def Start.holdPoint (st : Start) : Nat :=
  match st.count with
  | .uncounted => 0
  | .granted => 0
  | .running dh _ => dh
  | .trimmed dt => dt

/-- The share: the most of a start that can count against the hold (R101). -/
def Start.share (st : Start) : Nat :=
  match st.count with
  | .uncounted => 0
  | .granted => st.volume
  | .running dh cap => min (st.volume - dh) cap
  | .trimmed dt => st.volume - dt

/-- The counted delivery of a start that delivered `d` (R108). -/
def Start.counted (st : Start) (d : Nat) : Nat := min (d - st.holdPoint) st.share

/-! ### Charging -/

/-- The charge of an ended start to its source (R74). -/
def State.chargeSource (s : State) (w : WaterSource) (volume d : Nat) : State :=
  let r := s.source w
  let s1 := s.setSource w { r with balance := r.balance - d, reserved := r.reserved - volume,
                                   charged := saturate 4294967295 (r.charged + d) }
  match w with
  | .recycled => s1
  | .fresh => { s1 with water := { s1.water with freshToday := s1.water.freshToday + d } }

/-- Reserved water returns to a source: a start released without delivery, or the lowered part of one (R75). -/
def State.releaseWater (s : State) (w : WaterSource) (volume : Nat) : State :=
  s.setSource w { s.source w with reserved := (s.source w).reserved - volume }

/-- The delivered volume charged to a bed (R16): W rises unless the bed is EMPTY, a FRESH bed that reaches Wcrust
settles (R11), and the last spray end is set. -/
def State.chargeBed (s : State) (b d : Nat) : State :=
  let r := s.bed b
  let w := if r.surface = .empty then r.wetness
           else min 1000 (r.wetness + d * 1000 / (s.conf.area b * s.conf.saturation))
  let settles := decide (r.surface = .fresh ∧ s.conf.wCrust ≤ w)
  s.setBed b { r with wetness := w, surface := if settles then .settled else r.surface,
                      settleSince := if settles then none else r.settleSince, lastSprayEnd := some s.osc }

/-- The counted delivery is added to the tally of the bed's hold, and capped at risk is judged afresh (R108, R110). -/
def State.chargeTally (s : State) (b counted : Nat) : State :=
  match (s.bed b).hold with
  | some h => (s.setBed b { s.bed b with hold := some { h with tally := h.tally + counted } }).judgeAtRisk b
  | none => s

/-- The order's delivered total after a start (R112). A sum past 32 bits is a free value (log 19). -/
def deliveredSum (freeCount total d : Nat) : Nat :=
  if total + d < 4294967296 then total + d else (Config.deliveredOverflow freeCount (total + d)).toNat

/-- Whether the sum of the delivered total takes a free value. -/
def deliveredOpen (total d : Nat) : Bool := decide (4294967296 ≤ total + d)

/-! ### The cannon is free of a start -/

/-- A START or TRIM held for a start is dropped when the start ends (R128, R143). A STOP held stays: after an end by estimate
where R148 keeps it (log 11), and as the model's choice after an end with a reply's meter (log 52). -/
def heldAfterStart : Option HeldCommand → Option HeldCommand
  | some ⟨.start _ _ _, _⟩ => none
  | some ⟨.trim _ _, _⟩ => none
  | h => h

/-- The cannon is free of the start (R130). -/
def State.freeCannon (s : State) (c : Nat) : State :=
  s.setCannon c { s.cannon c with held := heldAfterStart (s.cannon c).held, overrun := false, lastGood := none }

/-- What becomes of an order whose start was acknowledged and has ended (R130). -/
def State.settleEnded (s : State) (o : Order) : State :=
  match o.ending with
  | some outcome => s.removeOrder o outcome
  | none =>
    if o.remaining < s.conf.vMin then s.removeOrder o .complete
    else s.putOrder { o with state := .waiting, blocked := none, waitStart := s.osc }

/-- What becomes of an order whose START was refused (R128): it ends as its ending says, or waits again, and ends
EXPIRED when its life has already run out (R118). -/
def State.settleRefused (s : State) (o : Order) : State :=
  match o.ending with
  | some outcome => s.removeOrder o outcome
  | none =>
    if s.lifePassed o then s.removeOrder o .expired
    else s.putOrder { o with state := .waiting, blocked := none }

/-- The end of an acknowledged start with delivered volume `d` (R130), one event of the dispatcher, the Water Account
and the Bed Table. -/
def State.endStart (s : State) (b d : Nat) : State :=
  match s.order b with
  | none => s
  | some o =>
    match o.start with
    | none => s
    | some st =>
      let s1 := (((s.chargeSource st.source st.volume d).chargeBed b d).chargeTally b (st.counted d)).freeCannon st.cannon
      let s2 := if deliveredOpen o.delivered d then { s1 with freeCount := s1.freeCount + 1 } else s1
      ((s2.settleEnded { o with remaining := o.remaining - d, start := none,
                                delivered := deliveredSum s.freeCount o.delivered d }).cause).checkDrained

/-- A START refused: the reservation is released with nothing delivered, and the cannon is free of the order (R75,
R128). -/
def State.refuseStart (s : State) (b : Nat) : State :=
  match s.order b with
  | none => s
  | some o =>
    match o.start with
    | none => s
    | some st =>
      ((((s.releaseWater st.source st.volume).freeCannon st.cannon).settleRefused
        { o with start := none }).cause).checkDrained

/-- A START answered OK (R128). -/
def State.acknowledgeStart (s : State) (b : Nat) : State :=
  match s.order b with
  | none => s
  | some o =>
    match o.start with
    | none => s
    | some st =>
      s.putOrder { o with start := some { st with acknowledged := true },
                          state := if o.state = .granted then .spraying else o.state }

/-- The delivered figure as last polled (R128). -/
def State.setDelivered (s : State) (b delivered : Nat) : State :=
  match s.order b with
  | none => s
  | some o =>
    match o.start with
    | none => s
    | some st => s.putOrder { o with start := some { st with delivered := some delivered } }

/-- The bed's hold is the one with this serial (R107). -/
def Bed.holdIs (r : Bed) (serial : Nat) : Bool :=
  match r.hold with
  | some h => h.serial == serial
  | none => false

/-- A TRIM reply taken: the start volume is rewritten, the reservation is lowered, and the hold point becomes Dt when
the hold that asked for the TRIM still stands (R75, R107). -/
def State.takeTrim (s : State) (b dt limit serial : Nat) : State :=
  match s.order b with
  | none => s
  | some o =>
    match o.start with
    | none => s
    | some st =>
      let volume := min st.volume (dt + limit)
      let count := if (s.bed b).holdIs serial then HoldCount.trimmed dt else st.count
      let s1 := (s.releaseWater st.source (st.volume - volume)).putOrder
        { o with start := some { st with volume := volume, count := count } }
      if volume < st.volume then s1.cause else s1

/-! ### Test sprays -/

/-- The test allowance of a cannon: ceil(rated flow × 10 / 60) (R87). -/
def Settings.allowance (S : Settings) (c : Nat) : Nat := ceilDiv (S.ratedFlow c * 10) 60

/-- The test charge for a delivered figure (R87). -/
def State.testCharge (s : State) (c delivered : Nat) : Nat :=
  min (min delivered (s.conf.allowance c)) (min s.water.fresh.available (s.conf.fCap - s.water.freshToday))

/-- A test ends with a delivered figure: the test charge lowers the FRESH balance and raises the day's use and the
period's charge (R87, R159). -/
def State.endTest (s : State) (c delivered : Nat) : State :=
  let d := s.testCharge c delivered
  let r := s.water.fresh
  let s1 := s.setCannon c { s.cannon c with test := .none, overrun := false, lastGood := none }
  { s1 with water := { s1.water with
    fresh := { r with balance := r.balance - d, charged := saturate 4294967295 (r.charged + d) },
    freshToday := s1.water.freshToday + d } }

/-! ### Commands for a cannon -/

/-- A command is placed in the cannon's held command (R143). -/
def State.place (s : State) (c : Nat) (command : LineCommand) : State :=
  let s1 := s.setCannon c { s.cannon c with held := some ⟨command, s.line.heldSerial⟩ }
  { s1 with line := { s1.line with heldSerial := s1.line.heldSerial + 1 } }

/-- A withdrawn or dropped START is handed to the dispatcher as refused; the order is the one whose start uses the
cannon (R143). -/
def State.refuseOn (s : State) (c : Nat) : State :=
  match s.startOn c with
  | some o => s.refuseStart o.bed
  | none => s

/-- A STOP is asked for a cannon (R143): never over a held STOP; over a held START or TEST it withdraws it; over a held
TRIM it replaces it. -/
def State.askStop (s : State) (c : Nat) : State :=
  match (s.cannon c).held with
  | some ⟨.stop, _⟩ => s
  | some ⟨.start _ _ _, _⟩ => (s.place c .stop).refuseOn c
  | some ⟨.test, _⟩ => (s.place c .stop).endTest c 0
  | _ => s.place c .stop

/-- A TRIM is asked for the start on a cannon (R143): dropped by a held STOP, folded into a held START with a TRIM
reply of delivered figure 0, placed otherwise. -/
def State.askTrim (s : State) (b c limit serial : Nat) : State :=
  match (s.cannon c).held with
  | some ⟨.stop, _⟩ => s
  | some ⟨.start l left right, n⟩ =>
    (s.setCannon c { s.cannon c with held := some ⟨.start (min l limit) left right, n⟩ }).takeTrim b 0 limit serial
  | some ⟨.test, _⟩ => s
  | _ => s.place c (.trim limit serial)

/-- An order is stopped (R129): GRANTED or SPRAYING becomes STOPPING, with an ending when the cause marks one. -/
def Order.stopped (o : Order) (ending : Option OrderOutcome) : Order :=
  { o with state := .stopping, ending := if ending.isSome then ending else o.ending }

/-- The order on a bed is stopped and a STOP asked for its start's cannon (R129). -/
def State.stopOrder (s : State) (b : Nat) (ending : Option OrderOutcome) : State :=
  match s.order b with
  | none => s
  | some o =>
    if o.running then
      match o.start with
      | some st => (s.putOrder (o.stopped ending)).askStop st.cannon
      | none => s.putOrder (o.stopped ending)
    else s

/-- Every order in GRANTED or SPRAYING that meets a condition is stopped, in queue order (R80, R133, log 21). -/
def State.stopWhere (s : State) (p : Order → Bool) : State :=
  ((s.disp.orders.filter (fun o => o.running && p o)).map Order.bed).foldl (fun t b => t.stopOrder b none) s

/-! ### Cannon activity and the fault score -/

/-- OFFLINE, LOCAL and OUT_OF_SERVICE are the activities whose entry and leaving mark a notice (R160). -/
def CannonActivity.notable : CannonActivity → Bool
  | .offline => true | .locked => true | .outOfService => true | _ => false

/-- The activity of a cannon is set: the CANNON_STATE mark by R160, and a cause of an attempt at IDLE (R120, R147). -/
def State.setActivity (s : State) (c : Nat) (a : CannonActivity) : State :=
  let r := s.cannon c
  let s1 := s.setCannon c { r with activity := a, mark := r.mark || (r.activity != a && (r.activity.notable || a.notable)) }
  if a = .idle then s1.cause else s1

/-- The activity a reply shows, for a cannon that a reply can move: an OUT_OF_SERVICE cannon leaves that state only by
R147 (log 14). -/
def State.showActivity (s : State) (c : Nat) (a : CannonActivity) : State :=
  if (s.cannon c).activity = .outOfService then s else s.setActivity c a

/-- The SUSPECT marker at a score: set from 64 on, cleared below 32, kept between (R146). -/
def suspectAt (score : Nat) (before : Bool) : Bool := if 64 ≤ score then true else if score < 32 then false else before

/-- A cannon record with a new score and its marker, which marks a notice when it changes (R146, R160). -/
def Cannon.withScore (r : Cannon) (score : Nat) : Cannon :=
  { r with score := score, suspect := suspectAt score r.suspect, mark := r.mark || (suspectAt score r.suspect != r.suspect) }

/-- A good transaction: −1, not below 0; an OUT_OF_SERVICE cannon's score stays (R146, R147, log 14). -/
def State.goodTransaction (s : State) (c : Nat) : State :=
  let r := s.cannon c
  if r.activity = .outOfService then s else s.setCannon c (r.withScore (r.score - 1))

/-- The last good reply time of a start or test (R145). -/
def State.noteGoodReply (s : State) (c : Nat) : State := s.setCannon c { s.cannon c with lastGood := some s.osc }

/-- The held command of a cannon is dropped. A held START or TEST is withdrawn with it (R154, log 15). -/
def State.dropHeld (s : State) (c : Nat) : State :=
  let s1 := s.setCannon c { s.cannon c with held := none }
  match (s.cannon c).held with
  | some ⟨.start _ _ _, _⟩ => s1.refuseOn c
  | some ⟨.test, _⟩ => s1.endTest c 0
  | _ => s1

/-- The estimated charge of a start (R148): `t` seconds since its last good reply. -/
def estimatedCharge (volume delivered flow t : Nat) : Nat := min volume (delivered + ceilDiv (flow * (10 + t)) 60)

/-- Whole seconds, rounded up, from a start's last good reply to a time (R148). -/
def secondsSinceGood (r : Cannon) (time : Nat) : Nat := ceilDiv (time - r.lastGood.getD time) 1000

/-- The start on a cannon ends without a delivered figure (R148): by the estimated charge when it was acknowledged,
refused otherwise. -/
def State.estimateStart (s : State) (c time : Nat) : State :=
  match s.startOn c with
  | none => s
  | some o =>
    match o.start with
    | none => s
    | some st =>
      if st.acknowledged then
        s.endStart o.bed (estimatedCharge st.volume (st.delivered.getD 0) (s.conf.ratedFlow c)
          (secondsSinceGood (s.cannon c) time))
      else s.refuseStart o.bed

/-- The test on a cannon ends without a delivered figure: with the allowance when it was answered SPRAYING, with 0
otherwise (R148). -/
def State.estimateTest (s : State) (c : Nat) : State :=
  match (s.cannon c).test with
  | .none => s
  | .placed => s.endTest c 0
  | .spraying => s.endTest c (s.conf.allowance c)

/-- What R148 leaves of a cannon's held command and activity. -/
def State.closeEstimate (s : State) (c : Nat) : State :=
  let r := s.cannon c
  if s.line.state = .ok ∧ r.activity ≠ .outOfService then
    match r.held with
    | some ⟨.stop, _⟩ => s
    | _ => if r.activity = .spraying then s.place c .stop else s.setCannon c { r with held := none }
  else
    let s1 := s.setCannon c { r with held := none }
    if r.activity = .offline ∨ r.activity = .outOfService then s1 else s1.setActivity c .idle

/-- The line controller ends the start or test of a cannon without a delivered figure (R148); `time` is the line
fault, the change to OUT_OF_SERVICE or the deadline. -/
def State.endByEstimate (s : State) (c time : Nat) : State :=
  ((s.estimateStart c time).estimateTest c).closeEstimate c

/-- A cannon has a start or a test in progress. -/
def State.busyCannon (s : State) (c : Nat) : Bool := (s.startOn c).isSome || (s.cannon c).test != .none

/-- A cannon becomes OUT_OF_SERVICE (R146): streak 0, its start or test ended by estimate, its held command dropped, a
CANNON_OUT record, a CANNON_STATE mark. The records that the end asks for come before CANNON_OUT (log 53). -/
def State.goOut (s : State) (c : Nat) : State :=
  let s1 := (s.setCannon c { s.cannon c with streak := 0 }).setActivity c .outOfService
  let s2 := if s1.busyCannon c then s1.endByEstimate c s1.osc else s1
  (s2.setCannon c { s2.cannon c with held := none }).askRecord .cannonOut c 199 none

/-- The good streak after a miss, a LOCAL reply or a BAD_STATE: counted while OUT_OF_SERVICE only (R145, R147). -/
def streakAfterFailure (r : Cannon) : Nat := if r.activity = .outOfService then 0 else r.streak

/-- A scored event (R146): the score rises, the event becomes the last fault, the good streak goes to 0 (R147), and a
score of 200 or more leaves 199 and takes the cannon OUT_OF_SERVICE. -/
def State.scoreEvent (s : State) (c : Nat) (f : CannonFault) (rise : Nat) : State :=
  let r := { s.cannon c with lastFault := f, streak := streakAfterFailure (s.cannon c) }
  if 200 ≤ r.score + rise then
    let s1 := s.setCannon c (r.withScore 199)
    if r.activity = .outOfService then s1 else s1.goOut c
  else s.setCannon c (r.withScore (r.score + rise))

/-- BAD_STATE (R146). -/
def State.scoreBadState (s : State) (c : Nat) : State := s.scoreEvent c .badState 5

/-- A miss (R141, R146): an OFFLINE cannon is neither scored nor changed. -/
def State.scoreMiss (s : State) (c : Nat) (f : CannonFault) : State :=
  if (s.cannon c).activity = .offline then s else s.scoreEvent c f 10

/-- A reply showing LOCAL (R154): activity LOCAL, last fault LOCAL, held command dropped; nothing is scored. An
OUT_OF_SERVICE cannon stays so, its streak at 0 (R147, R153). -/
def State.goLocal (s : State) (c : Nat) : State :=
  let r := s.cannon c
  let s1 := (s.setCannon c { r with lastFault := .locked, streak := streakAfterFailure r }).dropHeld c
  s1.showActivity c .locked

end Sys2Proof.Machine
end

