-- ==== Sys2Proof/Machine/Handler.lean ====
section
/-! DEFINITION. The request handler's take of a request (R193, R194), the owners' common refusals (R1), and the port's
own events: arrival, frame sent, bus-off and recovery (R188 to R196). -/

namespace Sys2Proof.Machine

/-- The answer of exec. -/
abbrev Out := Host.Outcome State Fault Refusal

/-- The request the handler takes next: the oldest urgent one, else the oldest routine one (R193). -/
def State.nextRequest (s : State) : Option Request :=
  match s.port.urgent with
  | r :: _ => some r
  | [] => s.port.routine.head?

/-- The state once the handler has taken that request (R193). -/
def State.takeRequest (s : State) : State :=
  match s.port.urgent with
  | _ :: rest => { s with port := { s.port with urgent := rest } }
  | [] => { s with port := { s.port with routine := s.port.routine.drop 1 } }

/-- Codes 0x00 to 0x0F are urgent (R192). -/
def isUrgent (code : Nat) : Bool := decide (code < 0x10)

/-- A routine request is stale from 5 s after its arrival on; an urgent one never (R193). -/
def State.isStale (s : State) (r : Request) : Bool := !isUrgent r.code && decide (r.arrival + 5000 ≤ s.osc)

/-- The handler can take the request a command names: it is the next one, an outbound entry is free, and the mode takes
requests (R176, R193, log 5). -/
def State.takes (s : State) (node : Node) (code : Nat) (data : List Byte) : Bool :=
  match s.nextRequest with
  | some r => decide (r.node = node ∧ r.code = code ∧ r.data = data ∧ 1 ≤ s.free ∧ s.ctrl.mode ≠ .starting)
  | none => false

/-- The request the handler takes next is stale (R193). -/
def State.nextStale (s : State) : Bool :=
  match s.nextRequest with
  | some r => s.isStale r
  | none => false

/-- The handler's take of a request, and the owner's event with it (R193, R194). A request that cannot be taken waits
(log 5); a stale long request is STALE although another is in progress (log 44). -/
def State.serve (s : State) (node : Node) (code : Nat) (data : List Byte) (owner : State → State) : State :=
  if s.takes node code data then
    if s.nextStale then s.takeRequest.reply node code .stale []
    else if isLong code && s.port.long.isSome then s.takeRequest.reply node code .busy []
    else owner s.takeRequest
  else s

/-- The roster class of a node; the SC24's own node is treated as NONE (R190). -/
def State.classOf (s : State) (node : Node) : NodeClass :=
  if node.toNat = s.conf.ownNode then .none else NodeClass.ofCode (s.conf.rosterCode node.toNat)

/-- An arrival refusal is a reply that needs one free entry; without one nothing is sent (R191). -/
def State.refuseArrival (s : State) (node : Node) (code : Nat) (r : Result) : State :=
  if 1 ≤ s.free then s.reply node code r [] else s

/-- A request frame joins the back of its inbound queue, or is answered BUSY when the queue is full (R191, R192). -/
def State.queueRequest (s : State) (r : Request) : State :=
  if isUrgent r.code then
    if s.port.urgent.length < 8 then { s with port := { s.port with urgent := s.port.urgent ++ [r] } }
    else s.refuseArrival r.node r.code .busy
  else
    if s.port.routine.length < 32 then { s with port := { s.port with routine := s.port.routine ++ [r] } }
    else s.refuseArrival r.node r.code .busy

/-- The checks of R190 and R191 on an arriving frame, in their order. -/
def State.arrive (s : State) (node : Node) (code : Nat) (data : List Byte) : State :=
  match requestInfo code with
  | none => s
  | some (classes, bytes) =>
    if s.classOf node = .none then s
    else if !classes.contains (s.classOf node) then s.refuseArrival node code .refusedClass
    else if data.length < bytes then s.refuseArrival node code .badLength
    else s.queueRequest ⟨node, code, data.take bytes, s.osc⟩

/-- REQUEST_ARRIVAL (R190, R191, R192). No frame arrives while the controller is off the bus, and none is taken in
STARTING. -/
def execRequestArrival (identifier : Identifier) (data : List Byte) (s : State) : Out :=
  .next (if s.port.bus = .joined ∧ s.ctrl.mode ≠ .starting then
    s.arrive (identifierNode identifier) (identifierCode identifier) data else s)

/-- The head of the outbound queue leaves, sent with the node number in force (R188, R200). -/
def State.popFrame (s : State) (f : Frame) (rest : List Frame) : State :=
  { s with port := { s.port with outbound := rest, sent := some ⟨identifierOf f.code s.conf.ownNode, f.bytes⟩ } }

/-- FRAME_SENT (R188, R196): the head frame leaves, and freed room is offered to the producers. -/
def execFrameSent (s : State) : Out :=
  .next (match s.port.outbound with
  | f :: rest => if s.port.bus = .joined then (s.popFrame f rest).offerRoom else s
  | [] => s)

/-- BUS_OFF (R189). -/
def execBusOff (s : State) : Out :=
  .next (if s.port.bus = .joined then { s with port := { s.port with bus := .busOff } } else s)

/-- BUS_RECOVERED (R189). -/
def execBusRecovered (s : State) : Out :=
  .next (if s.port.bus = .busOff then
    ({ s with port := { s.port with bus := .joined } } : State).setFlag .busRecovered else s)

end Sys2Proof.Machine
end

