-- ==== Sys2Proof/Machine/CannonLine.lean ====
section
/-! DEFINITION. The commands of The Cannon Line (R137 to R161): the choice of a transaction, its end, what each reply
does, the line fault, and the requests about cannons. -/

namespace Sys2Proof.Machine

/-! ### The choice of the next transaction -/

/-- Where a held command stands in the order of R142: STOP, then TRIM, then START and TEST. -/
def heldClass : LineCommand → Nat
  | .stop => 2 | .trim _ _ => 3 | .start _ _ _ => 4 | .test => 4 | _ => 9

/-- Of two cannons holding commands of a class, the one held longer. -/
def longerHeld (s : State) (k : Nat) (best : Option Nat) (c : Nat) : Option Nat :=
  match (s.cannon c).held with
  | none => best
  | some h =>
    if heldClass h.command = k then
      match best with
      | none => some c
      | some b => if h.serial < (((s.cannon b).held.map HeldCommand.serial).getD 0) then some c else some b
    else best

/-- The cannon whose held command of a class has been held longest (R142). -/
def State.longestHeld (s : State) (k : Nat) : Option Nat := cannonNumbers.foldl (longerHeld s k) none

/-- Cannon addresses in round-robin order, starting after an address (R142). -/
def roundRobin (last : Nat) : List Nat :=
  cannonNumbers.filter (fun c => decide (last < c)) ++ cannonNumbers.filter (fun c => decide (c ≤ last))

/-- A POLL is due for a cannon (R144). -/
def State.pollIsDue (s : State) (c : Nat) : Bool :=
  let r := s.cannon c
  r.pollDue && r.activity == .spraying && r.held.isNone

/-- The activities that are pinged (R144). -/
def CannonActivity.pinged : CannonActivity → Bool
  | .offline => true | .locked => true | .outOfService => true | _ => false

/-- A PING is due for a cannon in use (R144). -/
def State.pingIsDue (s : State) (c : Nat) : Bool :=
  let r := s.cannon c
  r.pingDue && s.conf.inUse c && r.activity.pinged

/-- The held command of a cannon as a transaction to begin. -/
def State.heldChoice (s : State) (c : Nat) : Option (Nat × LineCommand) :=
  (s.cannon c).held.map (fun h => (c, h.command))

/-- The next transaction in the order of R142: cannon (0 for ALL_STOP) and command. -/
def State.nextTransaction (s : State) : Option (Nat × LineCommand) :=
  if s.line.allStopDue then some (0, .allStop)
  else match s.longestHeld 2 with
  | some c => s.heldChoice c
  | none => match s.longestHeld 3 with
    | some c => s.heldChoice c
    | none => match s.longestHeld 4 with
      | some c => s.heldChoice c
      | none => match (roundRobin s.line.lastPolled).find? s.pollIsDue with
        | some c => some (c, .poll)
        | none => ((roundRobin s.line.lastPinged).find? s.pingIsDue).map (fun c => (c, .ping))

/-- A held command leaves the record when its transaction begins (R143); a POLL or PING is no held command. -/
def LineCommand.isHeld : LineCommand → Bool
  | .start _ _ _ => true | .trim _ _ => true | .stop => true | .test => true | _ => false

/-- A transaction begins: the frame is formed (R138, R139) and the choice leaves what was waiting (R142, R143). -/
def State.beginTransaction (s : State) (c : Nat) (command : LineCommand) : State :=
  let r := s.cannon c
  let s1 := s.setCannon c { r with held := if command.isHeld then none else r.held, pollDue := false, pingDue := false }
  { s1 with line := { s1.line with
      transaction := some ⟨c, command, lineFrame c command.code command.arguments,
        ((s.startOn c).bind Order.start).map Start.sequence, none⟩
      allStopDue := if command = .allStop then false else s1.line.allStopDue
      lastPolled := if command = .poll then c else s1.line.lastPolled
      lastPinged := if command = .ping then c else s1.line.lastPinged } }

/-- TRANSACTION_BEGIN (R142): only on a quiet line in state OK with something waiting. -/
def execTransactionBegin (s : State) : Out :=
  .next (if s.line.transaction.isNone = true ∧ s.line.state = .ok then
    match s.nextTransaction with
    | some (c, command) => s.beginTransaction c command
    | none => s
  else s)

/-- The driver enable output: on from the first byte of a request until its last stop bit has gone (R137). -/
def State.driverEnable (s : State) : Bool :=
  match s.line.transaction with
  | some t => t.sentAt.isNone
  | none => false

/-- REQUEST_SENT (R141): reply timing starts. An ALL_STOP has no reply to time. -/
def execRequestSent (s : State) : Out :=
  .next (match s.line.transaction with
  | some t =>
    if t.sentAt.isNone = true ∧ t.command ≠ .allStop then
      { s with line := { s.line with transaction := some { t with sentAt := some s.osc } } }
    else s
  | none => s)

/-- ALL_STOP (R137, R158): its last byte has gone, and its transaction ends. -/
def execAllStop (s : State) : Out :=
  .next (match s.line.transaction with
  | some t => if t.command = .allStop then { s with line := { s.line with transaction := none } } else s
  | none => s)

/-! ### The end of a transaction -/

/-- The transaction ends: the line is quiet, and the time is the cannon's last transaction end (R144). -/
def State.endTransaction (s : State) (t : Transaction) : State :=
  ({ s with line := { s.line with transaction := none } } : State).setCannon t.cannon
    { s.cannon t.cannon with lastEnd := some s.osc }

/-- The start a transaction serves: the order whose start uses the cannon, when it is the start that was in progress as
the transaction began (log 11). -/
def State.startOf (s : State) (t : Transaction) : Option Order :=
  match s.startOn t.cannon with
  | some o => if o.start.map Start.sequence = t.sequence then some o else none
  | none => none

/-- The start a transaction serves ends with a delivered figure, if it still stands. -/
def State.endServed (s : State) (t : Transaction) (d : Nat) : State :=
  match s.startOf t with
  | some o => s.endStart o.bed d
  | none => s

/-- A test is in progress on a cannon and its TEST has been sent; a TEST still held is no transaction's (log 11). -/
def State.testBegun (s : State) (c : Nat) : Bool :=
  (s.cannon c).test != .none && (s.cannon c).held.map HeldCommand.command != some .test

/-- A test whose TEST has been sent ends with a delivered figure. -/
def State.endBegunTest (s : State) (c delivered : Nat) : State := if s.testBegun c then s.endTest c delivered else s

/-- A reply is taken for the cannon's current start or test: its time becomes the last good reply time (R145). -/
def State.noteReply (s : State) (t : Transaction) : State :=
  if (s.startOf t).isSome || s.testBegun t.cannon then s.noteGoodReply t.cannon else s

/-- A cannon went OUT_OF_SERVICE between two states. -/
def wentOut (before after : State) (c : Nat) : Bool :=
  (before.cannon c).activity != .outOfService && (after.cannon c).activity == .outOfService

/-- What follows a miss, by the command (R149 to R153, R159): a safety STOP after START and TEST, the TRIM or STOP again,
nothing more after POLL and PING. -/
def State.afterMiss (s : State) (t : Transaction) : State :=
  match t.command with
  | .start _ _ _ => s.askStop t.cannon
  | .stop => s.askStop t.cannon
  | .test => s.askStop t.cannon
  | .trim limit hold =>
    (match (s.startOf t), (s.cannon t.cannon).held with
    | none, _ => s
    | some _, some ⟨.stop, _⟩ => s
    | some _, _ => s.place t.cannon (.trim limit hold))
  | _ => s

/-- A transaction ends as a miss (R141): it is scored (R146), then the command's rule says what follows, unless the cannon
has gone OUT_OF_SERVICE (R152, log 13). -/
def State.missed (s : State) (t : Transaction) (f : CannonFault) : State :=
  let s1 := s.scoreMiss t.cannon f
  if wentOut s s1 t.cannon then s1 else s1.afterMiss t

/-- A METER fault (R155): the first of a start scores +20, is noted, and asks for an OVERRUN record; in every one the
meter is counted as the limit. The records of the event come in the order of log 53: what the score brings, then OVERRUN. -/
def State.meterFault (s : State) (c b volume meter : Nat) : State :=
  let s1 := s.setDelivered b volume
  if (s.cannon c).overrun then s1
  else ((s1.setCannon c { s1.cannon c with overrun := true }).scoreEvent c .meter 20).askRecord .overrun c
    (saturate 65535 (meter - volume)) none

/-- The start volume in force of the start a transaction serves. -/
def servedVolume (o : Order) : Nat := (o.start.map Start.volume).getD 0

/-- R155 is judged first: a meter above the limit of the start served. -/
def State.judgeMeter (s : State) (t : Transaction) (meter : Nat) : State :=
  match s.startOf t with
  | some o => if servedVolume o < meter then s.meterFault t.cannon o.bed (servedVolume o) meter else s
  | none => s

/-- The meter is above the limit of the start served. -/
def State.overMeter (s : State) (t : Transaction) (meter : Nat) : Bool :=
  match s.startOf t with
  | some o => decide (servedVolume o < meter)
  | none => false

/-- The delivered figure of a reply: the smaller of its meter and the start volume in force (R149, R155). -/
def State.figure (s : State) (t : Transaction) (meter : Nat) : Nat :=
  match s.startOf t with
  | some o => min meter (servedVolume o)
  | none => meter

/-- A good transaction, unless the reply's meter was a METER fault (R146). -/
def State.goodUnless (s : State) (c : Nat) (excess : Bool) : State := if excess then s else s.goodTransaction c

/-! ### What each reply does -/

/-- A reply has arrived for the transaction in flight (R138, R141): it is taken, or it is a CHECK miss. Bytes that no
transaction is waiting for are discarded, and so are bytes past the length read. The RECORDS_WAITING notices of the event come
before its CANNON_STATE notices (log 50). -/
def State.replied (s : State) (mine : LineCommand → Bool) (bytes : List Byte)
    (taken : State → Transaction → Reply → State) : State :=
  match s.line.transaction with
  | none => s
  | some t =>
    if mine t.command = true ∧ t.sentAt.isSome = true ∧ replyLength t.command ≤ bytes.length then
      (match judgeReply t.cannon t.command (bytes.take (replyLength t.command)) with
      | some r => taken (s.endTransaction t) t r
      | none => (s.endTransaction t).missed t .check).flushCannons
    else s

/-- A PING reply from an OUT_OF_SERVICE cannon (R147, R153). -/
def State.pingOutOfService (s : State) (c : Nat) (r : Reply) : State :=
  match r.state with
  | .idle =>
    let k := s.cannon c
    if 12 ≤ k.streak + 1 then
      let s1 := s.setCannon c ({ k with streak := k.streak + 1 }.withScore 0)
      s1.setActivity c .idle
    else s.setCannon c { k with streak := k.streak + 1 }
  | .locked => s.goLocal c
  | .spraying => (s.scoreBadState c).askStop c
  | .fault => s.scoreBadState c

/-- A good PING of an OFFLINE cannon keeps its score and marker (R147, log 34); any other is a good transaction (R146). -/
def State.goodPing (s : State) (c : Nat) : State :=
  if (s.cannon c).activity = .offline then s else s.goodTransaction c

/-- A PING reply (R153). -/
def State.takePing (s : State) (t : Transaction) (r : Reply) : State :=
  let c := t.cannon
  if (s.cannon c).activity = .outOfService then s.pingOutOfService c r
  else match r.state with
  | .idle => (s.goodPing c).setActivity c .idle
  | .locked => s.goLocal c
  | .spraying => ((s.scoreBadState c).showActivity c .spraying).askStop c
  | .fault => s.scoreBadState c

/-- A refusal drops any TRIM or STOP held for the start (R149). -/
def State.refuseDropping (s : State) (t : Transaction) : State :=
  match s.startOf t with
  | some o =>
    let s1 := s.refuseStart o.bed
    s1.setCannon t.cannon { s1.cannon t.cannon with held := none }
  | none => s

/-- A START reply (R149). -/
def State.takeStart (s : State) (t : Transaction) (r : Reply) : State :=
  let c := t.cannon
  match r.state with
  | .spraying =>
    let s1 := (s.goodTransaction c).showActivity c .spraying
    (match s1.startOf t with
    | some o => (s1.noteGoodReply c).acknowledgeStart o.bed
    | none => s1)
  | .locked => (s.refuseDropping t).goLocal c
  | _ => (s.refuseDropping t).scoreBadState c

/-- A POLL reply (R150, R155, R159). A METER fault that takes the cannon OUT_OF_SERVICE has ended the start, and no STOP is
placed (log 42). -/
def State.takePoll (s : State) (t : Transaction) (r : Reply) : State :=
  let c := t.cannon
  let excess := s.overMeter t r.meter
  let d := s.figure t r.meter
  let s1 := s.judgeMeter t r.meter
  match r.state with
  | .spraying =>
    (match s1.startOf t with
    | some o =>
      let s2 := (s1.goodUnless c excess).setDelivered o.bed d
      if excess then (s2.noteGoodReply c).askStop c else s2.noteGoodReply c
    | none => (s1.goodUnless c excess).noteReply t)
  | .idle => ((((s1.goodUnless c excess).showActivity c .idle).endServed t d).endBegunTest c r.meter)
  | .locked => ((s1.endServed t d).endBegunTest c r.meter).goLocal c
  | .fault => (((s1.showActivity c .idle).endServed t d).endBegunTest c r.meter).scoreBadState c

/-- A TRIM's arguments, as the line controller holds them. -/
def LineCommand.trimLimit : LineCommand → Nat
  | .trim limit _ => limit
  | _ => 0

/-- The serial of the hold that asked for a TRIM. -/
def LineCommand.trimHold : LineCommand → Nat
  | .trim _ hold => hold
  | _ => 0

/-- A TRIM reply (R107, R151, R155). A METER fault that takes the cannon OUT_OF_SERVICE has ended the start, and no STOP is
placed (log 42). -/
def State.takeTrimReply (s : State) (t : Transaction) (r : Reply) : State :=
  let c := t.cannon
  let excess := s.overMeter t r.meter
  let d := s.figure t r.meter
  let s1 := s.judgeMeter t r.meter
  match r.state with
  | .spraying =>
    (match s1.startOf t with
    | some o =>
      let s2 := ((s1.goodUnless c excess).takeTrim o.bed d t.command.trimLimit t.command.trimHold).setDelivered o.bed d
      if excess then (s2.noteGoodReply c).askStop c else s2.noteGoodReply c
    | none => s1.goodUnless c excess)
  | .idle => ((s1.goodUnless c excess).showActivity c .idle).endServed t d
  | .locked => (s1.endServed t d).goLocal c
  | .fault => ((s1.showActivity c .idle).endServed t d).scoreBadState c

/-- A safety STOP's reply with a meter above 0 shows that the cannon took the START: it is handed as answered OK (R149). -/
def State.settleLostStart (s : State) (t : Transaction) (meter : Nat) : State :=
  match s.startOf t with
  | some o =>
    if (o.start.map Start.acknowledged).getD true = false ∧ 0 < meter then s.acknowledgeStart o.bed else s
  | none => s

/-- A confirmed STOP ends the start it serves with the meter, or as refused when the START was never acknowledged, which
drops a STOP held meanwhile, or ends the test; it charges nothing otherwise (R149, R152, R159). -/
def State.confirmStop (s : State) (t : Transaction) (d meter : Nat) : State :=
  match s.startOf t with
  | some o => if (o.start.map Start.acknowledged).getD true then s.endServed t d else s.refuseDropping t
  | none => s.endBegunTest t.cannon meter

/-- A STOP reply that confirms the STOP (R152), with R149's and R155's judgments first. -/
def State.stopConfirmed (s : State) (t : Transaction) (meter : Nat) : State :=
  let s0 := s.settleLostStart t meter
  (s0.judgeMeter t meter).confirmStop t (s0.figure t meter) meter

/-- A STOP reply (R149, R152, R155). One that shows SPRAYING leaves its start or test in progress, so its time is that of the last
reply taken for it (R145); the delivered so far stays as last polled within the limit (R128, log 13). -/
def State.takeStop (s : State) (t : Transaction) (r : Reply) : State :=
  let c := t.cannon
  let excess := s.overMeter t r.meter
  match r.state with
  | .idle => ((s.goodUnless c excess).stopConfirmed t r.meter).showActivity c .idle
  | .locked => (s.stopConfirmed t r.meter).goLocal c
  | .fault => ((s.stopConfirmed t r.meter).showActivity c .idle).scoreBadState c
  | .spraying =>
    let s1 := ((s.noteReply t).judgeMeter t r.meter).scoreBadState c
    if wentOut s s1 c then s1 else s1.askStop c

/-- A TEST reply (R159). -/
def State.takeTest (s : State) (t : Transaction) (r : Reply) : State :=
  let c := t.cannon
  match r.state with
  | .spraying =>
    let s1 := (s.goodTransaction c).showActivity c .spraying
    if (s1.cannon c).test = .placed then s1.setCannon c { s1.cannon c with test := .spraying, lastGood := some s1.osc }
    else s1
  | .locked => (s.endBegunTest c 0).goLocal c
  | _ => (s.endBegunTest c 0).scoreBadState c

/-- PING (R153). -/
def execPing (bytes : List Byte) (s : State) : Out :=
  .next (s.replied (fun k => k == .ping) bytes State.takePing)

/-- START (R149). -/
def execStart (bytes : List Byte) (s : State) : Out :=
  .next (s.replied (fun k => k.code == 0x02) bytes State.takeStart)

/-- POLL (R150). -/
def execPoll (bytes : List Byte) (s : State) : Out :=
  .next (s.replied (fun k => k == .poll) bytes State.takePoll)

/-- TRIM (R151). -/
def execTrim (bytes : List Byte) (s : State) : Out :=
  .next (s.replied (fun k => k.code == 0x04) bytes State.takeTrimReply)

/-- STOP (R152). -/
def execStop (bytes : List Byte) (s : State) : Out :=
  .next (s.replied (fun k => k == .stop) bytes State.takeStop)

/-- TEST (R159). -/
def execTest (bytes : List Byte) (s : State) : Out :=
  .next (s.replied (fun k => k == .test) bytes State.takeTest)

/-- A timeout ends the transaction that waits for a reply (R141); `limit` is its time in ms from the request's end. Its notices
come in the order of log 50. -/
def State.timedOut (s : State) (limit : Nat) (f : CannonFault) : State :=
  match s.line.transaction with
  | some t => (match t.sentAt with
    | some sent =>
      let s1 := s.reach (sent + limit)
      ((s1.endTransaction t).missed t f).flushCannons
    | none => s)
  | none => s

/-- NO_REPLY (R141). -/
def execNoReply (s : State) : Out := .next (s.timedOut s.conf.replyStart .noReply)

/-- SHORT_REPLY (R141). -/
def execShortReply (s : State) : Out := .next (s.timedOut s.conf.replyComplete .shortReply)

/-! ### Due POLLs and PINGs -/

/-- The transaction in flight addresses a cannon. -/
def State.addressing (s : State) (c : Nat) : Bool :=
  match s.line.transaction with
  | some t => t.cannon == c
  | none => false

/-- POLL_DUE (R144): one second since the last transaction of a SPRAYING cannon with no held command. -/
def execPollDue (c : Nat) (s : State) : Out :=
  .next (match (s.cannon c).lastEnd with
  | some ended =>
    if (s.cannon c).activity = .spraying ∧ (s.cannon c).held.isNone = true ∧ s.addressing c = false then
      (s.reach (ended + 1000)).setCannon c { s.cannon c with pollDue := true }
    else s
  | none => s)

/-- PING_DUE (R144): thirty seconds since the last transaction of an OFFLINE, LOCAL or OUT_OF_SERVICE cannon in use. -/
def execPingDue (c : Nat) (s : State) : Out :=
  .next (match (s.cannon c).lastEnd with
  | some ended =>
    if (s.cannon c).activity.pinged = true ∧ s.conf.inUse c = true ∧ s.addressing c = false then
      (s.reach (ended + 30000)).setCannon c { s.cannon c with pingDue := true }
    else s
  | none => s)

/-- One cannon's PING falls due at a sweep (R144). -/
def sweepCannon (s : State) (c : Nat) : State :=
  if s.conf.inUse c then s.setCannon c { s.cannon c with pingDue := true } else s

/-- The sweep: a PING falls due at once for every cannon in use (R144). -/
def State.sweep (s : State) : State := cannonNumbers.foldl sweepCannon s

/-! ### Line fault -/

/-- A cannon's held command is dropped by a line fault (R156). -/
def clearHeld (s : State) (c : Nat) : State := s.setCannon c { s.cannon c with held := none }

/-- A line fault stops an order without a STOP (R129, R156). -/
def Order.faulted (o : Order) : Order := if o.running then o.stopped none else o

/-- LINE_FAULT (R156). The receive line is watched only while driver enable is off (R141). A break held again while the
line is in FAULT changes nothing. -/
def execLineFault (s : State) : Out :=
  .next (if s.line.state = .ok ∧ s.driverEnable = false then
    let s1 := cannonNumbers.foldl clearHeld s
    let s2 : State := { s1 with
      line := { s1.line with state := .fault s.osc false, transaction := none, allStopDue := false }
      disp := { s1.disp with orders := s1.disp.orders.map Order.faulted } }
    s2.askRecord .lineFault 0 0 none
  else s)

/-- The start or test of a cannon, if it has one, ends by estimate (R148). -/
def estimateBusy (time : Nat) (s : State) (c : Nat) : State := if s.busyCannon c then s.endByEstimate c time else s

/-- LINE_FAULT_END_OF_STARTS (R148, R156): ten seconds after the fault, in ascending address (log 21), its notices in the order
of log 50. -/
def execLineFaultEndOfStarts (s : State) : Out :=
  .next (match s.line.state with
  | .fault since false =>
    let s1 := cannonNumbers.foldl (estimateBusy since) (s.reach (since + 10000))
    ({ s1 with line := { s1.line with state := .fault since true } } : State).flushCannons
  | _ => s)

/-- A cannon in use becomes OFFLINE as the line returns, keeping its score, marker and last fault (R157). -/
def returnCannon (s : State) (c : Nat) : State := if s.conf.inUse c then s.setActivity c .offline else s

/-- LINE_RETURN (R157): only once the 10-second ends have been made. -/
def execLineReturn (s : State) : Out :=
  .next (match s.line.state with
  | .fault _ true =>
    let s1 := cannonNumbers.foldl returnCannon ({ s with line := { s.line with state := .ok } } : State)
    s1.sweep.cause.flushCannons
  | _ => s)

/-! ### Requests about cannons -/

/-- A request's cannon is 0, above 24 or not in use (R147, R159). -/
def State.unknownCannon (s : State) (c : Nat) : Bool := !(decide (1 ≤ c ∧ c ≤ 24) && s.conf.inUse c)

/-- The owner's event of CANNON_RESTORE (R147). -/
def State.cannonRestore (s : State) (node : Node) (c : Nat) : State :=
  if s.unknownCannon c then s.reply node 0x35 .unknownCannon []
  else if s.busyCannon c then s.reply node 0x35 .failed []
  else
    let s1 := s.setActivity c .offline
    let r := s1.cannon c
    let s2 := s1.setCannon c { (r.withScore 0) with lastFault := .none, streak := 0, pingDue := true }
    s2.flushCannons.reply node 0x35 .ok []

/-- CANNON_RESTORE (R147, R193). -/
def execCannonRestore (node : Node) (cannon : Byte) (s : State) : Out :=
  .next (s.serve node 0x35 [cannon] (fun t => t.cannonRestore node cannon.toNat))

/-- Some test spray is in progress (R159). -/
def State.testing (s : State) : Bool := cannonNumbers.any (fun c => (s.cannon c).test != .none)

/-- The Water Account allows a test on a cannon (R87). -/
def State.allowsTest (s : State) (c : Nat) : Bool :=
  decide (s.conf.allowance c ≤ s.water.fresh.available ∧
    s.water.freshToday + s.water.fresh.reserved + s.conf.allowance c ≤ s.conf.fCap)

/-- A TEST is asked for a cannon, whose current start becomes TEST (R143, R159). A held STOP drops it, and the test ends
with nothing charged (log 45). -/
def State.askTest (s : State) (c : Nat) : State :=
  match (s.cannon c).held with
  | some ⟨.stop, _⟩ => s
  | _ => (s.setCannon c { s.cannon c with test := .placed, overrun := false, lastGood := none }).place c .test

/-- The owner's event of TEST_SPRAY (R159). -/
def State.testSpray (s : State) (node : Node) (c : Nat) : State :=
  if s.unknownCannon c then s.reply node 0x36 .unknownCannon []
  else if s.ctrl.mode ≠ .maintenance then s.reply node 0x36 .wrongMode []
  else if s.ctrl.drain.isSome || s.testing then s.reply node 0x36 .busy []
  else if s.line.state ≠ .ok ∨ (s.cannon c).activity ≠ .idle then s.reply node 0x36 .failed []
  else if !s.allowsTest c then s.reply node 0x36 .failed []
  else (s.askTest c).reply node 0x36 .ok (be16 (s.conf.allowance c))

/-- TEST_SPRAY (R159, R193). -/
def execTestSpray (node : Node) (cannon : Byte) (s : State) : Out :=
  .next (s.serve node 0x36 [cannon] (fun t => t.testSpray node cannon.toNat))

/-- A cannon as CANNON_QUERY shows it: one not in use is answered as OFFLINE (R161). -/
def State.shownCannon (s : State) (c : Nat) : Cannon := if s.conf.inUse c then s.cannon c else Cannon.initial

/-- The line state byte (R161). -/
def LineState.code : LineState → Nat
  | .ok => 0
  | .fault _ _ => 1

/-- The data of a CANNON_QUERY part (R161). -/
def State.cannonPart (s : State) (c part : Nat) : List Byte :=
  let r := s.shownCannon c
  if part = 0 then
    be8 r.activity.code ++ be8 (flagByte r.suspect) ++ be8 r.score ++ be8 r.lastFault.code ++
      be8 (((s.startOn c).map Order.bed).getD 0)
  else if part = 1 then
    be24 ((((s.startOn c).bind Order.start).bind Start.delivered).getD 16777215) ++ be8 (heldCode r.held) ++ be8 r.streak
  else be16 (s.conf.ratedFlow c) ++ be16 (s.conf.startLimit c) ++ be8 s.line.state.code

/-- The owner's event of CANNON_QUERY (R161). -/
def State.cannonQuery (s : State) (node : Node) (c part : Nat) : State :=
  if c = 0 ∨ 24 < c then s.reply node 0x2B .unknownCannon []
  else if 2 < part then s.reply node 0x2B .badValue []
  else s.reply node 0x2B .ok (s.cannonPart c part)

/-- CANNON_QUERY (R161, R193). -/
def execCannonQuery (node : Node) (cannon part : Byte) (s : State) : Out :=
  .next (s.serve node 0x2B [cannon, part] (fun t => t.cannonQuery node cannon.toNat part.toNat))

end Sys2Proof.Machine
end

