-- ==== Sys2Proof/Machine/Records.lean ====
section
/-! DEFINITION. Exceedance Records: the reading of a record (R167, R168) and the read timer (R173). The making of a record
(R165, R169 to R172) is State.askRecord of Machine/Ops.lean. -/

namespace Sys2Proof.Machine

/-- The oldest record whose unread set holds a class (R167). -/
def oldestFor (queue : List Record) (c : ReaderClass) : Option Record := queue.find? (fun r => r.unread.has c)

/-- The queue after a class has read its oldest record: the class leaves its unread set, and a record whose set is then
empty leaves the queue (R168). -/
def afterRead (c : ReaderClass) : List Record → List Record
  | [] => []
  | r :: rest =>
    if r.unread.has c then
      if (r.unread.set false c).isEmpty then rest else { r with unread := r.unread.set false c } :: rest
    else r :: afterRead c rest

/-- The record leaves the class's unread records; the timer stops when the queue becomes empty (R168, R173). -/
def State.readRecord (s : State) (c : ReaderClass) : State :=
  let queue := afterRead c s.recs.queue
  { s with recs := { s.recs with queue := queue, readDue := if queue.isEmpty then none else s.recs.readDue } }

/-- The record frame of a record (R167). -/
def Record.frame (r : Record) : Frame := .record r.kind r.subject r.value r.seconds

/-- The owner's event of RECORD_READ for a reader class (R167). -/
def State.recordReadFor (s : State) (node : Node) (c : ReaderClass) : State :=
  if s.room then
    match oldestFor s.recs.queue c with
    | none => s.reply node 0x24 .empty []
    | some r =>
      let s1 := s.readRecord c
      (s1.join r.frame).reply node 0x24 .ok (be16 r.day ++ be8 (bandByte r.band) ++ be8 (s1.unread c))
  else s.reply node 0x24 .busy []

/-- The owner's event of RECORD_READ: the reader's class is the roster class of its node (R167). -/
def State.recordRead (s : State) (node : Node) : State :=
  match (s.classOf node).reader with
  | some c => s.recordReadFor node c
  | none => s.reply node 0x24 .empty []

/-- RECORD_READ (R167, R193). -/
def execRecordRead (node : Node) (s : State) : Out := .next (s.serve node 0x24 [] (fun t => t.recordRead node))

/-- The read timer makes a notice due for a class with unread records (R171, R173). -/
def State.timerDue (s : State) (c : ReaderClass) : Bool := s.recs.marks.has c || (s.tellsClass c && decide (0 < s.unread c))

/-- READ_TIMER_EXPIRY (R173). -/
def execReadTimerExpiry (s : State) : Out :=
  .next (match s.recs.readDue with
  | some due =>
    let s1 := s.reach due
    ({ s1 with recs := { s1.recs with
        marks := ⟨s1.timerDue .ops, s1.timerDue .wtr, s1.timerDue .met⟩
        readDue := some (due + ms s.conf.tRead) } } : State).flushRecords
  | none => s)

end Sys2Proof.Machine
end

