-- ==== Sys2Proof/Machine/WaterAccount.lean ====
section
/-! DEFINITION. The Water Account (R67 to R91): grants and withdrawals, offers, the gate, the pump header with the
capacity drop of R132, the usage period and the WATER_USE and DEMAND notices. -/

namespace Sys2Proof.Machine

/-- The ceiling of a balance (R67). -/
def balanceLimit : Nat := 100000000

/-! ### Grants and withdrawals -/

/-- The owner's event of WATER_GRANT for a source (R69). -/
def State.grantWater (s : State) (node : Node) (w : WaterSource) (amount : Nat) : State :=
  let r := s.source w
  let accepted := min amount (balanceLimit - r.balance)
  let s1 := s.setSource w { r with balance := r.balance + accepted }
  (if accepted = 0 then s1 else s1.cause).reply node 0x18 (okOrClamped (decide (accepted < amount))) (be32 accepted)

/-- The owner's event of WATER_GRANT (R69). -/
def State.waterGrant (s : State) (node : Node) (source : Byte) (amount : Nat) : State :=
  match sourceOf source with
  | none => s.reply node 0x18 .badValue []
  | some w => s.grantWater node w amount

/-- WATER_GRANT (R69, R193). -/
def execWaterGrant (node : Node) (source : Byte) (amount : BitVec 32) (s : State) : Out :=
  .next (s.serve node 0x18 (source :: be32 amount.toNat) (fun t => t.waterGrant node source amount.toNat))

/-- The owner's event of WATER_WITHDRAW for a source (R70). -/
def State.withdrawWater (s : State) (node : Node) (w : WaterSource) (amount : Nat) : State :=
  let r := s.source w
  let taken := min amount r.available
  let s1 := s.setSource w { r with balance := r.balance - taken }
  (if taken = 0 then s1 else s1.cause).reply node 0x19 (okOrClamped (decide (taken < amount))) (be32 taken)

/-- The owner's event of WATER_WITHDRAW (R70). -/
def State.waterWithdraw (s : State) (node : Node) (source : Byte) (amount : Nat) : State :=
  match sourceOf source with
  | none => s.reply node 0x19 .badValue []
  | some w => s.withdrawWater node w amount

/-- WATER_WITHDRAW (R70, R193). -/
def execWaterWithdraw (node : Node) (source : Byte) (amount : BitVec 32) (s : State) : Out :=
  .next (s.serve node 0x19 (source :: be32 amount.toNat) (fun t => t.waterWithdraw node source amount.toNat))

/-! ### Offers -/

/-- The fresh room (R76). -/
def State.freshRoom (s : State) : Nat := s.conf.fCap - (s.water.freshToday + s.water.fresh.reserved)

/-- A source's offer to an order of a priority (R71). -/
def State.offerOf (s : State) (w : WaterSource) (o : Origin) : Option Nat :=
  match w, o with
  | .recycled, .prewet =>
    if s.water.gate = .isOpen then some (s.water.recycled.available - s.conf.rFloor) else none
  | .recycled, _ => if s.water.gate = .isOpen then some s.water.recycled.available else none
  | .fresh, .autoSevere => some (min s.water.fresh.available s.freshRoom)
  | .fresh, .manual => some (min s.water.fresh.available s.freshRoom)
  | .fresh, _ => none

/-- The source with its offer, when it permits the order (R71). -/
def State.permitted (s : State) (w : WaterSource) (o : Origin) : Option (WaterSource × Nat) :=
  match s.offerOf w o with
  | some v => if s.conf.vMin ≤ v then some (w, v) else none
  | none => none

/-- RECYCLED if it permits the order, otherwise FRESH if it permits (R72). -/
def State.eitherSource (s : State) (o : Origin) : Option (WaterSource × Nat) :=
  match s.permitted .recycled o with
  | some c => some c
  | none => s.permitted .fresh o

/-- The source chosen for an order, with its offer (R72). -/
def State.chooseSource (s : State) (o : Origin) (p : Preference) : Option (WaterSource × Nat) :=
  match o, p with
  | .autoAct, _ => s.permitted .recycled o
  | .prewet, _ => s.permitted .recycled o
  | _, .recycled => s.permitted .recycled o
  | _, .fresh => s.permitted .fresh o
  | _, .any => s.eitherSource o

/-- The account reserves a start volume (R73). -/
def State.reserveWater (s : State) (w : WaterSource) (volume : Nat) : State :=
  s.setSource w { s.source w with reserved := (s.source w).reserved + volume }

/-! ### The quality gate -/

/-- The gate after a judgment of a turbidity (R79). -/
def gateAfter (limit turbidity : Nat) (before : Gate) : Gate :=
  match before with
  | .isOpen => if limit < turbidity then .gated else .isOpen
  | .gated => if turbidity + 10 ≤ limit then .isOpen else .gated

/-- The start of an order draws on a source. -/
def Order.draws (w : WaterSource) (o : Order) : Bool :=
  match o.start with
  | some st => st.source == w
  | none => false

/-- The gate is judged: a change is a cause, and a closure stops the starts on RECYCLED (R79, R80, R89). -/
def State.judgeGate (s : State) (turbidity : Nat) : State :=
  let after := gateAfter s.conf.qLim turbidity s.water.gate
  let s1 : State := { s with water := { s.water with gate := after } }
  if after = s.water.gate then s1
  else (if after = .gated then s1.stopWhere (Order.draws .recycled) else s1).cause

/-- The owner's event of WATER_QUALITY (R79, R80). -/
def State.waterQuality (s : State) (node : Node) (turbidity : Nat) : State :=
  let t := min 4000 turbidity
  let s1 := ({ s with water := { s.water with turbidity := some t } } : State).judgeGate t
  s1.reply node 0x1A (okOrClamped (decide (4000 < turbidity))) (be8 s1.water.gate.code)

/-- WATER_QUALITY (R79, R193). -/
def execWaterQuality (node : Node) (turbidity : BitVec 16) (s : State) : Out :=
  .next (s.serve node 0x1A (be16 turbidity.toNat) (fun t => t.waterQuality node turbidity.toNat))

/-! ### The pump header -/

/-- The rated flow of the cannon of an order's start. -/
def State.flowOf (s : State) (o : Order) : Nat :=
  match o.start with
  | some st => s.conf.ratedFlow st.cannon
  | none => 0

/-- The summed rated flow of orders' cannons. -/
def State.flowSum (s : State) (orders : List Order) : Nat := (orders.map s.flowOf).sum

/-- The orders in GRANTED or SPRAYING. -/
def State.runningOrders (s : State) : List Order := s.disp.orders.filter Order.running

/-- The orders in GRANTED, SPRAYING or STOPPING. -/
def State.startedOrders (s : State) : List Order := s.disp.orders.filter Order.inStart

/-- A number of starts and a summed flow fit the header (R125, R132). -/
def State.headerFits (s : State) (count flow : Nat) : Bool :=
  decide (count ≤ s.water.slotCapacity ∧ flow ≤ s.water.flowCapacity)

/-- How many grants ago an order's start was granted; the grant sequence wraps at 65,536 (R112, log 20). -/
def State.grantAge (s : State) (o : Order) : Nat :=
  (s.disp.grantSequence + 65536 - (o.start.map Start.sequence).getD 0) % 65536

/-- The later granted of two orders. -/
def laterGranted (s : State) (best : Option Order) (o : Order) : Option Order :=
  match best with
  | none => some o
  | some b => if s.grantAge o < s.grantAge b then some o else some b

/-- The order in GRANTED or SPRAYING that was granted latest (R132). -/
def State.latestGranted (s : State) : Option Order := s.runningOrders.foldl (laterGranted s) none

/-- The capacity drop: the latest grant is stopped while too much runs (R132); at most one stop for each order. -/
def dropCapacity : Nat → State → State
  | 0, s => s
  | n + 1, s =>
    if s.headerFits s.runningOrders.length (s.flowSum s.runningOrders) then s
    else match s.latestGranted with
    | some o => dropCapacity n (s.stopOrder o.bed none)
    | none => s

/-- Both capacities are formed again from the header record and the settings (R81). -/
def State.formCapacities (s : State) : State :=
  { s with water := { s.water with
    slotCapacity := min s.conf.nSlot (s.water.pumps * s.conf.kSlot)
    flowCapacity := min s.conf.fHead s.water.flowLimit } }

/-- The owner's event of PUMP_STATE (R82, R132). -/
def State.pumpState (s : State) (node : Node) (pumps flow : Nat) : State :=
  let s1 := ({ s with water := { s.water with pumps := min 8 pumps, flowLimit := flow } } : State).formCapacities
  let s2 := if s1.water.slotCapacity < s.water.slotCapacity ∨ s1.water.flowCapacity < s.water.flowCapacity
            then dropCapacity s1.disp.orders.length s1 else s1
  let s3 := if s.water.slotCapacity < s1.water.slotCapacity ∨ s.water.flowCapacity < s1.water.flowCapacity
            then s2.cause else s2
  s3.reply node 0x1B (okOrClamped (decide (8 < pumps))) []

/-- PUMP_STATE (R82, R193). -/
def execPumpState (node : Node) (pumps : Byte) (flow : BitVec 16) (s : State) : Out :=
  .next (s.serve node 0x1B (pumps :: be16 flow.toNat) (fun t => t.pumpState node pumps.toNat flow.toNat))

/-! ### Usage and demand -/

/-- One source at a usage period's end (R83, R84): the charged amount joins the pending amount of a routed kind. -/
def closePeriod (s : State) (w : WaterSource) : State :=
  let r := s.source w
  s.setSource w { r with
    pendingUse := if s.classes .waterUse = 0 then r.pendingUse else saturate 4294967295 (r.pendingUse + r.charged)
    charged := 0 }

/-- USAGE_PERIOD_EXPIRY (R83, R84, R86). -/
def execUsagePeriodExpiry (s : State) : Out :=
  .next (match s.water.usageDue with
  | some due =>
    let s1 := s.reach due
    let s2 : State := { s1 with water := { s1.water with usageDue := some (due + ms s.conf.tUse), demandMark := false } }
    (closePeriod (closePeriod s2 .recycled) .fresh).flushWaterUse
  | none => s)

/-- An order is water-blocked (R85). -/
def Order.waterBlocked (o : Order) : Bool := o.state == .waiting && o.blocked == some .water

/-- The source a water-blocked order is counted under (R85). -/
def Order.wantedFrom (gate : Gate) (o : Order) : WaterSource :=
  match o.preference, o.origin with
  | .recycled, _ => .recycled
  | .fresh, _ => .fresh
  | .any, .autoAct => .recycled
  | .any, .prewet => .recycled
  | .any, _ => if gate = .isOpen then .recycled else .fresh

/-- The wanted amount for a source (R85). -/
def State.wanted (s : State) (w : WaterSource) : Nat :=
  ((s.disp.orders.filter (fun o => o.waterBlocked && o.wantedFrom s.water.gate == w)).map Order.remaining).sum

/-- The DEMAND notice at the end of an attempt (R86). -/
def State.makeDemand (s : State) : State :=
  if s.disp.orders.any Order.waterBlocked = true ∧ s.water.demandMark = false ∧ s.classes .demand ≠ 0 ∧ s.room = true then
    let s1 := s.notice .demand (be24 (saturate 16777215 (s.wanted .recycled)) ++ be24 (saturate 16777215 (s.wanted .fresh)))
    { s1 with water := { s1.water with demandMark := true } }
  else s

/-! ### WATER_QUERY -/

/-- The data of a WATER_QUERY part (R90). -/
def State.waterPart (s : State) (part : Nat) : List Byte :=
  if part = 0 then be32 s.water.recycled.balance ++ be8 s.water.gate.code
  else if part = 1 then be32 s.water.recycled.reserved ++ be8 (flagByte s.water.demandMark)
  else if part = 2 then be32 s.water.fresh.balance
  else if part = 3 then be32 s.water.fresh.reserved
  else if part = 4 then be32 s.water.freshToday
  else if part = 5 then
    be16 (s.water.turbidity.getD 65535) ++ be8 s.water.pumps ++ be8 s.water.slotCapacity ++ be8 s.startedOrders.length
  else be16 s.water.flowCapacity ++ be16 (saturate 65535 (s.flowSum s.startedOrders))

/-- The owner's event of WATER_QUERY (R90). -/
def State.waterQuery (s : State) (node : Node) (part : Nat) : State :=
  if 6 < part then s.reply node 0x2A .badValue [] else s.reply node 0x2A .ok (s.waterPart part)

/-- WATER_QUERY (R90, R193). -/
def execWaterQuery (node : Node) (part : Byte) (s : State) : Out :=
  .next (s.serve node 0x2A [part] (fun t => t.waterQuery node part.toNat))

end Sys2Proof.Machine
end

