-- ==== Sys2Proof/Machine/Orders.lean ====
section
/-! DEFINITION. Spray Orders (R112 to R136): demands and manual orders, cancelling and expiry, the dispatch attempt with
its checks, the grant, and the WATER_SHORT records. -/

namespace Sys2Proof.Machine

/-! ### Creation and merging -/

/-- A new order joins the queue (R113, R114). -/
def State.createOrder (s : State) (b : Nat) (origin : Origin) (volume : Nat) (manual : Bool) (p : Preference) : State :=
  let s1 := s.putOrder ⟨s.disp.nextId, b, origin, volume, 0, manual, p, .waiting, none, none, none, s.osc, s.osc,
    s.disp.serial⟩
  { s1 with disp := { s1.disp with nextId := (s.disp.nextId + 1) % 256, serial := s.disp.serial + 1 } }.cause

/-- An order after a merge; a merge that changes it is a cause of a dispatch attempt (R114). -/
def State.mergeOrder (s : State) (before after : Order) : State :=
  if after = before then s else (s.putOrder after).cause

/-- An order after a demand of at least Vmin (R114). -/
def Order.withDemand (o : Order) (origin : Origin) (volume : Nat) : Order :=
  { o with origin := o.origin.moreUrgent origin
           remaining := if o.state = .waiting then (if o.manual then max o.remaining volume else volume) else o.remaining }

/-- A demand of V at or above Vmin (R114). -/
def State.takeDemand (s : State) (b : Nat) (origin : Origin) (volume : Nat) : State :=
  match s.order b with
  | none => s.createOrder b origin volume false .any
  | some o => s.mergeOrder o (o.withDemand origin volume)

/-- A short demand (R115). -/
def State.takeShort (s : State) (b : Nat) (origin : Origin) : State :=
  match s.order b with
  | none => s
  | some o =>
    if o.state = .waiting ∧ o.manual = false then s.removeOrder o .satisfied
    else s.mergeOrder o { o with origin := o.origin.moreUrgent origin }

/-- The Risk Engine hands a demand, or a short demand when V is below Vmin (R63). -/
def State.handDemand (s : State) (b : Nat) (origin : Origin) (volume : Nat) : State :=
  if s.conf.vMin ≤ volume then s.takeDemand b origin volume else s.takeShort b origin

/-- The volume a MANUAL_SPRAY is taken at (R116). -/
def manualVolume (vMin volume : Nat) : Nat := max vMin (min 100000 volume)

/-- An order after a manual merge (R116). -/
def Order.withManual (o : Order) (volume : Nat) (p : Preference) : Order :=
  { o with origin := o.origin.moreUrgent .manual, manual := true, preference := p
           remaining := if o.state = .waiting then max o.remaining volume else o.remaining }

/-- The order of a bed is created or merged by a MANUAL_SPRAY (R116). -/
def State.takeManual (s : State) (b volume : Nat) (p : Preference) : State :=
  match s.order b with
  | none => s.createOrder b .manual volume true p
  | some o => s.mergeOrder o (o.withManual volume p)

/-- The data of a MANUAL_SPRAY reply (R116). -/
def orderBytes (o : Option Order) : List Byte :=
  match o with
  | some o => be8 o.id ++ be8 o.state.code ++ be16 (o.remaining / 100) ++ be8 (blockCode o.blocked)
  | none => []

/-- The owner's event of MANUAL_SPRAY (R116). -/
def State.manualSpray (s : State) (node : Node) (b volume : Nat) (preference : Byte) : State :=
  if !s.conf.bedDefined b then s.reply node 0x12 .unknownBed []
  else match preferenceOf preference with
  | none => s.reply node 0x12 .badValue []
  | some p =>
    let taken := manualVolume s.conf.vMin volume
    let s1 := s.takeManual b taken p
    s1.reply node 0x12 (okOrClamped (taken != volume)) (orderBytes (s1.order b))

/-- MANUAL_SPRAY (R116, R193). -/
def execManualSpray (node : Node) (bed : Byte) (volume : BitVec 24) (preference : Byte) (s : State) : Out :=
  .next (s.serve node 0x12 (bed :: be24 volume.toNat ++ [preference])
    (fun t => t.manualSpray node bed.toNat volume.toNat preference))

/-- The effect of CANCEL_SPRAY on an order, by its state (R117). -/
def State.cancelOrder (s : State) (o : Order) : State :=
  match o.state with
  | .waiting => s.removeOrder o .cancelled
  | .stopping => s.putOrder { o with ending := some .cancelled }
  | _ => s.stopOrder o.bed (some .cancelled)

/-- The owner's event of CANCEL_SPRAY (R117). -/
def State.cancelSpray (s : State) (node : Node) (b : Nat) : State :=
  if !s.conf.bedDefined b then s.reply node 0x13 .unknownBed []
  else match s.order b with
  | none => s.reply node 0x13 .empty []
  | some o => (s.cancelOrder o).reply node 0x13 .ok (be8 o.id ++ be32 o.delivered)

/-- CANCEL_SPRAY (R117, R193). -/
def execCancelSpray (node : Node) (bed : Byte) (s : State) : Out :=
  .next (s.serve node 0x13 [bed] (fun t => t.cancelSpray node bed.toNat))

/-- ORDER_EXPIRY (R118): the life of a waiting order has passed. -/
def execOrderExpiry (b : Nat) (s : State) : Out :=
  .next (match s.order b with
  | some o =>
    if o.state = .waiting then (s.reach (o.waitStart + ms (s.life o))).removeOrder o .expired else s
  | none => s)

/-! ### The checks -/

/-- A bed is claimed: an entry of the machine table covers it (R92). -/
def State.claimed (s : State) (b : Nat) : Bool := s.zones.entries.any (fun e => decide (e.first ≤ b ∧ b ≤ e.last))

/-- A cannon is eligible for a start (R124). A START is asked only for a cannon with no held command (R143). -/
def State.eligible (s : State) (c : Nat) : Bool :=
  s.line.state == .ok && (s.cannon c).activity == .idle && (s.startOn c).isNone && (s.cannon c).held.isNone &&
    decide (s.conf.vMin ≤ s.conf.startLimit c)

/-- The cannon list of a bed with its indices, beginning at the rotation cursor and wrapping (R21). -/
def rotated (list : List ListEntry) (cursor : Nat) : List (Nat × ListEntry) :=
  let numbered := (List.range list.length).zip list
  numbered.drop cursor ++ numbered.take cursor

/-- The entry chosen for a bed: the first eligible one that is not SUSPECT, failing that the first SUSPECT one (R21). -/
def State.chooseCannon (s : State) (b : Nat) : Option (Nat × ListEntry) :=
  let fit := (rotated (s.conf.cannonList b) (s.bed b).cursor).filter (fun e => s.eligible e.2.cannon)
  match fit.find? (fun e => !(s.cannon e.2.cannon).suspect) with
  | some e => some e
  | none => fit.head?

/-- The CAPACITY check for a cannon (R125). -/
def State.hasCapacity (s : State) (c : Nat) : Bool :=
  s.headerFits (s.startedOrders.length + 1) (s.flowSum s.startedOrders + s.conf.ratedFlow c)

/-- What an order that passes every check is granted with. -/
structure Award where
  source : WaterSource
  offer : Nat
  index : Nat
  entry : ListEntry
  deriving DecidableEq, Repr

/-- The mode allows grants (R122, R175). -/
def Mode.grants : Mode → Bool
  | .automatic => true | .fallback => true | _ => false

/-- The judgment of a waiting order by the checks of R122 to R125, in their order: the first it fails, or its award. -/
def State.judgeOrder (s : State) (o : Order) : Except Block Award :=
  if !s.ctrl.mode.grants then .error .mode
  else if s.claimed o.bed then .error .zone
  else if s.capped o.bed then .error .cap
  else match s.chooseSource o.origin o.preference with
  | none => .error .water
  | some (w, offer) =>
    match s.chooseCannon o.bed with
    | none => .error .cannon
    | some (i, e) => if s.hasCapacity e.cannon then .ok ⟨w, offer, i, e⟩ else .error .capacity

/-- The start volume (R126). -/
def State.startVolume (s : State) (o : Order) (a : Award) : Nat :=
  let v := min o.remaining (min (s.conf.startLimit a.entry.cannon) a.offer)
  match (s.bed o.bed).hold with
  | some h => min v h.room
  | none => v

/-! ### The grant and the attempt -/

/-- The count of a start granted now: against the bed's hold when it holds one (R101, R127). -/
def State.grantCount (s : State) (b : Nat) : HoldCount := if (s.bed b).hold.isSome then .granted else .uncounted

/-- The grant of an order (R127). -/
def State.grant (s : State) (o : Order) (a : Award) : State :=
  let volume := s.startVolume o a
  let sequence := (s.disp.grantSequence + 1) % 65536
  let list := s.conf.cannonList o.bed
  let s1 := (s.reserveWater a.source volume).putOrder
    { o with state := .granted, blocked := none,
             start := some ⟨a.entry.cannon, a.source, volume, false, none, sequence, s.grantCount o.bed⟩ }
  let s2 : State := { s1 with disp := { s1.disp with grantSequence := sequence } }
  let s3 := s2.setBed o.bed { s2.bed o.bed with cursor := (a.index + 1) % list.length, waterShort := false }
  let s4 := s3.setCannon a.entry.cannon { s3.cannon a.entry.cannon with overrun := false, lastGood := none }
  s4.place a.entry.cannon (.start volume a.entry.left a.entry.right)

/-- One judgment of a scan: the first failed check is written as the order's blocked-by (R121). -/
def State.writeBlock (s : State) (o : Order) (k : Block) : State := s.putOrder { o with blocked := some k }

/-- A scan over beds in queue order: the first waiting order that passes every check is granted (R121); the second part
says whether one was. -/
def scan : List Nat → State → State × Bool
  | [], s => (s, false)
  | b :: rest, s =>
    match s.order b with
    | none => scan rest s
    | some o =>
      if o.state = .waiting then
        match s.judgeOrder o with
        | .ok a => (s.grant o a, true)
        | .error k => scan rest (s.writeBlock o k)
      else scan rest s

/-- Scans until one grants nothing (R121); each grant takes one of at most 32 orders out of WAITING. -/
def scans : Nat → State → State
  | 0, s => s
  | n + 1, s =>
    let r := scan (s.disp.orders.map Order.bed) s
    if r.2 then scans n r.1 else r.1

/-- WATER_SHORT for one order at the end of an attempt (R135): a record at the start of an episode; a blocked-by other
than WATER ends it. What counts is the blocked-by of the last scan (log 18). -/
def judgeShort (s : State) (b : Nat) : State :=
  match s.order b with
  | none => s
  | some o =>
    if o.waterBlocked then
      (if o.origin = .autoSevere ∧ (s.bed b).waterShort = false then
        (s.setBed b { s.bed b with waterShort := true }).askRecord .waterShort b (saturate 65535 (o.remaining / 100))
          (some (s.bed b).band)
      else s)
    else if o.blocked.isSome then s.setBed b { s.bed b with waterShort := false }
    else s

/-- The end of an attempt: the DEMAND notice (R86, log 18), then the WATER_SHORT judgments (R135) in queue order (log 49). -/
def State.endAttempt (s : State) : State := (s.disp.orders.map Order.bed).foldl judgeShort s.makeDemand

/-- DISPATCH_ATTEMPT (R120, R121): only while the attempt mark is set, which its start clears. -/
def execDispatchAttempt (s : State) : Out :=
  .next (if s.disp.attempt then
    (scans (s.disp.orders.length + 1) { s with disp := { s.disp with attempt := false } }).endAttempt else s)

end Sys2Proof.Machine
end

