-- ==== Sys2Proof/Machine/Beds.lean ====
section
/-! DEFINITION. Stockpile Beds, Machine Zones and Cargo Moisture Holds (R1 to R12, R18, R22, R92 to R111): what claims,
releases and expiries do to beds, the requests about zones and holds, and BED_QUERY. -/

namespace Sys2Proof.Machine

/-! ### Surface states -/

/-- The bed's surface state changes (R11): on entry to FRESH its settle timer starts from zero, in any other state it is
stopped. -/
def State.setSurface (s : State) (b : Nat) (f : Surface) : State :=
  s.setBed b { s.bed b with surface := f, settleSince := if f = .fresh then some s.osc else none }

/-- What the dispatcher does with the order of a bed that has become EMPTY (R134). -/
def State.satisfyOrder (s : State) (b : Nat) : State :=
  match s.order b with
  | none => s
  | some o => if o.state = .waiting then s.removeOrder o .satisfied else s.putOrder { o with ending := some .satisfied }

/-- A bed becomes EMPTY: its hold ends, then its order is satisfied (R12, R134). The order of the two notices is the model's
choice (log 35). -/
def State.becomeEmpty (s : State) (b : Nat) : State := ((s.setSurface b .empty).endHold b).satisfyOrder b

/-- The stacking reset (R18). -/
def State.stackReset (s : State) (b : Nat) : State := s.setBed b { s.bed b with wetness := s.conf.wStack }

/-! ### The machine table -/

/-- An entry covers a bed (R92). -/
def Claim.covers (e : Claim) (b : Nat) : Bool := decide (e.first ≤ b ∧ b ≤ e.last)

/-- STACK and RECLAIM touch the coal (05, The machine table). -/
def ZoneActivity.touches : ZoneActivity → Bool
  | .stack => true | .reclaim => true | _ => false

/-- A bed is covered by a claim of activity STACK or RECLAIM (R7). -/
def State.touched (s : State) (b : Nat) : Bool := s.zones.entries.any (fun e => e.covers b && e.activity.touches)

/-- The entry of a machine (R92). -/
def State.claimOf (s : State) (m : Nat) : Option Claim := s.zones.entries.find? (fun e => e.machine == m)

/-- The machine table with other entries. -/
def State.setEntries (s : State) (entries : List Claim) : State := { s with zones := { s.zones with entries := entries } }

/-- The prior state kept for a WORKED bed: one shared by every entry covering it (R7); SETTLED when none is kept (log 30). -/
def State.keptPrior (s : State) (b : Nat) : Surface := (s.zones.entries.findSome? (fun e => sparseFind b e.prior)).getD .settled

/-- An entry with the prior state of a bed written. -/
def Claim.withPrior (e : Claim) (b : Nat) (p : Surface) : Claim := { e with prior := sparseInsert b p e.prior }

/-- The prior state of a bed is written into one machine's entry (R7). -/
def State.writePrior (s : State) (m b : Nat) (p : Surface) : State :=
  s.setEntries (s.zones.entries.map (fun e => if e.machine = m then e.withPrior b p else e))

/-- The prior state of a bed is written into every entry that covers it (R7). -/
def State.sharePrior (s : State) (b : Nat) (p : Surface) : State :=
  s.setEntries (s.zones.entries.map (fun e => if e.covers b then e.withPrior b p else e))

/-- The bed becomes WORKED when a claim of this activity covers it in this state (R6). -/
def worksOn (a : ZoneActivity) (f : Surface) : Bool :=
  match a, f with
  | .stack, .worked => false
  | .stack, _ => true
  | .reclaim, .settled => true
  | .reclaim, .fresh => true
  | _, _ => false

/-- R6 on a bed, with the prior state handed for it (R7). -/
def State.applyActivity (s : State) (b : Nat) (a : ZoneActivity) (p : Surface) : State :=
  if worksOn a (s.bed b).surface then (s.setSurface b .worked).sharePrior b p else s

/-- The prior state handed for a bed that enters a range (R7). -/
def State.priorFor (s : State) (b : Nat) : Surface :=
  if (s.bed b).surface = .worked then s.keptPrior b else (s.bed b).surface

/-- A bed enters a machine's range (R94, R96): prior state, surface state, and the stop of any spray on it. An undefined
bed is left alone (R92). -/
def State.enterRange (s : State) (m : Nat) (a : ZoneActivity) (b : Nat) : State :=
  if s.conf.bedDefined b then
    (((s.writePrior m b (s.priorFor b)).applyActivity b a (s.priorFor b)).stopOrder b none)
  else s

/-- R8 and R10: the outcome on a bed left without STACK or RECLAIM cover, with its kept prior state. -/
def State.releaseUncovered (s : State) (b : Nat) (o : ReleaseOutcome) (p : Surface) : State :=
  match o, (s.bed b).surface with
  | .stacked, _ => (s.setSurface b .fresh).stackReset b
  | .reclaimed, .empty => s
  | .reclaimed, _ => s.setSurface b .fresh
  | .emptied, .empty => s
  | .emptied, _ => s.becomeEmpty b
  | .none, .worked => if p = .empty then s.becomeEmpty b else s.setSurface b p
  | .none, _ => s
  | .expiry, .worked => s.setSurface b .fresh
  | .expiry, _ => s

/-- R9 and R10: the outcome folded into the kept prior state of a bed that stays WORKED. -/
def State.foldOutcome (s : State) (b : Nat) (o : ReleaseOutcome) (p : Surface) : State :=
  match o with
  | .stacked => (s.sharePrior b .fresh).stackReset b
  | .reclaimed => if p = .empty then s else s.sharePrior b .fresh
  | .emptied => s.sharePrior b .empty
  | .none => s
  | .expiry => s.sharePrior b .fresh

/-- A release removes a bed from a machine's range (R8, R9, R97); `p` is the prior state the released entry kept. -/
def State.releaseBed (s : State) (b : Nat) (o : ReleaseOutcome) (p : Surface) : State :=
  if s.conf.bedDefined b then
    (if s.touched b then
      (if (s.bed b).surface = .worked then s.foldOutcome b o p else s)
    else s.releaseUncovered b o p)
  else s

/-- The beds of a range in ascending number. -/
def rangeBeds (first last : Nat) : List Nat := numbersFrom first (last + 1 - first)

/-- The prior state an entry kept for a bed (log 30). -/
def Claim.priorOf (e : Claim) (b : Nat) : Surface := (sparseFind b e.prior).getD .settled

/-- Every bed of a removed entry's range takes an outcome (R97, R98), in ascending bed number (log 36). -/
def State.releaseRange (s : State) (e : Claim) (o : ReleaseOutcome) : State :=
  (rangeBeds e.first e.last).foldl (fun t b => t.releaseBed b o (e.priorOf b)) s

/-- An entry leaves the table with an outcome for its beds (R97, R98). -/
def State.removeClaim (s : State) (e : Claim) (o : ReleaseOutcome) : State :=
  (s.setEntries (s.zones.entries.filter (fun x => x.machine != e.machine))).releaseRange e o

/-- Some defined bed that was covered is uncovered (R100). -/
def uncovered (before after : State) : Bool :=
  bedNumbers.any (fun b => before.conf.bedDefined b && before.claimed b && !after.claimed b)

/-- The Zone Register's cause of a dispatch attempt (R100). -/
def State.causeIfUncovered (after before : State) : State := if uncovered before after then after.cause else after

/-- One bed of a replaced claim's new range (R95): a staying bed, or an added one. -/
def replaceBed (m : Nat) (old : Claim) (a : ZoneActivity) (s : State) (b : Nat) : State :=
  if !s.conf.bedDefined b then s
  else if old.covers b then
    let s1 := if (s.bed b).surface = .worked then s else s.writePrior m b (s.bed b).surface
    if a.touches then s1.applyActivity b a (s1.priorFor b)
    else if old.activity.touches then s1.releaseBed b .none (old.priorOf b)
    else s1
  else s.enterRange m a b

/-- A claim of a machine already in the table (R95): the dropped beds, then the new range, each in ascending bed number
(log 36). -/
def State.replaceClaim (s : State) (old : Claim) (a : ZoneActivity) (first last : Nat) : State :=
  let new : Claim := { old with activity := a, first := first, last := last, since := s.osc,
                                prior := old.prior.filter (fun k => decide (first ≤ k.1 ∧ k.1 ≤ last)) }
  let s1 := s.setEntries (s.zones.entries.map (fun e => if e.machine = old.machine then new else e))
  if a = old.activity ∧ first = old.first ∧ last = old.last then s1
  else
    let dropped := (rangeBeds old.first old.last).filter (fun b => !new.covers b)
    let s2 := dropped.foldl (fun t b => t.releaseBed b .none (old.priorOf b)) s1
    ((rangeBeds first last).foldl (replaceBed old.machine old a) s2).causeIfUncovered s

/-- A claim of a machine not in the table (R94), its beds in ascending bed number (log 36). -/
def State.newClaim (s : State) (m : Nat) (a : ZoneActivity) (first last : Nat) : State :=
  (rangeBeds first last).foldl (fun t b => t.enterRange m a b)
    (s.setEntries (s.zones.entries ++ [⟨m, a, first, last, s.osc, []⟩]))

/-- The number of free entries of the machine table (R93). -/
def State.freeClaims (s : State) : Nat := 8 - s.zones.entries.length

/-- The owner's event of ZONE_CLAIM (R93, R94, R95). -/
def State.zoneClaim (s : State) (node : Node) (m : Nat) (activity : Byte) (first last : Nat) : State :=
  match activityOf activity with
  | none => s.reply node 0x04 .badValue []
  | some a =>
    if m = 0 ∨ 15 < m ∨ last < first then s.reply node 0x04 .badValue []
    else if !(s.conf.bedDefined first && s.conf.bedDefined last) then s.reply node 0x04 .unknownBed []
    else match s.claimOf m with
    | some old =>
      let s1 := s.replaceClaim old a first last
      s1.reply node 0x04 .ok (be8 s1.freeClaims)
    | none =>
      if 8 ≤ s.zones.entries.length then s.reply node 0x04 .full []
      else
        let s1 := s.newClaim m a first last
        s1.reply node 0x04 .ok (be8 s1.freeClaims)

/-- ZONE_CLAIM (R93, R193). -/
def execZoneClaim (node : Node) (machine activity first last : Byte) (s : State) : Out :=
  .next (s.serve node 0x04 [machine, activity, first, last]
    (fun t => t.zoneClaim node machine.toNat activity first.toNat last.toNat))

/-- The owner's event of ZONE_RELEASE (R97). -/
def State.zoneRelease (s : State) (node : Node) (m : Nat) (outcome : Byte) : State :=
  match outcomeOf outcome with
  | none => s.reply node 0x05 .badValue []
  | some o =>
    if m = 0 ∨ 15 < m then s.reply node 0x05 .badValue []
    else match s.claimOf m with
    | none => s.reply node 0x05 .noMatch []
    | some e =>
      let s1 := (s.removeClaim e o).causeIfUncovered s
      s1.reply node 0x05 .ok (be8 s1.freeClaims)

/-- ZONE_RELEASE (R97, R193). -/
def execZoneRelease (node : Node) (machine outcome : Byte) (s : State) : Out :=
  .next (s.serve node 0x05 [machine, outcome] (fun t => t.zoneRelease node machine.toNat outcome))

/-- An entry expires (R98, R99, R100). -/
def State.expireClaim (s : State) (e : Claim) : State :=
  ((s.removeClaim e .expiry).causeIfUncovered s).makeClaimExpired e.machine

/-- CLAIM_EXPIRY (R98). -/
def execClaimExpiry (m : Nat) (s : State) : Out :=
  .next (match s.claimOf m with
  | some e => (s.reach (e.since + ms s.conf.tClaim)).expireClaim e
  | none => s)

/-! ### Moisture holds -/

/-- The start of a bed's order is running as a hold is created: its hold point is Dh (R101). -/
def State.countFromHere (s : State) (b cap : Nat) : State :=
  match s.order b with
  | none => s
  | some o =>
    match o.start with
    | none => s
    | some st => s.putOrder { o with start := some { st with count := .running (st.delivered.getD 0) cap } }

/-- A TRIM is asked for the start of an order in GRANTED or SPRAYING (R103). -/
def State.trimOrder (s : State) (b cap serial : Nat) : State :=
  match s.order b with
  | none => s
  | some o =>
    match o.start with
    | none => s
    | some st => if o.running then s.askTrim b st.cannon cap serial else s

/-- A hold is created on a bed (R103). -/
def State.createHold (s : State) (b cap tag : Nat) : State :=
  let serial := s.beds.holdSerial
  let s1 := s.setBed b { s.bed b with hold := some ⟨cap, tag, 0, serial⟩ }
  let s2 : State := { s1 with beds := { s1.beds with holdSerial := serial + 1 } }
  (((s2.countFromHere b cap).trimOrder b cap serial).cause).judgeAtRisk b

/-- The share of the bed's current start (R101). -/
def State.shareOf (s : State) (b : Nat) : Nat := (((s.order b).bind Order.start).map Start.share).getD 0

/-- The cap of a bed's hold is replaced (R104). -/
def State.changeCap (s : State) (b : Nat) (h : Hold) (cap : Nat) : State :=
  if cap = h.cap then s
  else ((s.setBed b { s.bed b with hold := some { h with cap := cap } }).cause).judgeAtRisk b

/-- The data of a MOISTURE_HOLD_SET reply (R104). -/
def holdBytes (cap tally : Nat) : List Byte := be24 cap ++ be16 (saturate 65535 (tally / 100))

/-- The cap a MOISTURE_HOLD_SET is taken at (R102). -/
def takenCap (cap : Nat) : Nat := max 1 (min 16000000 cap)

/-- The owner's event of MOISTURE_HOLD_SET (R102, R103, R104). Another tag is HELD although its cap was out of range
(log 48). -/
def State.holdSet (s : State) (node : Node) (b cap tag : Nat) : State :=
  if !s.conf.bedDefined b then s.reply node 0x10 .unknownBed []
  else match (s.bed b).hold with
  | none =>
    (s.createHold b (takenCap cap) tag).reply node 0x10 (okOrClamped (takenCap cap != cap)) (holdBytes (takenCap cap) 0)
  | some h =>
    if h.tag = tag then
      let c := max (takenCap cap) (h.tally + s.shareOf b)
      (s.changeCap b h c).reply node 0x10 (okOrClamped (c != cap)) (holdBytes c h.tally)
    else s.reply node 0x10 .held (be16 h.tag)

/-- MOISTURE_HOLD_SET (R102, R193). -/
def execMoistureHoldSet (node : Node) (bed : Byte) (cap : BitVec 24) (tag : BitVec 16) (s : State) : Out :=
  .next (s.serve node 0x10 (bed :: be24 cap.toNat ++ be16 tag.toNat)
    (fun t => t.holdSet node bed.toNat cap.toNat tag.toNat))

/-- The owner's event of MOISTURE_HOLD_CLEAR (R105). -/
def State.holdClear (s : State) (node : Node) (b tag : Nat) : State :=
  if !s.conf.bedDefined b then s.reply node 0x11 .unknownBed []
  else match (s.bed b).hold with
  | none => s.reply node 0x11 .empty []
  | some h =>
    if h.tag = tag then (s.removeHold b).reply node 0x11 .ok (be24 h.tally)
    else s.reply node 0x11 .noMatch (be16 h.tag)

/-- MOISTURE_HOLD_CLEAR (R105, R193). -/
def execMoistureHoldClear (node : Node) (bed : Byte) (tag : BitVec 16) (s : State) : Out :=
  .next (s.serve node 0x11 (bed :: be16 tag.toNat) (fun t => t.holdClear node bed.toNat tag.toNat))

/-! ### Settling and BED_QUERY -/

/-- A FRESH bed settles: its timer stops (R11). -/
def State.settle (s : State) (b : Nat) : State := s.setSurface b .settled

/-- SETTLE_TIMER_EXPIRY (R11). -/
def execSettleTimerExpiry (b : Nat) (s : State) : Out :=
  .next (match (s.bed b).settleSince with
  | some since => (s.reach (since + ms s.conf.tSettle)).settle b
  | none => s)

/-- The conditions byte of BED_QUERY (R22). -/
def State.bedConditions (s : State) (b : Nat) : Nat :=
  conditionByte [s.claimed b, (s.bed b).hold.isSome, s.capped b, (s.bed b).cappedAtRisk, (s.bed b).waterShort]

/-- The seconds since the last spray end (R22). -/
def State.sinceSpray (s : State) (b : Nat) : Nat :=
  match (s.bed b).lastSprayEnd with
  | some t => saturate 65534 ((s.osc - t) / 1000)
  | none => 65535

/-- The data of a BED_QUERY part; parts 2 and 3 need a hold (R22). -/
def State.bedPart (s : State) (b part : Nat) : Option (List Byte) :=
  let r := s.bed b
  if part = 0 then some (be8 r.surface.code ++ be16 r.wetness ++ be8 r.band.code ++ be8 (s.bedConditions b))
  else if part = 1 then some (be16 r.risk ++ be8 r.band.code ++ be16 (s.sinceSpray b))
  else if part = 2 then r.hold.map (fun h => be16 h.tag ++ be24 h.cap)
  else if part = 3 then r.hold.map (fun h => be24 h.tally ++ be16 (saturate 65535 (h.room / 100)))
  else if part = 4 then
    some (be8 (s.conf.area b) ++ be8 (s.conf.bedChannel b) ++ be8 (s.conf.shelter b) ++ be16 (s.conf.mask b))
  else some ((s.conf.rawList b).flatMap be8 ++ be8 r.cursor)

/-- The owner's event of BED_QUERY (R22). -/
def State.bedQuery (s : State) (node : Node) (b part : Nat) : State :=
  if !s.conf.bedDefined b then s.reply node 0x29 .unknownBed []
  else if 5 < part then s.reply node 0x29 .badValue []
  else match s.bedPart b part with
  | some d => s.reply node 0x29 .ok d
  | none => s.reply node 0x29 .empty []

/-- BED_QUERY (R22, R193). -/
def execBedQuery (node : Node) (bed part : Byte) (s : State) : Out :=
  .next (s.serve node 0x29 [bed, part] (fun t => t.bedQuery node bed.toNat part.toNat))

end Sys2Proof.Machine
end

