-- ==== Sys2Proof/Machine/Weather.lean ====
section
/-! DEFINITION. The now hour, the slots a reader uses, the forecast state and the current weather (R49, R50, R52). -/

namespace Sys2Proof.Machine

/-- The now hour N (R49). -/
def nowHourOf (day seconds : Nat) : Nat := (day * 24 + seconds / 3600) % 65536

/-- The now hour of the yard clock (R49). -/
def State.nowHour (s : State) : Nat := nowHourOf s.ctrl.day s.ctrl.seconds

/-- The offset of a valid hour from the now hour (R49). -/
def hourOffset (now hour : Nat) : Nat := (hour + 65536 - now) % 65536

/-- The offset of a slot; a slot without a valid hour has none (R49). -/
def Slot.offset (now : Nat) (k : Slot) : Option Nat := k.hour.map (hourOffset now)

/-- Slot `k` of the Forecast Table (R46). -/
def State.slot (s : State) (k : Nat) : Slot := nth s.forecast.slots Slot.empty k

/-- The slots in ascending number. -/
def State.slotList (s : State) : List Slot := slotNumbers.map s.slot

/-- The slot used for an offset: the lowest-numbered one (R49). -/
def State.slotAt (s : State) (offset : Nat) : Option Slot :=
  s.slotList.find? (fun k => k.offset s.nowHour == some offset)

/-- The covering slot (R49). -/
def State.covering (s : State) : Option Slot := s.slotAt 0

/-- The lookahead set, one slot for each hour from offset 1 to L (R49). -/
def State.lookaheadSet (s : State) : List Slot := (numbersFrom 1 s.conf.lookahead).filterMap s.slotAt

/-- An offset that keeps the forecast LIVE (R50). -/
def offsetLive : Option Nat → Bool
  | some o => decide (o ≤ 32767)
  | none => false

/-- At least one slot has a valid hour that is not past (R50). -/
def State.slotsLive (s : State) : Bool := s.slotList.any (fun k => offsetLive (k.offset s.nowHour))

/-- The Forecast Table re-judges its state; LIVE to LOST makes a FORECAST_LOST record (R50). -/
def State.judgeForecast (s : State) : State :=
  let s1 : State := { s with forecast := { s.forecast with live := s.slotsLive } }
  if s.forecast.live = true ∧ s.slotsLive = false then s1.askRecord .forecastLost 0 s.forecast.issue none else s1

/-- A reading that arrived 1800 s or less before now (R52). -/
def State.recent {α : Type} (s : State) (v : Option (α × Nat)) : Option α :=
  match v with
  | some (x, arrived) => if s.osc - arrived ≤ 1800000 then some x else none
  | none => none

/-- The current RH (R52). -/
def State.currentHumidity (s : State) : Nat :=
  match s.recent s.forecast.humidity with
  | some h => h
  | none => (s.covering.bind Slot.humidity).getD 50

/-- The current temperature, or none (R52). -/
def State.currentTemperature (s : State) : Option Int :=
  match s.recent s.forecast.temperature with
  | some t => some t
  | none => s.covering.bind Slot.temperature

end Sys2Proof.Machine
end

