-- ==== Sys2Proof/Machine/Measurement.lean ====
section
/-! DEFINITION. Wind Masts and Dust Channels (R23 to R45): pulses, the end of a second, the wind ring and its live
values, and the end of a dust window. -/

namespace Sys2Proof.Machine

/-! ### Masts -/

/-- The record of a mast. -/
def State.mast (s : State) : MastId → Mast
  | .a => s.meas.mastA
  | .b => s.meas.mastB

/-- The state with the record of a mast replaced. -/
def State.setMast (s : State) (m : MastId) (r : Mast) : State :=
  match m with
  | .a => { s with meas := { s.meas with mastA := r } }
  | .b => { s with meas := { s.meas with mastB := r } }

/-- ANEMOMETER_PULSE (R23): one more, staying at 65,535. It counts before the first load too (log 31). -/
def execAnemometerPulse (m : MastId) (s : State) : Out :=
  .next (s.setMast m { s.mast m with pulses := saturate 65535 ((s.mast m).pulses + 1) })

/-- A mast's speed for a second: floor(pulses × K_an / 100), clamped to 0–600 (R23). -/
def mastSpeed (pulses kAn : Nat) : Nat := min 600 (pulses * kAn / 100)

/-- The sector a vane's 4-bit Gray code names (R24). -/
def graySector (v : BitVec 4) : Nat :=
  let b3 := v.getLsbD 3
  let b2 := xor b3 (v.getLsbD 2)
  let b1 := xor b2 (v.getLsbD 1)
  let b0 := xor b1 (v.getLsbD 0)
  conditionByte [b0, b1, b2, b3]

/-- A change of health starts all three runs again from 0 (R32). -/
def Mast.changed (r : Mast) (h : Health) : Mast := { r with health := h, zeroRun := 0, loneRun := 0, restoreRun := 0 }

/-- A run after a second: one longer when its condition held, else 0. -/
def nextRun (held : Bool) (run : Nat) : Nat := if held then run + 1 else 0

/-- The tolerance of a restoration (R32). -/
def restoreTolerance (other : Nat) : Nat := max 10 (other * 25 / 100)

/-- Two speeds differ by no more than the tolerance (R32). -/
def agrees (speed other : Nat) : Bool :=
  decide (0 < speed ∧ speed ≤ other + restoreTolerance other ∧ other ≤ speed + restoreTolerance other)

/-- The judgment of a mast's health for a second (R30, R31, R32): its speed, the other mast's health before the second
and speed, and the covering slot's mean. -/
def judgeMast (r : Mast) (speed : Nat) (otherHealth : Health) (otherSpeed : Nat) (covering : Option Nat) : Mast :=
  match r.health, otherHealth with
  | .healthy, .healthy =>
    let run := nextRun (decide (speed = 0 ∧ 30 ≤ otherSpeed)) r.zeroRun
    if 60 ≤ run then r.changed .failed else { r with zeroRun := run, loneRun := 0 }
  | .healthy, .failed =>
    let run := nextRun (decide (speed = 0) && decide (60 ≤ covering.getD 0)) r.loneRun
    if 600 ≤ run then r.changed .failed else { r with zeroRun := 0, loneRun := run }
  | .failed, .healthy =>
    let run := nextRun (agrees speed otherSpeed) r.restoreRun
    if 60 ≤ run then r.changed .healthy else { r with restoreRun := run }
  | .failed, .failed =>
    let run := nextRun (decide (0 < speed)) r.restoreRun
    if 60 ≤ run then r.changed .healthy else { r with restoreRun := run }

/-- The wind basis of two masts' health (R33). -/
def basisOf (a b : Health) : Basis :=
  match a, b with
  | .healthy, _ => .liveA
  | .failed, .healthy => .liveB
  | .failed, .failed => .none

/-! ### The wind ring -/

/-- A sample joins the ring as its newest; a full ring loses its oldest (R26). -/
def ringJoin (ring : List Sample) (x : Sample) : List Sample :=
  (if 120 ≤ ring.length then ring.drop 1 else ring) ++ [x]

/-- The floor averages of every three consecutive speeds (R27). -/
def triples : List Nat → List Nat
  | a :: b :: c :: rest => (a + b + c) / 3 :: triples (b :: c :: rest)
  | _ => []

/-- The largest figure of a list, 0 for none. -/
def largest (l : List Nat) : Nat := l.foldl max 0

/-- gust (R27). -/
def gustOf (speeds : List Nat) : Nat := if speeds.length ≤ 2 then largest speeds else largest (triples speeds)

/-- mean2 (R27). -/
def meanOf (speeds : List Nat) : Nat := speeds.sum / speeds.length

/-- The dominant sector of sectors given newest first: the most frequent, of equals the one met first (R28). -/
def dominantOf (sectors : List Nat) : Nat :=
  sectors.foldl (fun best x => if sectors.count best < sectors.count x then x else best) (sectors.headD 0)

/-- The live values a ring gives (R27, R28, R29). -/
def liveOf (ring : List Sample) : Option LiveWind :=
  if ring.isEmpty then none
  else some ⟨meanOf (ring.map Sample.speed), gustOf (ring.map Sample.speed), dominantOf (ring.reverse.map Sample.sector)⟩

/-- The sample of the mast the basis names, if any (R26). -/
def basisSample (b : Basis) (sampleA sampleB : Sample) : Option Sample :=
  match b with
  | .none => Option.none
  | .liveA => some sampleA
  | .liveB => some sampleB

/-- Steps 4 and 5 of R25: the named mast's sample joins the ring, and the live values are recomputed. -/
def State.takeSample (s : State) (x : Option Sample) : State :=
  match x with
  | some v => { s with meas := { s.meas with ring := ringJoin s.meas.ring v, live := liveOf (ringJoin s.meas.ring v) } }
  | none => s

/-- Step 3 of R25: the basis; a change empties the ring and asks for a WIND_BASIS record (R33). -/
def State.setBasis (s : State) (b : Basis) (subject : Nat) : State :=
  if b = s.meas.basis then s
  else ({ s with meas := { s.meas with basis := b, ring := [], live := none } } : State).askRecord .windBasis subject
    b.code none

/-- Step 1 of R25: a mast's figures for the second are written. -/
def Mast.measured (r : Mast) (speed sector : Nat) : Mast :=
  { r with pulses := 0, speed := some speed, sector := some sector }

/-- The five steps of the end of a second (R25). -/
def State.endSecond (s : State) (sectorA sectorB : Nat) : State :=
  let a := s.meas.mastA
  let b := s.meas.mastB
  let speedA := mastSpeed a.pulses (s.conf.kAn .a)
  let speedB := mastSpeed b.pulses (s.conf.kAn .b)
  let mean := s.covering.bind Slot.mean
  let a1 := judgeMast (a.measured speedA sectorA) speedA b.health speedB mean
  let b1 := judgeMast (b.measured speedB sectorB) speedB a.health speedA mean
  let s1 : State := { s with meas := { s.meas with mastA := a1, mastB := b1 } }
  let basis := basisOf a1.health b1.health
  (s1.setBasis basis (if a1.health = a.health then 2 else 1)).takeSample
    (basisSample basis ⟨speedA, sectorA⟩ ⟨speedB, sectorB⟩)

/-- END_OF_SECOND (R23 to R33). No second runs before the first load (R23). -/
def execEndOfSecond (vaneA vaneB : BitVec 4) (s : State) : Out :=
  .next (match s.meas.secondDue with
  | some due =>
    let s1 := s.reach due
    ({ s1 with meas := { s1.meas with secondDue := some (due + 1000) } } : State).endSecond
      (graySector vaneA) (graySector vaneB)
  | none => s)

/-! ### Dust channels -/

/-- DUST_PULSE (R36): one more during a window, staying at 65,535. -/
def execDustPulse (ch : Nat) (s : State) : Out :=
  .next (if (s.channel ch).windowDue.isSome then
    s.setChannel ch { s.channel ch with count := saturate 65535 ((s.channel ch).count + 1) } else s)

/-- The gross figure of a window (R37). -/
def grossFigure (count kCal steps : Nat) : Nat := count * 100 * kCal / (steps * 256)

/-- The window's count reached 65,535 (R38). -/
def isSaturated (count : Nat) : Bool := decide (65535 ≤ count)

/-- The concentration of an ordinary window (R37, R38). -/
def concentrationOf (count kCal steps baseline : Nat) : Nat :=
  if isSaturated count then 20000 else min 20000 (grossFigure count kCal steps - baseline)

/-- The baseline and dirty mark at the end of a zero window with the ready input high (R39). -/
def Channel.zeroed (r : Channel) (kCal steps : Nat) : Channel :=
  if isSaturated r.count = false ∧ grossFigure r.count kCal steps ≤ 500
  then { r with baseline := grossFigure r.count kCal steps, dirty := false }
  else { r with dirty := true }

/-- A channel state is FAULT. -/
def ChannelState.isFault : ChannelState → Bool
  | .faultNotReady => true | .faultDirty => true | _ => false

/-- The state of a channel at the end of a window (R40). -/
def channelStateAt (ready dirty zeroNext : Bool) : ChannelState :=
  if !ready then .faultNotReady else if dirty then .faultDirty else if zeroNext then .zeroing else .measuring

/-- The ordinary windows since the last zero window, at a window's end (R36); none are counted while Z is 0 (log 28). -/
def Channel.sinceAfter (r : Channel) (z : Nat) : Nat := if r.zeroWindow ∨ z = 0 then 0 else r.sinceZero + 1

/-- The next window is a zero window (R36). -/
def zeroNext (z since : Nat) : Bool := decide (0 < z ∧ z ≤ since + 1)

/-- The next window begins (R36): C at 0, its kind, the valve, its time. -/
def Channel.begun (r : Channel) (st : ChannelState) (zero : Bool) (since due : Nat) : Channel :=
  { r with state := st, windowDue := some due, zeroWindow := zero, valve := zero, count := 0, sinceZero := since,
           held := if st.isFault then Option.none else r.held }

/-- The runs and the latch take a new concentration (R42, R43, R44). -/
def State.takeConcentration (s : State) (ch concentration : Nat) (saturated : Bool) : State :=
  let r := { s.channel ch with held := some concentration }
  let p := s.conf.persistence ch
  if r.latched then
    let run := nextRun (!saturated && decide (concentration ≤ s.conf.clearLevel ch)) r.belowRun
    if p ≤ run then
      (s.setChannel ch { r with latched := false, aboveRun := 0, belowRun := 0 }).askRecord .dustClear ch concentration none
    else s.setChannel ch { r with aboveRun := 0, belowRun := run }
  else
    let run := nextRun (saturated || decide (s.conf.limitLevel ch < concentration)) r.aboveRun
    if p ≤ run then
      (s.setChannel ch { r with latched := true, aboveRun := 0, belowRun := 0 }).askRecord .dustExceed ch concentration none
    else s.setChannel ch { r with aboveRun := run, belowRun := 0 }

/-- A window of a channel ends and the next one begins (R36 to R44). A zero window that ends with the ready input low leaves
the dirty mark, as R39 says against R40's last words (log 38). -/
def State.endWindow (s : State) (ch : Nat) (ready : Bool) (due : Nat) : State :=
  let r := s.channel ch
  let n := s.conf.windowSteps ch
  let z := s.conf.zeroEvery ch
  let r1 := if r.zeroWindow ∧ ready = true then r.zeroed (s.conf.kCal ch) n else r
  let since := r.sinceAfter z
  let st := channelStateAt ready r1.dirty (zeroNext z since)
  let s1 := s.setChannel ch (r1.begun st (zeroNext z since) since (due + n * 10))
  if r.zeroWindow = false ∧ r.state.isFault = false ∧ st.isFault = false then
    s1.takeConcentration ch (concentrationOf r.count (s.conf.kCal ch) n r.baseline) (isSaturated r.count)
  else s1

/-- WINDOW_END (R36 to R44). -/
def execWindowEnd (ch : Nat) (ready : Bool) (s : State) : Out :=
  .next (match (s.channel ch).windowDue with
  | some due => (s.reach due).endWindow ch ready due
  | none => s)

end Sys2Proof.Machine
end

