-- ==== Sys2Proof/Machine/Modes.lean ====
section
/-! DEFINITION. Coordinator Modes and the Yard Clock (R175 to R187): the changes of mode and of the hold reasons, the
drain, the sticky flags' requests and the clock. -/

namespace Sys2Proof.Machine

/-! ### Changes of mode -/

/-- The Mode Controller hands the line controller an ALL_STOP; one due while the line is in FAULT is dropped (R158). -/
def State.askAllStop (s : State) : State :=
  if s.line.state = .ok then { s with line := { s.line with allStopDue := true } } else s

/-- Entry to HOLD or MAINTENANCE: an ALL_STOP, and every order in GRANTED or SPRAYING is stopped (R133, R158). -/
def State.stopSprays (s : State) : State := s.askAllStop.stopWhere (fun _ => true)

/-- The modes whose entry stops every spray (R133). -/
def Mode.stops : Mode → Bool
  | .hold => true | .maintenance => true | _ => false

/-- The mode changes, as one step: its MODE notice, its stops, and a cause of a dispatch attempt (R133, R175, R183). -/
def State.enterMode (s : State) (m : Mode) : State :=
  let s1 := ({ s with ctrl := { s.ctrl with mode := m } } : State).makeMode
  (if m.stops then s1.stopSprays else s1).cause

/-- The wind basis is NONE and the forecast is LOST (R177). -/
def State.blind (s : State) : Bool := s.meas.basis == .none && !s.forecast.live

/-- The mode on leaving HOLD, as R177 judges. -/
def State.runMode (s : State) : Mode := if s.blind then .fallback else .automatic

/-- The judgment between AUTOMATIC and FALLBACK at an evaluation (R177). -/
def State.judgeBasis (s : State) : State :=
  match s.ctrl.mode with
  | .automatic => if s.blind then s.enterMode .fallback else s
  | .fallback => if s.blind then s else s.enterMode .automatic
  | _ => s

/-- A change of the hold reasons and what it does to the mode (R178); the MODE notice of a change that moves the mode is
the mode's own (R183, log 33). -/
def State.setReasons (s : State) (operator freeze : Bool) : State :=
  if operator = s.ctrl.operator ∧ freeze = s.ctrl.freeze then s
  else
    let s1 : State := { s with ctrl := { s.ctrl with operator := operator, freeze := freeze } }
    match s.ctrl.mode with
    | .starting => s1
    | .maintenance => s1.makeMode
    | .hold => if operator || freeze then s1.makeMode else s1.enterMode s1.runMode
    | .automatic => if operator || freeze then s1.enterMode .hold else s1.makeMode
    | .fallback => if operator || freeze then s1.enterMode .hold else s1.makeMode

/-- FREEZE after a judgment of a temperature (R180). -/
def freezeAt (limit : Int) (temperature : Option Int) (before : Bool) : Bool :=
  match temperature with
  | none => false
  | some t => if t ≤ limit then true else if limit + 2 ≤ t then false else before

/-- The Mode Controller judges FREEZE (R180). -/
def State.judgeFreeze (s : State) : State :=
  s.setReasons s.ctrl.operator (freezeAt s.conf.tFreeze s.currentTemperature s.ctrl.freeze)

/-! ### ALL_HOLD and HOLD_RELEASE -/

/-- The reply of ALL_HOLD and HOLD_RELEASE: the mode and hold reasons as they stand (R179). -/
def State.replyMode (s : State) (node : Node) (code : Nat) (r : Result) : State := s.reply node code r s.modeBytes

/-- The owner's event of ALL_HOLD (R179). -/
def State.allHold (s : State) (node : Node) : State :=
  (s.setReasons true s.ctrl.freeze).replyMode node 0x01 .ok

/-- ALL_HOLD (R179, R193). -/
def execAllHold (node : Node) (s : State) : Out := .next (s.serve node 0x01 [] (fun t => t.allHold node))

/-- The owner's event of HOLD_RELEASE (R179). -/
def State.holdRelease (s : State) (node : Node) : State :=
  if s.ctrl.mode = .hold then (s.setReasons false s.ctrl.freeze).replyMode node 0x02 .ok
  else s.replyMode node 0x02 .wrongMode

/-- HOLD_RELEASE (R179, R193). -/
def execHoldRelease (node : Node) (s : State) : Out := .next (s.serve node 0x02 [] (fun t => t.holdRelease node))

/-! ### Maintenance and the drain -/

/-- The owner's event of MAINT_ENTER (R181): the mode, the stops, then the drain, which may be complete at once. The entry of
its reply is reserved before the MODE notice looks for room (R194, log 51). -/
def State.maintEnter (s : State) (node : Node) : State :=
  if s.ctrl.mode = .maintenance then s.reply node 0x33 .wrongMode []
  else
    let s1 := ({ s with port := { s.port with long := some ⟨node, 0x33⟩ } } : State).enterMode .maintenance
    ({ s1 with ctrl := { s1.ctrl with drain := some (s1.osc + 30000) } } : State).checkDrained

/-- MAINT_ENTER (R181, R193, R194). -/
def execMaintEnter (node : Node) (s : State) : Out := .next (s.serve node 0x33 [] (fun t => t.maintEnter node))

/-- The line controller ends the start of a cannon by its estimated charge at the drain deadline (R148, R181). -/
def forceStart (time : Nat) (s : State) (c : Nat) : State :=
  if (s.startOn c).isSome then s.endByEstimate c time else s

/-- DRAIN_DEADLINE (R181): each start still in progress ends by estimate, in ascending address (log 21); DRAIN_FORCED is
set and the deferred reply carries 1. The frames of the event come in the order of log 50. -/
def execDrainDeadline (s : State) : Out :=
  .next (match s.ctrl.drain with
  | some deadline =>
    let s1 := s.reach deadline
    let s2 : State := { s1 with ctrl := { s1.ctrl with drain := none } }
    let s3 := cannonNumbers.foldl (forceStart s2.osc) s2
    ((s3.setFlag .drainForced).endDrain true).flushCannons
  | none => s)

/-! ### Sticky flags and status -/

/-- The owner's event of FLAG_CLEAR (R184). -/
def State.flagClear (s : State) (node : Node) (mask : Byte) : State :=
  let s1 : State := { s with ctrl := { s.ctrl with flags := clearedFlags s.ctrl.flags mask } }
  s1.reply node 0x2C .ok [s1.ctrl.flags]

/-- FLAG_CLEAR (R184, R193). -/
def execFlagClear (node : Node) (mask : Byte) (s : State) : Out :=
  .next (s.serve node 0x2C [mask] (fun t => t.flagClear node mask))

/-- The conditions byte of STATUS_QUERY (R185). -/
def State.conditions (s : State) : Nat :=
  conditionByte [s.forecast.live, s.line.state != .ok, s.water.gate == .gated, s.ctrl.drain.isSome]

/-- The data of a STATUS_QUERY part (R185). -/
def State.statusPart (s : State) (part : Nat) : List Byte :=
  if part = 0 then s.modeBytes ++ [s.ctrl.flags] ++ be8 s.meas.basis.code ++ be8 s.conditions
  else be16 s.ctrl.day ++ be24 s.ctrl.seconds

/-- The owner's event of STATUS_QUERY (R185). -/
def State.statusQuery (s : State) (node : Node) (part : Nat) : State :=
  if 1 < part then s.reply node 0x28 .badValue [] else s.reply node 0x28 .ok (s.statusPart part)

/-- STATUS_QUERY (R185, R193). -/
def execStatusQuery (node : Node) (part : Byte) (s : State) : Out :=
  .next (s.serve node 0x28 [part] (fun t => t.statusQuery node part.toNat))

/-! ### The yard clock -/

/-- A change of day: fresh used today is 0 again, a cause of a dispatch attempt (R77, R89). -/
def State.changeDay (s : State) : State :=
  ({ s with water := { s.water with freshToday := 0 } } : State).cause

/-- A change of the now hour: the forecast is re-judged, then FREEZE (R50, R180, R186). -/
def State.changeHour (s : State) : State := s.judgeForecast.judgeFreeze

/-- The clock with a day and seconds written. -/
def State.setClock (s : State) (day seconds : Nat) : State :=
  { s with ctrl := { s.ctrl with day := day, seconds := seconds } }

/-- YARD_SECOND (R186). -/
def execYardSecond (s : State) : Out :=
  .next (
    let s0 := s.reach s.ctrl.yardDue
    let s1 : State := { s0 with ctrl := { s0.ctrl with yardDue := s.ctrl.yardDue + 1000 } }
    let next := s.ctrl.seconds + 1
    if 86400 ≤ next then (s1.setClock ((s.ctrl.day + 1) % 65536) 0).changeDay.changeHour
    else if next % 3600 = 0 then (s1.setClock s.ctrl.day next).changeHour
    else s1.setClock s.ctrl.day next)

/-- The owner's event of TIME_SET (R187). -/
def State.timeSet (s : State) (node : Node) (day seconds : Nat) : State :=
  let taken := min 86399 seconds
  let s1 := (s.setClock day taken).clearTimeUnset
  let s2 := if day = s.ctrl.day then s1 else s1.changeDay
  let s3 := if nowHourOf day taken = s.nowHour then s2 else s2.changeHour
  s3.reply node 0x22 (okOrClamped (decide (86399 < seconds))) []

/-- TIME_SET (R187, R193). -/
def execTimeSet (node : Node) (day : BitVec 16) (seconds : BitVec 24) (s : State) : Out :=
  .next (s.serve node 0x22 (be16 day.toNat ++ be24 seconds.toNat) (fun t => t.timeSet node day.toNat seconds.toNat))

end Sys2Proof.Machine
end

