-- ==== Sys2Proof/Machine/Risk.lean ====
section
/-! DEFINITION. Forecast and Emission Risk (R46 to R66), with rain and evaporation (R13 to R15): the forecast and
weather requests, and the evaluation of every defined bed. -/

namespace Sys2Proof.Machine

/-! ### FORECAST_SLOT -/

/-- The fields of a part stored into a slot (R48): clamped, absent where the marker stands. -/
def Slot.withPart (k : Slot) (part : Nat) (fields : BitVec 40) : Slot :=
  let word := (fields.extractLsb' 24 16).toNat
  if part = 0 then
    { k with hour := field16 word, mean := clampField 600 (field16 (fields.extractLsb' 8 16).toNat)
             sector := clampField 15 (field8 (fields.extractLsb' 0 8)) }
  else if part = 1 then
    { k with gust := clampField 600 (field16 word), humidity := clampField 100 (field8 (fields.extractLsb' 16 8))
             temperature := clampTemperature (fieldTemperature (fields.extractLsb' 8 8)) }
  else { k with rain := field16 word }

/-- A field of the part was outside its range (R48). -/
def partClamped (part : Nat) (fields : BitVec 40) : Bool :=
  let word := (fields.extractLsb' 24 16).toNat
  if part = 0 then
    clampField 600 (field16 (fields.extractLsb' 8 16).toNat) != field16 (fields.extractLsb' 8 16).toNat ||
      clampField 15 (field8 (fields.extractLsb' 0 8)) != field8 (fields.extractLsb' 0 8)
  else if part = 1 then
    clampField 600 (field16 word) != field16 word ||
      clampField 100 (field8 (fields.extractLsb' 16 8)) != field8 (fields.extractLsb' 16 8) ||
      clampTemperature (fieldTemperature (fields.extractLsb' 8 8)) != fieldTemperature (fields.extractLsb' 8 8)
  else false

/-- The table is empty when all 12 slots are (R46). -/
def State.tableEmpty (s : State) : Bool := s.slotList.all (· == Slot.empty)

/-- How an issue number stands to the current one (R47). -/
inductive IssueAge where
  | new | same | older
  deriving DecidableEq, Repr

/-- The judgment of an issue number (R47). -/
def State.issueAge (s : State) (i : Nat) : IssueAge :=
  let d := (i + 256 - s.forecast.issue) % 256
  if s.tableEmpty = true ∨ (1 ≤ d ∧ d ≤ 127) then .new else if d = 0 then .same else .older

/-- A new issue empties the table and becomes the current one (R47). -/
def State.openIssue (s : State) (i : Nat) : State :=
  if s.issueAge i = .new then
    { s with forecast := { s.forecast with issue := i, slots := Vector.replicate 12 Slot.empty } }
  else s

/-- A part is stored into its slot (R48). -/
def State.storePart (s : State) (slot part : Nat) (fields : BitVec 40) : State :=
  { s with forecast := { s.forecast with slots := setNth s.forecast.slots slot ((s.slot slot).withPart part fields) } }

/-- The reply of FORECAST_SLOT: always with the current issue number after the request (R47). -/
def State.replyIssue (s : State) (node : Node) (r : Result) : State := s.reply node 0x20 r (be8 s.forecast.issue)

/-- The owner's event of FORECAST_SLOT (R47, R48, R50, R180). The forecast is re-judged before FREEZE (log 40). -/
def State.forecastSlot (s : State) (node : Node) (issue slot part : Nat) (fields : BitVec 40) : State :=
  if slot = 0 ∨ 12 < slot ∨ 2 < part then s.replyIssue node .badValue
  else if s.issueAge issue = .older then s.replyIssue node .stale
  else (((s.openIssue issue).storePart slot part fields).judgeForecast.judgeFreeze).replyIssue node
    (okOrClamped (partClamped part fields))

/-- FORECAST_SLOT (R47, R193). -/
def execForecastSlot (node : Node) (issue slot part : Byte) (fields : BitVec 40) (s : State) : Out :=
  .next (s.serve node 0x20 (issue :: slot :: part :: be40 fields.toNat)
    (fun t => t.forecastSlot node issue.toNat slot.toNat part.toNat fields))

/-! ### WEATHER_NOW -/

/-- Rain on one bed (R15): every defined bed that is not EMPTY. -/
def rainOn (rain : Nat) (s : State) (b : Nat) : State :=
  if s.conf.bedDefined b = true ∧ (s.bed b).surface ≠ .empty then
    s.setBed b { s.bed b with wetness := min 1000 ((s.bed b).wetness + rain * 10000 / s.conf.saturation) }
  else s

/-- A reading of the weather-now record (R51): a present one with its time, an absent one leaves the held one. -/
def noteReading {α : Type} (now : Nat) (v : Option α) (before : Option (α × Nat)) : Option (α × Nat) :=
  match v with
  | some x => some (x, now)
  | none => before

/-- The weather-now record takes the fields of a WEATHER_NOW (R51). A reading's arrival time is that of the take (log 39). -/
def State.noteWeather (s : State) (humidity : Option Nat) (temperature : Option Int) : State :=
  { s with forecast := { s.forecast with
      humidity := noteReading s.osc humidity s.forecast.humidity
      temperature := noteReading s.osc temperature s.forecast.temperature } }

/-- The owner's event of WEATHER_NOW (R51, R15, R180). -/
def State.weatherNow (s : State) (node : Node) (rain : Nat) (humidity temperature : Byte) : State :=
  let rh := field8 humidity
  let t := fieldTemperature temperature
  let s1 := s.noteWeather (clampField 100 rh) (clampTemperature t)
  let s2 := bedNumbers.foldl (rainOn ((field16 rain).getD 0)) s1
  let s3 := if t.isSome then s2.judgeFreeze else s2
  s3.reply node 0x21 (okOrClamped (clampField 100 rh != rh || clampTemperature t != t)) []

/-- WEATHER_NOW (R51, R193). -/
def execWeatherNow (node : Node) (rain : BitVec 16) (humidity temperature : Byte) (s : State) : Out :=
  .next (s.serve node 0x21 (be16 rain.toNat ++ [humidity, temperature])
    (fun t => t.weatherNow node rain.toNat humidity temperature))

/-! ### Exposure and effective wind -/

/-- A wind from a sector as it reaches bed `b` (R56). -/
def Settings.expose (S : Settings) (b wind sector : Nat) : Nat :=
  if (S.mask b).testBit sector then wind else wind * S.shelter b / 100

/-- A forecast term (R57): two floors, in that order; absent unless the slot holds the figure and a sector. -/
def forecastTerm (S : Settings) (b : Nat) (figure : Slot → Option Nat) (k : Slot) : Option Nat :=
  match figure k, k.sector with
  | some u, some sector => some (S.expose b u sector * S.trust / 100)
  | _, _ => none

/-- The live term of a bed (R57), for one of the live figures. -/
def State.liveTerm (s : State) (b : Nat) (figure : LiveWind → Nat) : List Nat :=
  match s.meas.live with
  | some w => [s.conf.expose b (figure w) w.sector]
  | none => []

/-- The effective mean wind U; the forecast terms only when they count (R57, R64). -/
def State.effectiveMean (s : State) (b : Nat) (forecast : Bool) : Nat :=
  largest (s.liveTerm b LiveWind.mean ++
    if forecast then s.lookaheadSet.filterMap (forecastTerm s.conf b Slot.mean) else [])

/-- The effective gust G (R57). -/
def State.effectiveGust (s : State) (b : Nat) (forecast : Bool) : Nat :=
  largest (s.liveTerm b LiveWind.gust ++
    if forecast then s.lookaheadSet.filterMap (forecastTerm s.conf b Slot.gust) else [])

/-! ### Threshold, risk and band -/

/-- Ut0 of a surface state; an EMPTY bed takes no stage (R58). -/
def Settings.baseThreshold (S : Settings) : Surface → Nat
  | .settled => S.utSettled
  | .fresh => S.utFresh
  | .worked => S.utWorked
  | .empty => 0

/-- The wind threshold Ut (R58). -/
def Settings.threshold (S : Settings) (f : Surface) (wetness : Nat) : Nat :=
  S.baseThreshold f + wetness * S.wSlope / 1000

/-- The excess of a wind over the threshold (R58). -/
def excessOf (wind threshold : Nat) : Nat := min 300 (wind - threshold)

/-- The potential P (R59). -/
def potential (e eg : Nat) : Nat := e * e + eg * eg / 4

/-- The dryness D (R59). -/
def dryness (humidity : Nat) : Nat := max 20 (100 - humidity)

/-- The risk value R (R59). -/
def riskValue (p area d : Nat) : Nat := min 65535 (p * area * d / 6400)

/-- The risk value of bed `b` from its effective winds (R58, R59). -/
def State.riskOf (s : State) (b : Nat) (forecast : Bool) : Nat :=
  let ut := s.conf.threshold (s.bed b).surface (s.bed b).wetness
  riskValue (potential (excessOf (s.effectiveMean b forecast) ut) (excessOf (s.effectiveGust b forecast) ut))
    (s.conf.area b) (dryness s.currentHumidity)

/-- The entry threshold of a band (R60). -/
def Settings.entryOf (S : Settings) : Band → Nat
  | .low => 0 | .watch => S.tWatch | .act => S.tAct | .severe => S.tSev

/-- The highest band whose entry threshold is at or below R (R60). -/
def Settings.riskBand (S : Settings) (r : Nat) : Band :=
  if S.tSev ≤ r then .severe else if S.tAct ≤ r then .act else if S.tWatch ≤ r then .watch else .low

/-- One step down (R60). -/
def Band.down : Band → Band
  | .severe => .act | .act => .watch | .watch => .low | .low => .low

/-- The band from the previous band and R (R60). -/
def Settings.nextBand (S : Settings) (previous : Band) (r : Nat) : Band :=
  if previous.code < (S.riskBand r).code then S.riskBand r
  else if r + S.hysteresis < S.entryOf previous then previous.down
  else previous

/-- The dust floor of bed `b` (R61). -/
def State.dustFloor (s : State) (b : Nat) : Option Band :=
  let k := s.channel (s.conf.bedChannel b)
  if k.state = .off ∨ k.state.isFault = true then none
  else match k.held with
  | none => none
  | some v =>
    if s.conf.limitLevel (s.conf.bedChannel b) ≤ v then some .severe
    else if s.conf.watchLevel (s.conf.bedChannel b) ≤ v then some .act
    else none

/-- A band under a dust floor (R61). -/
def Band.floored (band : Band) (floor : Option Band) : Band :=
  match floor with
  | some f => if band.code < f.code then f else band
  | none => band

/-! ### Demand -/

/-- The demand volume V (R63), the one figure rounded up. -/
def demandVolume (target wetness area saturation : Nat) : Nat := ceilDiv ((target - wetness) * area * saturation) 1000

/-- V of bed `b` toward a target, from the wetness read at the start of its evaluation. -/
def State.volumeToward (s : State) (b target wetness : Nat) : Nat :=
  demandVolume target wetness (s.conf.area b) s.conf.saturation

/-- The origin of an ACT demand by the live-only test (R64). -/
def State.actOrigin (s : State) (b : Nat) : Origin :=
  if (s.conf.nextBand (s.bed b).band (s.riskOf b false)).code < 2 ∧ (s.dustFloor b).isNone = true then .prewet else .autoAct

/-- The rain ahead withholds a PREWET demand (R65). -/
def State.rainAhead (s : State) : Bool :=
  decide (0 < s.conf.rSkip ∧ s.conf.rSkip ≤ ((s.lookaheadSet.filterMap Slot.rain).sum))

/-! ### One bed -/

/-- The evaporation dW of bed `b` (R14). -/
def State.evaporation (s : State) (b : Nat) : Nat :=
  let wind := match s.meas.live with
    | some w => s.conf.expose b w.mean w.sector * s.conf.kEv / 1000
    | none => 0
  1 + wind + (s.currentTemperature.getD 15).toNat / 10

/-- R, the band and the evaporated W are written in one event, and capped at risk is judged (R14, R19, R55, R110). -/
def State.writeRisk (s : State) (b risk : Nat) (band : Band) : State :=
  (s.setBed b { s.bed b with risk := risk, band := band, wetness := (s.bed b).wetness - s.evaporation b }).judgeAtRisk b

/-- What a bed's evaluation hands the dispatcher: the target wetness and the origin, if any (R63, R64, R65). -/
def State.fullDemand (s : State) (b : Nat) (band : Band) : Option (Nat × Origin) :=
  match band with
  | .severe => some (s.conf.wtSev, .autoSevere)
  | .act =>
    if s.actOrigin b = .prewet ∧ s.rainAhead = true then none else some (s.conf.wtAct, s.actOrigin b)
  | _ => none

/-- A bed's demand in the FALLBACK computation (R66). -/
def State.fallbackDemand (s : State) (b : Nat) (band : Band) : Option (Nat × Origin) :=
  match band with
  | .severe => some (s.conf.wtSev, .autoSevere)
  | .act => some (s.conf.wtAct, .autoAct)
  | _ =>
    match (s.bed b).lastSprayEnd with
    | none => some (s.conf.wtAct, .autoAct)
    | some t => if t + ms s.conf.tFall ≤ s.osc then some (s.conf.wtAct, .autoAct) else none

/-- A demand for a bed, from the wetness before evaporation (R63). -/
def State.handFor (s : State) (b wetness : Nat) (d : Option (Nat × Origin)) : State :=
  match d with
  | some (target, origin) => s.handDemand b origin (s.volumeToward b target wetness)
  | none => s

/-- The full computation of bed `b` (R55). -/
def State.evaluateFull (s : State) (b : Nat) : State :=
  let risk := s.riskOf b true
  let band := (s.conf.nextBand (s.bed b).band risk).floored (s.dustFloor b)
  (s.writeRisk b risk band).handFor b (s.bed b).wetness (s.fullDemand b band)

/-- The FALLBACK computation of bed `b` (R66). -/
def State.evaluateFallback (s : State) (b : Nat) : State :=
  let band := (s.dustFloor b).getD .watch
  (s.writeRisk b 0 band).handFor b (s.bed b).wetness (s.fallbackDemand b band)

/-- One bed of an evaluation (R53, R55, R62, R66); an undefined bed is passed over. -/
def evaluateBed (fallback : Bool) (s : State) (b : Nat) : State :=
  if !s.conf.bedDefined b then s
  else if (s.bed b).surface = .empty then s.writeRisk b 0 .low
  else if fallback then s.evaluateFallback b
  else s.evaluateFull b

/-- One evaluation (R53, R177, R180, log 18). -/
def State.evaluate (s : State) : State :=
  let s1 := s.judgeBasis
  let fallback := s1.ctrl.mode == .fallback
  bedNumbers.foldl (evaluateBed fallback) s1.judgeFreeze

/-- EVALUATION (R53): every 60 s from the load on. -/
def execEvaluation (s : State) : Out :=
  .next (match s.evalDue with
  | some due => ({ s.reach due with evalDue := some (due + 60000) } : State).evaluate
  | none => s)

end Sys2Proof.Machine
end

