-- ==== Sys2Proof/Machine/SettingsStore.lean ====
section
/-! DEFINITION. Settings Store and Start-up (R175, R182, R201 to R206): writing, reading and committing settings, the
settings restart, the resets and the load. -/

namespace Sys2Proof.Machine

/-! ### Writing and reading -/

/-- The owner's event of SETTING_WRITE (R204). -/
def State.settingWrite (s : State) (node : Node) (item index : Nat) (word : BitVec 32) : State :=
  if s.ctrl.mode ≠ .maintenance then s.reply node 0x30 .wrongMode []
  else if s.ctrl.drain.isSome || s.store.commit.isSome then s.reply node 0x30 .busy []
  else
    let v := settingOfWord item index word
    if settingInRange item index v then
      ({ s with store := { s.store with working := s.store.working.put item index v, uncommitted := true } } : State).reply
        node 0x30 .ok (settingBytes v)
    else s.reply node 0x30 .badValue []

/-- SETTING_WRITE (R204, R193). -/
def execSettingWrite (node : Node) (item index : Byte) (value : BitVec 32) (s : State) : Out :=
  .next (s.serve node 0x30 (item :: index :: be32 value.toNat)
    (fun t => t.settingWrite node item.toNat index.toNat value))

/-- The owner's event of SETTING_READ (R204). -/
def State.settingRead (s : State) (node : Node) (item index : Nat) : State :=
  if s.store.commit.isSome then s.reply node 0x31 .busy []
  else if (itemRange item index).isNone then s.reply node 0x31 .badValue []
  else s.reply node 0x31 .ok (settingBytes (s.store.working.get item index))

/-- SETTING_READ (R204, R193). -/
def execSettingRead (node : Node) (item index : Byte) (s : State) : Out :=
  .next (s.serve node 0x31 [item, index] (fun t => t.settingRead node item.toNat index.toNat))

/-! ### Committing -/

/-- The version a commit writes (R205). -/
def nextVersion (v : Nat) : Nat := (v + 1) % 65536

/-- The owner's event of SETTING_COMMIT (R205): an accepted one's reply is deferred (R194). -/
def State.settingCommit (s : State) (node : Node) : State :=
  if s.ctrl.mode ≠ .maintenance then s.reply node 0x32 .wrongMode []
  else if s.ctrl.drain.isSome then s.reply node 0x32 .busy []
  else match firstFailure s.store.working with
  | some k => s.reply node 0x32 .badValue (be8 (k / 256) ++ be8 (k % 256))
  | none =>
    { s with
      store := { s.store with
        commit := some ⟨formImage s.store.working (nextVersion s.store.working.version), 0, s.osc⟩ }
      port := { s.port with long := some ⟨node, 0x32⟩ } }

/-- SETTING_COMMIT (R205, R193, R194). -/
def execSettingCommit (node : Node) (s : State) : Out := .next (s.serve node 0x32 [] (fun t => t.settingCommit node))

/-- The bytes of one 32-byte page of an image (R201). -/
def pageBytes (image : List Byte) (page : Nat) : List Byte := (image.drop (page * 32)).take 32

/-- How many pages an image takes (R205). -/
def pageCount (image : List Byte) : Nat := ceilDiv image.length 32

/-- PAGE_WRITE_DONE (R201, R205): the page is written, and the next one begins, or the read-back. -/
def execPageWriteDone (s : State) : Out :=
  .next (match s.store.commit with
  | some c =>
    if c.page < pageCount c.image then
      { s with store := { s.store with
        eeprom := eepromWriteBlock s.store.eeprom (c.page * 32) (pageBytes c.image c.page)
        commit := some { c with page := c.page + 1, since := s.osc } } }
    else s
  | none => s)

/-- The deferred reply of a commit, in its reserved entry (R194, R205). -/
def State.replyCommit (s : State) (r : Result) (data : List Byte) : State :=
  match s.port.long with
  | some l => ({ s with port := { s.port with long := none } } : State).reply l.node l.code r data
  | none => s

/-- A commit fails at a page address (R205). -/
def State.failCommit (s : State) (address : Nat) : State :=
  (({ s with store := { s.store with commit := none } } : State).setFlag .storeFault).replyCommit .failed (be16 address)

/-- The bytes of a page in doubt: free values (R205, log 8). -/
def doubtBytes (freeCount address count : Nat) : List Byte := (numbersFrom address count).map (Config.doubtByte freeCount)

/-- The page being written is in doubt (R205, log 8). -/
def State.doubtPage (s : State) (page count : Nat) : State :=
  { s with
    store := { s.store with
      eeprom := eepromWriteBlock s.store.eeprom (page * 32) (doubtBytes s.freeCount (page * 32) count) }
    freeCount := s.freeCount + 1 }

/-- PAGE_FAILURE (R201, R205): still busy 20 ms after the page write. -/
def execPageFailure (s : State) : Out :=
  .next (match s.store.commit with
  | some c =>
    if c.page < pageCount c.image then
      ((s.reach (c.since + 20)).doubtPage c.page (pageBytes c.image c.page).length).failCommit (c.page * 32)
    else s
  | none => s)

/-- The EEPROM with the bytes that read otherwise than they were written (R205, log 9). -/
def withDiffering (mem : List Host.Cell) (differ : List Host.Cell) : List Host.Cell :=
  differ.foldl (fun m d => eepromWrite m d.1 d.2) mem

/-- The address of the first byte in which two lists differ. -/
def firstMismatch (address : Nat) : List Byte → List Byte → Option Nat
  | a :: as, b :: bs => if a = b then firstMismatch (address + 1) as bs else some address
  | [], [] => none
  | _, _ => some address

/-! ### The settings restart -/

/-- A window in progress is abandoned and the valve turned off (R36, R45, log 22). -/
def Channel.abandoned (r : Channel) : Channel := { r with windowDue := none, zeroWindow := false, valve := false, count := 0 }

/-- A running test ends as R148 gives (R145, R206). -/
def endRunningTest (s : State) (c : Nat) : State := if (s.cannon c).test = .none then s else s.endByEstimate c s.osc

/-- The dispatcher at a settings restart (R136). -/
def State.cancelOrders (s : State) : State :=
  let s1 := s.disp.orders.foldl (fun t o => t.removeOrder o .cancelled) s
  { s1 with disp := { s1.disp with grantSequence := 0, attempt := false } }

/-- The Yard Bus Port leaves the bus with its inbound queues emptied (R200, R206). -/
def State.leaveBus (s : State) : State :=
  { s with port := { s.port with urgent := [], routine := [], bus := .away (s.port.bus == .busOff) } }

/-- A settings restart begins (R175, R206), with the image a commit verified, if it is one. -/
def State.beginRestart (s : State) (image : Option (List Byte)) : State :=
  let s1 := (cannonNumbers.foldl endRunningTest s).cancelOrders.leaveBus
  { s1 with
    ctrl := { s1.ctrl with mode := .starting, modeMark := false }
    meas := { s1.meas with channels := s1.meas.channels.map Channel.abandoned }
    evalDue := none
    store := { s1.store with commit := none, verified := image, resetKind := .settingsRestart } }

/-- The whole image has been written and read back matching (R205). -/
def State.finishCommit (s : State) (image : List Byte) : State :=
  let version := nextVersion s.store.working.version
  ((({ s with store := { s.store with working := { s.store.working with version := version }, uncommitted := false } } :
    State).replyCommit .ok (be16 version)).beginRestart (some image))

/-- READ_BACK (R205, R206). -/
def execReadBack (differ : List Host.Cell) (s : State) : Out :=
  .next (match s.store.commit with
  | some c =>
    if c.page < pageCount c.image then s
    else
      let s1 : State := { s with store := { s.store with eeprom := withDiffering s.store.eeprom differ } }
      match firstMismatch 0 (eepromReadBlock s1.store.eeprom 0 c.image.length) c.image with
      | some a => s1.failCommit (a / 32 * 32)
      | none => s1.finishCommit c.image
  | none => s)

/-- The owner's event of MAINT_EXIT (R182). -/
def State.maintExit (s : State) (node : Node) : State :=
  if s.ctrl.mode ≠ .maintenance then s.reply node 0x34 .wrongMode []
  else if s.ctrl.drain.isSome || s.store.commit.isSome then s.reply node 0x34 .busy []
  else (s.reply node 0x34 .ok []).beginRestart none

/-- MAINT_EXIT (R182, R193). -/
def execMaintExit (node : Node) (s : State) : Out := .next (s.serve node 0x34 [] (fun t => t.maintExit node))

/-! ### The resets -/

/-- The page a commit was writing is in doubt after a reset that abandons it (R205, log 8). Before its first page has been
written the EEPROM holds the old image as it was. -/
def State.abandonCommit (s : State) : State :=
  match s.store.commit with
  | some c =>
    if 1 ≤ c.page ∧ c.page < pageCount c.image then s.doubtPage c.page (pageBytes c.image c.page).length else s
  | none => s

/-- A power-on or external reset: every block at its reset values; the EEPROM, the commands waiting and the free-value
counter are outside it (R4, R34, R45, R46, R67, R92, R136, R145, R162, R175, R184, R186, R200, R205). -/
def State.resetAs (s : State) (k : ResetKind) : State :=
  let s1 := s.abandonCommit
  { State.reset with
    store := { State.reset.store with eeprom := s1.store.eeprom, resetKind := k }
    freeCount := s1.freeCount
    pending := s.pending }

/-- POWER_ON_RESET (R175). -/
def execPowerOnReset (s : State) : Out := .next (s.resetAs .powerOn)

/-- EXTERNAL_RESET (R175). -/
def execExternalReset (s : State) : Out := .next (s.resetAs .external)

/-! ### The load -/

/-- The kind of the last reset is a settings restart. -/
def State.restarting (s : State) : Bool := s.store.resetKind == .settingsRestart

/-- The image the load judges (R203, log 7): the one a commit verified, else what the EEPROM gives if it answers. -/
def State.loadImage (s : State) (answers : Bool) : List Byte :=
  match s.store.verified with
  | some image => image
  | none => if answers then eepromImage s.store.eeprom else []

/-- The working copy and the settings in force are loaded (R203). -/
def State.loadSettings (s : State) (S : Settings) (valid : Bool) : State :=
  let s1 : State := { s with
    conf := S
    store := { s.store with working := S, uncommitted := false, verified := none,
                            started := some ⟨s.store.resetKind, valid, S.version⟩ } }
  if valid then s1 else s1.setFlag .settingsInvalid

/-- A dust channel at the load (R36, R45). A new Z of 0 clears the dirty mark of a channel taken out of use too, as the table of
R45 says against its text (log 47). -/
def loadChannel (S : Settings) (restart : Bool) (now ch : Nat) (r : Channel) : Channel :=
  let r0 := if restart then { r with sinceZero := 0, aboveRun := 0, belowRun := 0, dirty := r.dirty && decide (0 < S.zeroEvery ch) }
            else Channel.initial
  if S.channelInUse ch then
    let zero := decide (if restart then S.zeroEvery ch = 1 else 0 < S.zeroEvery ch)
    r0.begun (channelStateAt true r0.dirty zero) zero 0 (now + S.windowSteps ch * 10)
  else { r0.abandoned with state := .off }

/-- The Measurement Unit at the load (R23, R34, R45). -/
def State.loadMeasurement (s : State) : State :=
  let restart := s.restarting
  let s1 := channelNumbers.foldl (fun t ch => t.setChannel ch (loadChannel t.conf restart t.osc ch (t.channel ch))) s
  if restart then s1 else { s1 with meas := { s1.meas with secondDue := some (s1.osc + 1000) } }

/-- The Cannon Line Controller at the load: every record at its reset values, the line OK (R145). A line fault taken in STARTING
before the load is dropped with the rest (log 54). -/
def State.loadLine (s : State) : State :=
  { s with line := ⟨Vector.replicate 24 Cannon.initial, .ok, none, false, 0, 0, s.line.heldSerial⟩ }

/-- A source record at the load: a pending amount of a kind no longer routed is dropped (R84). -/
def Source.loaded (r : Source) (routed : Bool) : Source := if routed then r else { r with pendingUse := 0 }

/-- The Water Account at the load: capacities formed, the usage period after a power-on or external reset (R81, R83,
R84). -/
def State.loadWater (s : State) : State :=
  let routed := s.classes .waterUse != 0
  ({ s with water := { s.water with
      recycled := s.water.recycled.loaded routed
      fresh := s.water.fresh.loaded routed
      usageDue := if s.restarting then s.water.usageDue else some (s.osc + ms s.conf.tUse) } } : State).formCapacities

/-- The gate is re-judged from the kept last turbidity (R79). -/
def State.loadGate (s : State) : State :=
  match s.water.turbidity with
  | some t => s.judgeGate t
  | none => s

/-- Pending notices of kinds no longer routed are dropped (R99, R111, R119). -/
def State.dropUnrouted (s : State) : State :=
  { s with
    beds := { s.beds with pending := if s.classes .holdEnded = 0 then [] else s.beds.pending }
    zones := { s.zones with pending := if s.classes .claimExpired = 0 then [] else s.zones.pending }
    disp := { s.disp with pending := if s.classes .sprayDone = 0 then [] else s.disp.pending } }

/-- The Record Queue at the load: marks of classes no longer told are cleared, and the read timer starts again with any
record, at a first load too (R172, R174, log 43). -/
def State.loadRecords (s : State) : State :=
  { s with recs := { s.recs with
      marks := ⟨s.recs.marks.ops && s.tellsClass .ops, s.recs.marks.wtr && s.tellsClass .wtr,
                s.recs.marks.met && s.tellsClass .met⟩
      readDue := if s.recs.queue.isEmpty then none else some (s.osc + ms s.conf.tRead) } }

/-- The CAN controller joins the bus; one that left it bus-off has recovered (R188, R200). -/
def State.joinBus (s : State) : State :=
  let s1 : State := { s with port := { s.port with bus := .joined } }
  if s.port.bus = .away true then s1.setFlag .busRecovered else s1

/-- The settings of a bed keep its runtime part across a settings restart (R5). -/
def bedKept (before after : Settings) (b : Nat) : Bool :=
  before.bedDefined b && after.bedDefined b && before.area b == after.area b &&
    (before.cannonList b).map ListEntry.cannon == (after.cannonList b).map ListEntry.cannon

/-- No prior state is kept for a bed in any entry of the machine table: an undefined bed has none (R92). -/
def State.dropPrior (s : State) (b : Nat) : State :=
  s.setEntries (s.zones.entries.map (fun e => { e with prior := sparseErase b e.prior }))

/-- A bed is reset at a settings restart: its hold ends, one under STACK or RECLAIM becomes WORKED again (R5), and one that
is no longer defined loses its kept prior states (R92). -/
def State.resetBed (s : State) (b : Nat) : State :=
  let s1 := s.setBed b (Bed.initial s.conf.wInit)
  let s2 := match (s.bed b).hold with
    | some h => (s1.makeHoldEnded ⟨b, h.tag, h.tally⟩).cause
    | none => s1
  if s.conf.bedDefined b then
    if s.touched b then (s2.setSurface b .worked).sharePrior b .settled else s2
  else s2.dropPrior b

/-- A kept bed is judged against the new settings: capped at risk, and a settle timer that has run out (R5, R11, R110). -/
def State.keepBed (s : State) (b : Nat) : State :=
  let s1 := s.judgeAtRisk b
  match (s1.bed b).settleSince with
  | some since => if since + ms s1.conf.tSettle ≤ s1.osc then s1.settle b else s1
  | none => s1

/-- One bed at a settings restart (R5). -/
def restartBed (before : Settings) (s : State) (b : Nat) : State :=
  if bedKept before s.conf b then s.keepBed b else s.resetBed b

/-- An entry that has stood longer than the new Tclaim expires (R92, R98). -/
def restartClaim (s : State) (e : Claim) : State :=
  if e.since + ms s.conf.tClaim ≤ s.osc then s.expireClaim e else s

/-- What a settings restart does to beds, claims and the forecast once the new settings are loaded (R5, R50, R92). Claims
expire in the order of the machine table (log 41). -/
def State.restartEffects (s : State) (before : Settings) : State :=
  let s1 := bedNumbers.foldl (restartBed before) s
  (s1.zones.entries.foldl restartClaim s1).judgeForecast

/-- After a power-on or external reset every bed has W at the loaded Winit (R4). -/
def State.loadBeds (s : State) : State := { s with beds := { s.beds with records := Vector.replicate 32 (Bed.initial s.conf.wInit) } }

/-- The mode leaves STARTING (R175). -/
def State.leaveStarting (s : State) (valid : Bool) : State :=
  if valid then
    let s1 := s.enterMode .automatic
    if s1.ctrl.operator || s1.ctrl.freeze then s1.enterMode .hold else s1
  else s.enterMode .maintenance

/-- The blocks take their settings (R203, R206). -/
def State.loadBlocks (s : State) : State :=
  let s1 : State := { s.loadMeasurement.loadLine.loadWater.dropUnrouted.loadRecords with evalDue := some (s.osc + 60000) }
  (if s.restarting then s1 else s1.loadBeds).joinBus

/-- The load of judged settings, one event (R203, R206, log 17). -/
def State.load (s : State) (S : Settings) (valid : Bool) : State :=
  let s1 := (s.loadSettings S valid).loadBlocks.flushStarted
  let s2 := (if s.restarting then s1.judgeFreeze else s1).leaveStarting valid
  (if s.restarting then (s2.loadGate).restartEffects s.conf else s2).sweep.cause

/-- LOAD (R203): the store has read the image; only in STARTING. -/
def execLoad (answers : Bool) (s : State) : Out :=
  .next (if s.ctrl.mode = .starting then
    match judgeImage (s.loadImage answers) with
    | some S => s.load S true
    | none => s.load Settings.builtIn false
  else s)

end Sys2Proof.Machine
end

