-- ==== Sys2Proof/Machine/Dispatch.lean ====
section
/-! DEFINITION. The dispatch of a command to its meaning: one arm per constructor of Instr. -/

namespace Sys2Proof.Machine

def exec (i : Instr) (s : State) : Host.Outcome State Fault Refusal :=
  match i with
  | .powerOnReset => Sys2Proof.Machine.execPowerOnReset s
  | .externalReset => Sys2Proof.Machine.execExternalReset s
  | .load answers => Sys2Proof.Machine.execLoad answers s
  | .anemometerPulse mast => Sys2Proof.Machine.execAnemometerPulse mast s
  | .endOfSecond vaneA vaneB => Sys2Proof.Machine.execEndOfSecond vaneA vaneB s
  | .dustPulse channel => Sys2Proof.Machine.execDustPulse channel s
  | .windowEnd channel ready => Sys2Proof.Machine.execWindowEnd channel ready s
  | .forecastSlot node issue slot part fields => Sys2Proof.Machine.execForecastSlot node issue slot part fields s
  | .weatherNow node rain humidity temperature => Sys2Proof.Machine.execWeatherNow node rain humidity temperature s
  | .evaluation => Sys2Proof.Machine.execEvaluation s
  | .settleTimerExpiry bed => Sys2Proof.Machine.execSettleTimerExpiry bed s
  | .waterGrant node source amount => Sys2Proof.Machine.execWaterGrant node source amount s
  | .waterWithdraw node source amount => Sys2Proof.Machine.execWaterWithdraw node source amount s
  | .waterQuality node turbidity => Sys2Proof.Machine.execWaterQuality node turbidity s
  | .pumpState node pumps flow => Sys2Proof.Machine.execPumpState node pumps flow s
  | .usagePeriodExpiry => Sys2Proof.Machine.execUsagePeriodExpiry s
  | .waterQuery node part => Sys2Proof.Machine.execWaterQuery node part s
  | .zoneClaim node machine activity first last => Sys2Proof.Machine.execZoneClaim node machine activity first last s
  | .zoneRelease node machine outcome => Sys2Proof.Machine.execZoneRelease node machine outcome s
  | .claimExpiry machine => Sys2Proof.Machine.execClaimExpiry machine s
  | .moistureHoldSet node bed cap tag => Sys2Proof.Machine.execMoistureHoldSet node bed cap tag s
  | .moistureHoldClear node bed tag => Sys2Proof.Machine.execMoistureHoldClear node bed tag s
  | .manualSpray node bed volume preference => Sys2Proof.Machine.execManualSpray node bed volume preference s
  | .cancelSpray node bed => Sys2Proof.Machine.execCancelSpray node bed s
  | .orderExpiry bed => Sys2Proof.Machine.execOrderExpiry bed s
  | .dispatchAttempt => Sys2Proof.Machine.execDispatchAttempt s
  | .transactionBegin => Sys2Proof.Machine.execTransactionBegin s
  | .requestSent => Sys2Proof.Machine.execRequestSent s
  | .ping reply => Sys2Proof.Machine.execPing reply s
  | .start reply => Sys2Proof.Machine.execStart reply s
  | .poll reply => Sys2Proof.Machine.execPoll reply s
  | .trim reply => Sys2Proof.Machine.execTrim reply s
  | .stop reply => Sys2Proof.Machine.execStop reply s
  | .test reply => Sys2Proof.Machine.execTest reply s
  | .allStop => Sys2Proof.Machine.execAllStop s
  | .noReply => Sys2Proof.Machine.execNoReply s
  | .shortReply => Sys2Proof.Machine.execShortReply s
  | .pollDue cannon => Sys2Proof.Machine.execPollDue cannon s
  | .pingDue cannon => Sys2Proof.Machine.execPingDue cannon s
  | .lineFault => Sys2Proof.Machine.execLineFault s
  | .lineFaultEndOfStarts => Sys2Proof.Machine.execLineFaultEndOfStarts s
  | .lineReturn => Sys2Proof.Machine.execLineReturn s
  | .cannonRestore node cannon => Sys2Proof.Machine.execCannonRestore node cannon s
  | .testSpray node cannon => Sys2Proof.Machine.execTestSpray node cannon s
  | .cannonQuery node cannon part => Sys2Proof.Machine.execCannonQuery node cannon part s
  | .bedQuery node bed part => Sys2Proof.Machine.execBedQuery node bed part s
  | .recordRead node => Sys2Proof.Machine.execRecordRead node s
  | .readTimerExpiry => Sys2Proof.Machine.execReadTimerExpiry s
  | .allHold node => Sys2Proof.Machine.execAllHold node s
  | .holdRelease node => Sys2Proof.Machine.execHoldRelease node s
  | .maintEnter node => Sys2Proof.Machine.execMaintEnter node s
  | .drainDeadline => Sys2Proof.Machine.execDrainDeadline s
  | .maintExit node => Sys2Proof.Machine.execMaintExit node s
  | .flagClear node mask => Sys2Proof.Machine.execFlagClear node mask s
  | .statusQuery node part => Sys2Proof.Machine.execStatusQuery node part s
  | .yardSecond => Sys2Proof.Machine.execYardSecond s
  | .timeSet node day seconds => Sys2Proof.Machine.execTimeSet node day seconds s
  | .requestArrival identifier data => Sys2Proof.Machine.execRequestArrival identifier data s
  | .frameSent => Sys2Proof.Machine.execFrameSent s
  | .busOff => Sys2Proof.Machine.execBusOff s
  | .busRecovered => Sys2Proof.Machine.execBusRecovered s
  | .settingWrite node item index value => Sys2Proof.Machine.execSettingWrite node item index value s
  | .settingRead node item index => Sys2Proof.Machine.execSettingRead node item index s
  | .settingCommit node => Sys2Proof.Machine.execSettingCommit node s
  | .pageWriteDone => Sys2Proof.Machine.execPageWriteDone s
  | .pageFailure => Sys2Proof.Machine.execPageFailure s
  | .readBack differ => Sys2Proof.Machine.execReadBack differ s

end Sys2Proof.Machine
end

