-- ==== Sys2Proof/Machine/Step.lean ====
section
/-! DEFINITION. One step: the command at the front of the queue, or one idle millisecond of the oscillator (log 2). -/

namespace Sys2Proof.Machine

/-- Take the command at the front of the queue and run it on the rest; with none waiting, a millisecond passes. -/
def step (s : State) : Host.Outcome State Fault Refusal :=
  match s.pending with
  | c :: rest => exec c { s with pending := rest }
  | [] => .next { s with osc := s.osc + 1 }

/-- The command a word spells is put at the front of the queue; a word that spells none changes nothing (log 29). -/
def State.withFetchWord (s : State) (nbits w : Nat) : State :=
  match Sys2Proof.decodeTableWord nbits w with
  | some c => { s with pending := c :: s.pending }
  | none => s

end Sys2Proof.Machine
end

