-- ==== Sys2Proof/Safety.lean ====
section
/-! DEFINITION. The terms of the claims: when the handler takes a request, the laws of the machine that every step keeps, and
the judgment of an order and of a set of settings in the manual's words. The manual stops the part nowhere, so a safe run is
one whose states keep these laws. -/

namespace Sys2Proof.Machine

/-- The handler takes this request now and hands it to its owner (R193, R194): it is next and not stale, a reply has
room, the mode takes requests, and no other long request is in progress if it is a long one. -/
abbrev State.ready (s : State) (node : Node) (code : Nat) (data : List Byte) : Prop :=
  s.takes node code data = true ∧ s.nextStale = false ∧ (isLong code = true → s.port.long = none)

/-- A request has been answered: it has left its inbound queue, and its reply has joined the outbound queue behind any
notices of its own event (R193, R195, log 6). -/
def State.answers (s t : State) (node : Node) (code : Nat) (r : Result) (data : List Byte) : Prop :=
  t.port.urgent = s.takeRequest.port.urgent ∧ t.port.routine = s.takeRequest.port.routine ∧
    ∃ notices, t.port.outbound = s.port.outbound ++ notices ++ [.reply node code r data]

/-- The reply to the transaction in flight has arrived and is taken: the request has been sent to a cannon, and the bytes
read are a good reply to it (R138, R141). -/
abbrev State.replyTaken (s : State) (t : Transaction) (bytes : List Byte) (r : Reply) : Prop :=
  s.line.transaction = some t ∧ t.sentAt.isSome = true ∧ 1 ≤ t.cannon ∧ t.cannon ≤ 24 ∧
    replyLength t.command ≤ bytes.length ∧
    judgeReply t.cannon t.command (bytes.take (replyLength t.command)) = some r

/-- A start in progress on the cannon of a transaction, and the transaction serves it (R145, log 11). -/
abbrev State.serves (s : State) (t : Transaction) (o : Order) (st : Start) : Prop :=
  s.startOn t.cannon = some o ∧ s.order o.bed = some o ∧ o.start = some st ∧ t.sequence = some st.sequence

/-- The request a command takes from the inbound queues: its sender, code and data (R193); nothing for an event. -/
def requestOf : Instr → Option (Node × Nat × List Byte)
  | .forecastSlot node issue slot part fields => some (node, 0x20, issue :: slot :: part :: be40 fields.toNat)
  | .weatherNow node rain humidity temperature => some (node, 0x21, be16 rain.toNat ++ [humidity, temperature])
  | .waterGrant node source amount => some (node, 0x18, source :: be32 amount.toNat)
  | .waterWithdraw node source amount => some (node, 0x19, source :: be32 amount.toNat)
  | .waterQuality node turbidity => some (node, 0x1A, be16 turbidity.toNat)
  | .pumpState node pumps flow => some (node, 0x1B, pumps :: be16 flow.toNat)
  | .waterQuery node part => some (node, 0x2A, [part])
  | .zoneClaim node machine activity first last => some (node, 0x04, [machine, activity, first, last])
  | .zoneRelease node machine outcome => some (node, 0x05, [machine, outcome])
  | .moistureHoldSet node bed cap tag => some (node, 0x10, bed :: be24 cap.toNat ++ be16 tag.toNat)
  | .moistureHoldClear node bed tag => some (node, 0x11, bed :: be16 tag.toNat)
  | .manualSpray node bed volume preference => some (node, 0x12, bed :: be24 volume.toNat ++ [preference])
  | .cancelSpray node bed => some (node, 0x13, [bed])
  | .cannonRestore node cannon => some (node, 0x35, [cannon])
  | .testSpray node cannon => some (node, 0x36, [cannon])
  | .cannonQuery node cannon part => some (node, 0x2B, [cannon, part])
  | .bedQuery node bed part => some (node, 0x29, [bed, part])
  | .recordRead node => some (node, 0x24, [])
  | .allHold node => some (node, 0x01, [])
  | .holdRelease node => some (node, 0x02, [])
  | .maintEnter node => some (node, 0x33, [])
  | .maintExit node => some (node, 0x34, [])
  | .flagClear node mask => some (node, 0x2C, [mask])
  | .statusQuery node part => some (node, 0x28, [part])
  | .timeSet node day seconds => some (node, 0x22, be16 day.toNat ++ be24 seconds.toNat)
  | .settingWrite node item index value => some (node, 0x30, item :: index :: be32 value.toNat)
  | .settingRead node item index => some (node, 0x31, [item, index])
  | .settingCommit node => some (node, 0x32, [])
  | .powerOnReset => none | .externalReset => none | .load _ => none | .anemometerPulse _ => none
  | .endOfSecond _ _ => none | .dustPulse _ => none | .windowEnd _ _ => none | .evaluation => none
  | .settleTimerExpiry _ => none | .usagePeriodExpiry => none | .claimExpiry _ => none | .orderExpiry _ => none
  | .dispatchAttempt => none | .transactionBegin => none | .requestSent => none | .ping _ => none | .start _ => none
  | .poll _ => none | .trim _ => none | .stop _ => none | .test _ => none | .allStop => none | .noReply => none
  | .shortReply => none | .pollDue _ => none | .pingDue _ => none | .lineFault => none
  | .lineFaultEndOfStarts => none | .lineReturn => none | .readTimerExpiry => none | .drainDeadline => none
  | .yardSecond => none | .requestArrival _ _ => none | .frameSent => none | .busOff => none | .busRecovered => none
  | .pageWriteDone => none | .pageFailure => none | .readBack _ => none

/-- The yard clock holds 0 to 86,399 seconds and a day of 16 bits (R186). -/
abbrev State.clockLaw (s : State) : Prop := s.ctrl.seconds ≤ 86399 ∧ s.ctrl.day ≤ 65535

/-- The frames held and the entry reserved for a long request (R195). -/
def State.outboundUsed (s : State) : Nat := s.port.outbound.length + (if s.port.long.isSome then 1 else 0)

/-- The bus queues stay within 8, 32 and 24 entries (R192, R195). -/
abbrev State.queueLaw (s : State) : Prop :=
  s.port.urgent.length ≤ 8 ∧ s.port.routine.length ≤ 32 ∧ s.outboundUsed ≤ 24

/-- At most 32 records, and an OVERFLOW only as the newest (R170). -/
abbrev recordLaw (queue : List Record) : Prop := queue.length ≤ 32 ∧ ∀ r ∈ queue.dropLast, r.kind ≠ .overflow

/-- Every bed's wetness stays within 0 to 1000 (R13); so do the two settings that write it. -/
def State.wetnessLaw (s : State) : Prop :=
  (∀ b, (s.bed b).wetness ≤ 1000) ∧ s.conf.wInit ≤ 1000 ∧ s.conf.wStack ≤ 1000

/-- The cannons of the starts in progress. -/
def State.startCannons (s : State) : List Nat := s.disp.orders.filterMap (fun o => o.start.map Start.cannon)

/-- At most one order per bed, with a current start in GRANTED, SPRAYING and STOPPING and none in WAITING (R112, R113); and
at most one start on a cannon, whose address is 1 to 24 (R124, R137). -/
abbrev State.orderLaw (s : State) : Prop :=
  (s.disp.orders.map Order.bed).Nodup ∧ (∀ o ∈ s.disp.orders, (o.start.isSome = true ↔ o.state ≠ .waiting)) ∧
    s.startCannons.Nodup ∧ ∀ c ∈ s.startCannons, 1 ≤ c ∧ c ≤ 24

/-- Every fault score stays within 0 to 199 (R145). -/
def State.scoreLaw (s : State) : Prop := ∀ c, (s.cannon c).score ≤ 199

/-- No hold reason stands in AUTOMATIC or FALLBACK, and one stands in HOLD (R178); no order and no evaluation in STARTING
(R136, R203); a drain and a commit only in MAINTENANCE, never both, each with its deferred reply outstanding (R181, R194,
R205); and in MAINTENANCE with the drain ended, no order in a start (R133, R181). -/
abbrev State.modeLaw (s : State) : Prop :=
  ((s.ctrl.mode = .automatic ∨ s.ctrl.mode = .fallback) → s.ctrl.operator = false ∧ s.ctrl.freeze = false) ∧
  (s.ctrl.mode = .hold → s.ctrl.operator = true ∨ s.ctrl.freeze = true) ∧
  (s.ctrl.mode = .starting → s.disp.orders = [] ∧ s.evalDue = none) ∧
  (s.ctrl.drain.isSome = true → s.ctrl.mode = .maintenance ∧ s.store.commit = none ∧ s.port.long.isSome = true) ∧
  (s.store.commit.isSome = true → s.ctrl.mode = .maintenance ∧ s.port.long.isSome = true) ∧
  (s.ctrl.mode = .maintenance → s.ctrl.drain = none → s.drained = true)

/-- The start volume an order has reserved on a source (R68). -/
def Order.reservedOn (w : WaterSource) (o : Order) : Nat :=
  match o.start with
  | some st => if st.source = w then st.volume else 0
  | none => 0

/-- For each source, reserved equals the sum of the start volumes drawing on it, and lies within the balance, which lies
within 100,000,000 (R67, R68). -/
def State.reservedLaw (s : State) : Prop :=
  ∀ w, (s.source w).reserved = (s.disp.orders.map (Order.reservedOn w)).sum ∧
    (s.source w).reserved ≤ (s.source w).balance ∧ (s.source w).balance ≤ 100000000

/-- Every order is for a defined bed (R1); an order in GRANTED or SPRAYING has an unclaimed bed and a mode that grants
(R129); and such orders fit the header (R132). -/
abbrev State.runLaw (s : State) : Prop :=
  (∀ o ∈ s.disp.orders, s.conf.bedDefined o.bed = true ∧
    (o.running = true → (s.ctrl.mode = .automatic ∨ s.ctrl.mode = .fallback) ∧ s.claimed o.bed = false)) ∧
  s.runningOrders.length ≤ s.water.slotCapacity ∧ s.flowSum s.runningOrders ≤ s.water.flowCapacity

/-- Fresh used today and fresh reserved together stay within the daily cap, but where a restart lowered the cap, and then
nothing is reserved (R76); a test is in progress only in MAINTENANCE with the drain ended (R159). -/
def State.freshLaw (s : State) : Prop :=
  (s.water.freshToday + s.water.fresh.reserved ≤ s.conf.fCap ∨ s.water.fresh.reserved = 0) ∧
    ∀ c, (s.cannon c).test ≠ .none → s.ctrl.mode = .maintenance ∧ s.ctrl.drain = none

/-- The queue stays in order of priority and, within one priority, of creation (R113). The order of creation is read off the
model's own serial (log 26), which no two orders share and which is below the next one to be given. -/
abbrev State.queueOrderLaw (s : State) : Prop :=
  s.disp.orders.Pairwise (fun a b => a.origin.priority < b.origin.priority ∨
    (a.origin.priority = b.origin.priority ∧ a.serial < b.serial)) ∧
  (s.disp.orders.map Order.serial).Nodup ∧ ∀ o ∈ s.disp.orders, o.serial < s.disp.serial

/-- Every order holds at least Vmin: a WAITING one always (R115), and one in a start since it waited (R130, R131). -/
abbrev State.volumeLaw (s : State) : Prop := ∀ o ∈ s.disp.orders, s.conf.vMin ≤ o.remaining

/-- The machine table: at most 8 entries, no machine twice, machines 1 to 15, first bed at or below the last (R92). -/
abbrev State.zoneLaw (s : State) : Prop :=
  s.zones.entries.length ≤ 8 ∧ (s.zones.entries.map Claim.machine).Nodup ∧
    ∀ e ∈ s.zones.entries, 1 ≤ e.machine ∧ e.machine ≤ 15 ∧ e.first ≤ e.last

/-- On every bed under a moisture hold the tally plus the share of the bed's current start, and so the tally, stays within the
cap (R101). -/
def State.holdLaw (s : State) : Prop := ∀ b h, (s.bed b).hold = some h → h.tally + s.shareOf b ≤ h.cap

/-- The cursor of a defined bed lies within its cannon list (R3, R21). -/
def State.cursorLaw (s : State) : Prop :=
  ∀ b, s.conf.bedDefined b = true → (s.bed b).cursor < (s.conf.cannonList b).length

/-- A TRIM is held for a cannon, or in flight (R103, R107). -/
def State.asksTrim (s : State) (limit hold : Nat) : Prop :=
  (∃ c, (s.cannon c).held.map HeldCommand.command = some (.trim limit hold)) ∨
    s.line.transaction.map Transaction.command = some (.trim limit hold)

/-- What R103 asks a TRIM for: every start on a bed under a hold counts against it; and a TRIM asked by that hold, while its
reply is still to come, carries a limit within the cap the hold had at creation. Holds and TRIMs bear serials already given
(log 26). -/
def State.trimLaw (s : State) : Prop :=
  (∀ b h, (s.bed b).hold = some h → h.serial < s.beds.holdSerial) ∧
  (∀ limit hold, s.asksTrim limit hold → hold < s.beds.holdSerial) ∧
  ∀ o ∈ s.disp.orders, ∀ st h, o.start = some st → (s.bed o.bed).hold = some h →
    st.count ≠ .uncounted ∧ ∀ limit dh cap, s.asksTrim limit h.serial → st.count = .running dh cap → limit ≤ cap

/-- What RECORDS_WAITING does with the classes that have a notice due (R172): in the order OPS, WTR, MET each class with unread
records is told while five entries are free, its mark is cleared with or without records, and the others stay marked. -/
def State.readersTold (s t : State) (due : ReaderClass → Bool) : Prop :=
  let count := unreadCount t.recs.queue
  let told := fun c => if due c = true ∧ 0 < count c then 1 else 0
  let before := fun (c : ReaderClass) => if c = .ops then 0 else if c = .wtr then told .ops else told .ops + told .wtr
  (∀ c, t.recs.marks.has c = (due c && decide (s.free < 5 + before c))) ∧
  t.port = { s.port with outbound := s.port.outbound ++
    [ReaderClass.ops, .wtr, .met].flatMap (fun c =>
      if due c = true ∧ 0 < count c ∧ 5 + before c ≤ s.free
      then [.notice (2 ^ c.bit) .recordsWaiting (be8 (count c))] else []) }

/-- What a producer's asking for a record does (R165, R169, R170, R171, R173). -/
def State.recordMade (s t : State) (k : RecordKind) (subject value : Nat) (band : Option Band) : Prop :=
  let set := Readers.ofMask (s.conf.recordSet k.code)
  let made : Record := ⟨k, subject, value, s.ctrl.seconds, s.ctrl.day, band, set⟩
  (set.isEmpty = true → t.recs = s.recs ∧ t.port = s.port ∧ t.ctrl.flags = s.ctrl.flags) ∧
  (set.isEmpty = false →
    (s.recs.queue = [] → t.recs.queue = [made] ∧ t.recs.readDue = some (s.osc + s.conf.tRead * 1000) ∧
      t.ctrl.flags = s.ctrl.flags) ∧
    (∀ older newest, s.recs.queue = older ++ [newest] → t.recs.readDue = s.recs.readDue ∧
      (newest.kind ≠ .overflow → s.recs.queue.length < 32 →
        t.recs.queue = s.recs.queue ++ [made] ∧ t.ctrl.flags = s.ctrl.flags) ∧
      (newest.kind ≠ .overflow → 32 ≤ s.recs.queue.length →
        t.recs.queue = older ++ [⟨.overflow, 0, 2, s.ctrl.seconds, s.ctrl.day, none, newest.unread.union set⟩] ∧
        t.ctrl.flags = s.ctrl.flags ||| 0x10#8) ∧
      (newest.kind = .overflow →
        t.recs.queue = older ++ [{ newest with value := min 65535 (newest.value + 1), unread := newest.unread.union set }] ∧
        t.ctrl.flags = s.ctrl.flags ||| 0x10#8)) ∧
    s.readersTold t (fun c => s.recs.marks.has c || ((s.classes .recordsWaiting).testBit c.bit &&
      (decide (unreadCount s.recs.queue c = 0 ∧ unreadCount t.recs.queue c = 1) ||
        decide (unreadCount s.recs.queue c + 1 = s.conf.wMark ∧ unreadCount t.recs.queue c = s.conf.wMark)))))

/-! ### The judgment of an order, in the words of R71, R72 and R121 to R127 -/

/-- Priority 0 or 1: the orders that may draw on FRESH (R71). -/
abbrev Order.urgent (o : Order) : Prop := o.origin = .autoSevere ∨ o.origin = .manual

/-- A source's offer to an order (R71, R76). -/
def State.offerFor (s : State) (o : Order) : WaterSource → Nat
  | .recycled => s.water.recycled.balance - s.water.recycled.reserved - (if o.origin = .prewet then s.conf.rFloor else 0)
  | .fresh => min (s.water.fresh.balance - s.water.fresh.reserved)
      (s.conf.fCap - (s.water.freshToday + s.water.fresh.reserved))

/-- RECYCLED is chosen for an order: the gate is OPEN, the offer is at least Vmin, and no urgent order prefers FRESH (R71,
R72). -/
abbrev State.takesRecycled (s : State) (o : Order) : Prop :=
  s.water.gate = .isOpen ∧ s.conf.vMin ≤ s.offerFor o .recycled ∧ (¬o.urgent ∨ o.preference ≠ .fresh)

/-- FRESH is chosen for an order (R71, R72). -/
abbrev State.takesFresh (s : State) (o : Order) : Prop :=
  o.urgent ∧ s.conf.vMin ≤ s.offerFor o .fresh ∧
    (o.preference = .fresh ∨ (o.preference = .any ∧ ¬s.takesRecycled o))

/-- The source chosen for an order (R72). -/
def State.givesWater (s : State) (o : Order) : WaterSource → Prop
  | .recycled => s.takesRecycled o
  | .fresh => s.takesFresh o

/-- The mode grants (R122). -/
abbrev State.modeGrants (s : State) : Prop := s.ctrl.mode = .automatic ∨ s.ctrl.mode = .fallback

/-- A claim covers a bed (R92, R122). -/
abbrev State.underClaim (s : State) (b : Nat) : Prop := ∃ e ∈ s.zones.entries, e.first ≤ b ∧ b ≤ e.last

/-- A bed is CAPPED: the room under its hold is below Vmin (R109, R122). -/
abbrev State.underCap (s : State) (b : Nat) : Prop := ∃ h, (s.bed b).hold = some h ∧ h.cap - h.tally < s.conf.vMin

/-- A bed passes the first three checks (R122). -/
abbrev State.bedPasses (s : State) (b : Nat) : Prop := s.modeGrants ∧ ¬s.underClaim b ∧ ¬s.underCap b

/-- A cannon is eligible (R124, R143). -/
abbrev State.cannonFits (s : State) (c : Nat) : Prop :=
  s.line.state = .ok ∧ (s.cannon c).activity = .idle ∧ s.startOn c = none ∧ (s.cannon c).held = none ∧
    s.conf.vMin ≤ s.conf.startLimit c

/-- The entry `j` places on from the rotation cursor of a bed, wrapping (R21). -/
def State.entryAt (s : State) (b j : Nat) : Option ListEntry :=
  (s.conf.cannonList b)[((s.bed b).cursor + j) % (s.conf.cannonList b).length]?

/-- The entry chosen for a bed: the first eligible one from the cursor on that is not SUSPECT, and where every eligible one is
SUSPECT the first eligible one (R21, R124). -/
abbrev State.picks (s : State) (b j : Nat) (e : ListEntry) : Prop :=
  j < (s.conf.cannonList b).length ∧ s.entryAt b j = some e ∧ s.cannonFits e.cannon ∧
    (((s.cannon e.cannon).suspect = false ∧
        ∀ i d, i < j → s.entryAt b i = some d → s.cannonFits d.cannon → (s.cannon d.cannon).suspect = true) ∨
      ((∀ d ∈ s.conf.cannonList b, s.cannonFits d.cannon → (s.cannon d.cannon).suspect = true) ∧
        ∀ i d, i < j → s.entryAt b i = some d → ¬s.cannonFits d.cannon))

/-- One start more, on a cannon, fits the header (R125). -/
abbrev State.headerTakes (s : State) (c : Nat) : Prop :=
  (s.disp.orders.filter Order.inStart).length + 1 ≤ s.water.slotCapacity ∧
    ((s.disp.orders.filter Order.inStart).map s.flowOf).sum + s.conf.ratedFlow c ≤ s.water.flowCapacity

/-- The first check an order fails (R121 to R125). -/
def State.failsCheck (s : State) (o : Order) : Block → Prop
  | .mode => ¬s.modeGrants
  | .zone => s.modeGrants ∧ s.underClaim o.bed
  | .cap => s.modeGrants ∧ ¬s.underClaim o.bed ∧ s.underCap o.bed
  | .water => s.bedPasses o.bed ∧ ¬s.takesRecycled o ∧ ¬s.takesFresh o
  | .cannon => s.bedPasses o.bed ∧ (s.takesRecycled o ∨ s.takesFresh o) ∧
      ∀ e ∈ s.conf.cannonList o.bed, ¬s.cannonFits e.cannon
  | .capacity => s.bedPasses o.bed ∧ (s.takesRecycled o ∨ s.takesFresh o) ∧
      ∃ j e, s.picks o.bed j e ∧ ¬s.headerTakes e.cannon

/-- An order passes every check with a source and the entry `j` places from the cursor (R121 to R125). -/
def State.passesChecks (s : State) (o : Order) (w : WaterSource) (j : Nat) (e : ListEntry) : Prop :=
  s.bedPasses o.bed ∧ s.givesWater o w ∧ s.picks o.bed j e ∧ s.headerTakes e.cannon

/-- The volume of a start granted to an order: the smallest of what it is owed, the cannon's limit, the offer, and the room
under the bed's hold (R126). -/
def State.grantVolume (s : State) (o : Order) (w : WaterSource) (e : ListEntry) : Nat :=
  let v := min o.remaining (min (s.conf.startLimit e.cannon) (s.offerFor o w))
  min v (((s.bed o.bed).hold.map (fun h => h.cap - h.tally)).getD v)

/-- The state after a grant (R127): the reservation, the start in its order, the cursor, and the held START. -/
def State.afterGrant (s : State) (o : Order) (w : WaterSource) (j : Nat) (e : ListEntry) : State :=
  let volume := s.grantVolume o w e
  let sequence := (s.disp.grantSequence + 1) % 65536
  let count := if (s.bed o.bed).hold.isSome then HoldCount.granted else .uncounted
  let granted := { o with state := .granted, blocked := none,
                          start := some ⟨e.cannon, w, volume, false, none, sequence, count⟩ }
  let s1 := s.setSource w { s.source w with reserved := (s.source w).reserved + volume }
  let s2 := s1.setBed o.bed { s.bed o.bed with
    cursor := ((s.bed o.bed).cursor + j + 1) % (s.conf.cannonList o.bed).length, waterShort := false }
  let s3 := s2.setCannon e.cannon { s.cannon e.cannon with
    held := some ⟨.start volume e.left e.right, s.line.heldSerial⟩, overrun := false, lastGood := none }
  { s3 with
    disp := { s.disp with
      orders := s.disp.orders.map (fun q => if q.bed = o.bed then granted else q), grantSequence := sequence }
    line := { s3.line with heldSerial := s.line.heldSerial + 1 } }

/-! ### The failing entries of a set of settings, in the words of R35, R54, R202 and R205 -/

/-- An entry fails: its value is out of range or it names no item (R202); or it is the last, in ascending order, of the entries
that a failing condition takes in (R205, log 16): a list that is empty or has a gap, a cannon twice in one list or in the
lists of more than two defined beds, a dust level above LIMIT, the thresholds, the wetness targets, the timeouts. -/
def Settings.fails (S : Settings) (k : Nat) : Prop :=
  let key := fun (code index : Nat) => code * 256 + index
  let address := fun (b p : Nat) => S.nat 0x15 ((b - 1) * 4 + p)
  let names := fun (b p c : Nat) => 1 ≤ b ∧ b ≤ 32 ∧ p < 4 ∧ 1 ≤ c ∧ c ≤ 24 ∧ address b p = c
  (∃ v, (k, v) ∈ S.entries ∧ ∀ q, itemRange (k / 256) (k % 256) = some q → v < q.low ∨ q.high < v) ∨
  (∃ b, S.bedDefined b = true ∧ k = key 0x15 ((b - 1) * 4 + 3) ∧
    (address b 0 = 0 ∨ ∃ p, p < 3 ∧ address b p = 0 ∧ address b (p + 1) ≠ 0)) ∨
  (∃ b p q c, names b p c ∧ names b q c ∧ p < q ∧ (∀ r, q < r → ¬names b r c) ∧ k = key 0x15 ((b - 1) * 4 + q)) ∨
  (∃ b q c, S.bedDefined b = true ∧ names b q c ∧ k = key 0x15 ((b - 1) * 4 + q) ∧
    (∀ d r, S.bedDefined d = true → names d r c → (d - 1) * 4 + r ≤ (b - 1) * 4 + q) ∧
    3 ≤ ((List.range 33).filter (fun d => S.bedDefined d && (List.range 4).any (fun r => address d r == c))).length) ∨
  (∃ ch, S.channelInUse ch = true ∧
    ((S.limitLevel ch < S.watchLevel ch ∧ k = key 0x28 ((ch - 1) * 16 + 6)) ∨
      (S.limitLevel ch < S.clearLevel ch ∧ k = key 0x28 ((ch - 1) * 16 + 7)))) ∨
  (¬(S.tWatch < S.tAct ∧ S.tAct < S.tSev) ∧ k = key 0x38 8) ∨
  (S.wtSev < S.wtAct ∧ k = key 0x38 11) ∨
  (S.replyComplete ≤ S.replyStart ∧ k = key 0x22 1)

/-- The pairs of the mode table of R175, and STARTING to HOLD through AUTOMATIC. -/
def modeMoves (a b : Mode) : Bool :=
  match a, b with
  | _, .starting => true
  | .starting, .automatic => true
  | .starting, .hold => true
  | .starting, .maintenance => true
  | .automatic, .fallback => true
  | .fallback, .automatic => true
  | .automatic, .hold => true
  | .fallback, .hold => true
  | .hold, .automatic => true
  | .hold, .fallback => true
  | .automatic, .maintenance => true
  | .fallback, .maintenance => true
  | .hold, .maintenance => true
  | _, _ => false

end Sys2Proof.Machine
end

