-- ==== Sys2Proof/Certificates/Slice0/Obligations.lean ====
section
/-! DEFINITION. The statements for the provers. Each names the rules it rests on; a clause that rests on a choice of the
model names the log entry. -/

open Sys2Proof Sys2Proof.Machine

/-! ### The machine as a whole -/

/-- A step runs the command at the front of the queue on the state with the queue's rest; on an empty queue one
millisecond passes and nothing else changes, which is the model's choice of log 2. -/
def Obligations.StepRunsFrontCommand : Prop :=
  (∀ (c : Instr) (rest : List Instr) (s : State), s.pending = c :: rest → step s = exec c { s with pending := rest }) ∧
  ∀ s : State, s.pending = [] → step s = .next { s with osc := s.osc + 1 }

/-- The part stops nowhere: every command answers a next state. -/
def Obligations.EveryCommandAnswers : Prop :=
  ∀ (c : Instr) (s : State), ∃ t, exec c s = .next t

/-- No command touches the queue of waiting commands. -/
def Obligations.CommandsLeaveTheQueue : Prop :=
  ∀ (c : Instr) (s t : State), exec c s = .next t → t.pending = s.pending

/-- The state right after reset keeps every law of Safety.lean. -/
def Obligations.ResetKeepsTheLaws : Prop :=
  State.reset.clockLaw ∧ State.reset.queueLaw ∧ recordLaw State.reset.recs.queue ∧ State.reset.wetnessLaw ∧
    State.reset.orderLaw ∧ State.reset.scoreLaw ∧ Memory.wf State.reset.store.eeprom ∧ State.reset.modeLaw ∧
    State.reset.reservedLaw ∧ State.reset.runLaw ∧ State.reset.freshLaw ∧ State.reset.queueOrderLaw ∧
    State.reset.volumeLaw ∧ State.reset.zoneLaw ∧ State.reset.holdLaw ∧ State.reset.cursorLaw ∧ State.reset.trimLaw

/-- R186: the yard clock stays within its ranges. -/
def Obligations.ClockStaysInRange : Prop :=
  ∀ s t : State, s.clockLaw → step s = .next t → t.clockLaw

/-- R192, R194, R195: the inbound queues and the outbound queue with its reserved entry stay within their lengths. -/
def Obligations.BusQueuesStayBounded : Prop :=
  ∀ s t : State, s.queueLaw → step s = .next t → t.queueLaw

/-- R170: the Record Queue holds at most 32 records, and an OVERFLOW only as the newest. -/
def Obligations.RecordQueueStaysBounded : Prop :=
  ∀ s t : State, recordLaw s.recs.queue → step s = .next t → recordLaw t.recs.queue

/-- R13: every bed's wetness stays within 0 to 1000. R3, R21: the cursor of every defined bed stays within its cannon list. -/
def Obligations.WetnessStaysInRange : Prop :=
  (∀ s t : State, s.wetnessLaw → step s = .next t → t.wetnessLaw) ∧
  ∀ s t : State, s.cursorLaw → step s = .next t → t.cursorLaw

/-- R112, R113, R124: at most one order per bed and one start per cannon, and a current start exactly in GRANTED, SPRAYING
and STOPPING. R113: the queue stays in order of priority and, within one, of creation, which is read off the model's own serial,
one of its own to each order (log 26). R115: every order holds at least Vmin, so a WAITING one does. R131: no remaining volume
rises while the order is not WAITING; an EVALUATION that moves FREEZE is left out, since its stops can put an order back to
WAITING and its demands may then raise it (log 18). -/
def Obligations.OrdersStayLawful : Prop :=
  (∀ s t : State, s.orderLaw → step s = .next t → t.orderLaw) ∧
  (∀ s t : State, s.orderLaw → s.queueOrderLaw → step s = .next t → t.queueOrderLaw) ∧
  (∀ s t : State, s.orderLaw → s.modeLaw → s.volumeLaw → step s = .next t → t.volumeLaw) ∧
  ∀ (c : Instr) (s t : State), s.orderLaw → exec c s = .next t → (c = .evaluation → t.ctrl.freeze = s.ctrl.freeze) →
    ∀ o ∈ s.disp.orders, o.state ≠ .waiting → ∀ q ∈ t.disp.orders, q.bed = o.bed → q.remaining ≤ o.remaining

/-- R145, R146: every fault score stays within 0 to 199. -/
def Obligations.ScoresStayBounded : Prop :=
  ∀ s t : State, s.scoreLaw → step s = .next t → t.scoreLaw

/-- The EEPROM's contents keep their canonical form, which is the model's own (log 7). -/
def Obligations.EepromStaysCanonical : Prop :=
  ∀ s t : State, Memory.wf s.store.eeprom → step s = .next t → Memory.wf t.store.eeprom

/-- R178, R136, R181, R194, R205: the mode agrees with the hold reasons, the drain, the commit and the orders. -/
def Obligations.ModesKeepTheirLaw : Prop :=
  ∀ s t : State, s.orderLaw → s.modeLaw → step s = .next t → t.modeLaw

/-- R67, R68: for each source, reserved equals the sum of the start volumes drawing on it, the available water is never
negative, and the balance stays within 100,000,000. -/
def Obligations.ReservationsMatchTheStarts : Prop :=
  ∀ s t : State, s.orderLaw → s.modeLaw → s.reservedLaw → step s = .next t → t.reservedLaw

/-- R122, R129, R132: orders in GRANTED or SPRAYING keep clear of claimed beds and of the modes that stop them, and fit the
header's slots and flow. -/
def Obligations.RunningOrdersKeepClear : Prop :=
  ∀ s t : State, s.orderLaw → s.modeLaw → s.runLaw → step s = .next t → t.runLaw

/-- R76, R87. The invariant: while any fresh water is reserved, fresh used today and fresh reserved together stay within the
daily cap. The law of every command but LOAD: at or below the cap the sum stays so; above it, where a restart has lowered the
cap, nothing is reserved on FRESH and the day's use does not grow. -/
def Obligations.FreshUseStaysWithinTheCap : Prop :=
  (∀ s t : State, s.orderLaw → s.modeLaw → s.reservedLaw → s.freshLaw → step s = .next t → t.freshLaw) ∧
  ∀ (c : Instr) (s t : State), (∀ answers, c ≠ .load answers) → s.orderLaw → s.modeLaw → s.reservedLaw → s.freshLaw →
    exec c s = .next t →
    (s.water.freshToday + s.water.fresh.reserved ≤ s.conf.fCap →
      t.water.freshToday + t.water.fresh.reserved ≤ t.conf.fCap) ∧
    (s.conf.fCap < s.water.freshToday + s.water.fresh.reserved →
      t.water.fresh.reserved = 0 ∧ t.water.freshToday ≤ s.water.freshToday)

/-- R175: the mode moves only between the pairs of the table (STARTING passes through AUTOMATIC to HOLD in one event). -/
def Obligations.ModeMovesByTheTable : Prop :=
  ∀ (c : Instr) (s t : State), exec c s = .next t → t.ctrl.mode = s.ctrl.mode ∨ modeMoves s.ctrl.mode t.ctrl.mode = true

/-! ### The Yard Bus Port -/

/-- R193, R194: the handler takes the oldest urgent request, and the oldest routine one only when no urgent one waits. It
takes one only when a reply has room and the mode is not STARTING; until then the request waits (log 5). A routine request
5 s old is answered STALE, a second long one BUSY (a stale long one STALE, log 44), and neither reaches its owner. -/
def Obligations.RequestsAreTakenInOrder : Prop :=
  (∀ (s : State) (r : Request) (rest : List Request),
    (s.port.urgent = r :: rest →
      s.nextRequest = some r ∧ s.takeRequest = { s with port := { s.port with urgent := rest } }) ∧
    (s.port.urgent = [] → s.port.routine = r :: rest →
      s.nextRequest = some r ∧ s.takeRequest = { s with port := { s.port with routine := rest } }) ∧
    (s.port.urgent = [] → s.port.routine = [] → s.nextRequest = none)) ∧
  ∀ (c : Instr) (s : State) (node : Node) (code : Nat) (data : List Byte), requestOf c = some (node, code, data) →
    let free := 24 - s.port.outbound.length - (if s.port.long.isSome then 1 else 0)
    let next := ∃ r, s.nextRequest = some r ∧ r.node = node ∧ r.code = code ∧ r.data = data
    let taken := next ∧ 1 ≤ free ∧ s.ctrl.mode ≠ .starting
    let stale := 0x10 ≤ code ∧ ∃ r, s.nextRequest = some r ∧ r.arrival + 5000 ≤ s.osc
    let long := code = 0x32 ∨ code = 0x33
    (s.takes node code data = true ↔ taken) ∧ (taken → (s.nextStale = true ↔ stale)) ∧ (isLong code = true ↔ long) ∧
    (¬taken → exec c s = .next s) ∧
    (taken → stale → exec c s = .next (s.takeRequest.reply node code .stale [])) ∧
    (taken → ¬stale → long → s.port.long.isSome = true → exec c s = .next (s.takeRequest.reply node code .busy [])) ∧
    (taken → ¬stale → (long → s.port.long = none) → s.ready node code data)

/-- R190, R191, R192: REQUEST_ARRIVAL. A frame that is no request, or whose sender is NONE, is ignored; the class and the
length are judged in that order; a full queue answers BUSY; a refusal needs a free entry. No frame arrives off the bus and
none is taken in STARTING: such an event changes nothing (R176, R188, log 3). -/
def Obligations.ArrivingRequests : Prop :=
  ∀ (s : State) (i : Identifier) (data : List Byte),
    (s.port.bus ≠ .joined ∨ s.ctrl.mode = .starting → exec (.requestArrival i data) s = .next s) ∧
    (s.port.bus = .joined → s.ctrl.mode ≠ .starting →
      (requestInfo (identifierCode i) = none → exec (.requestArrival i data) s = .next s) ∧
      ∀ classes bytes, requestInfo (identifierCode i) = some (classes, bytes) →
        let refused := fun r => if 1 ≤ s.free then s.reply (identifierNode i) (identifierCode i) r [] else s
        let request : Request := ⟨identifierNode i, identifierCode i, data.take bytes, s.osc⟩
        (s.classOf (identifierNode i) = .none → exec (.requestArrival i data) s = .next s) ∧
        (s.classOf (identifierNode i) ≠ .none → s.classOf (identifierNode i) ∉ classes →
          exec (.requestArrival i data) s = .next (refused .refusedClass)) ∧
        (s.classOf (identifierNode i) ≠ .none → s.classOf (identifierNode i) ∈ classes →
          (data.length < bytes → exec (.requestArrival i data) s = .next (refused .badLength)) ∧
          (bytes ≤ data.length →
            (identifierCode i < 16 → s.port.urgent.length < 8 → exec (.requestArrival i data) s =
              .next { s with port := { s.port with urgent := s.port.urgent ++ [request] } }) ∧
            (identifierCode i < 16 → 8 ≤ s.port.urgent.length →
              exec (.requestArrival i data) s = .next (refused .busy)) ∧
            (16 ≤ identifierCode i → s.port.routine.length < 32 → exec (.requestArrival i data) s =
              .next { s with port := { s.port with routine := s.port.routine ++ [request] } }) ∧
            (16 ≤ identifierCode i → 32 ≤ s.port.routine.length →
              exec (.requestArrival i data) s = .next (refused .busy)))))

/-- R188, R195, R196: FRAME_SENT. The head frame leaves with the part's own node number, and as many pending notices join as
leave four entries free, in the order of R196: STARTED, MODE, CANNON_STATE by address, HOLD_ENDED, CLAIM_EXPIRED and SPRAY_DONE
oldest first, WATER_USE of RECYCLED and FRESH, RECORDS_WAITING of OPS, WTR and MET. What a producer sends is no longer pending
with it, and what it could not send stays; a mark of a kind no class is told, or of a class with nothing unread, goes without a
notice. The frame lists what stays. Log 3: off the bus, or with nothing queued, nothing changes. -/
def Obligations.FrameSentFreesAnEntry : Prop :=
  ∀ s : State,
    (s.port.bus ≠ .joined ∨ s.port.outbound = [] → exec .frameSent s = .next s) ∧
    ∀ f rest, s.port.bus = .joined → s.port.outbound = f :: rest →
      let notice := fun (k : NoticeKind) (data : List Byte) => Frame.notice (s.classes k) k data
      let room := 20 - rest.length - (if s.port.long.isSome then 1 else 0)
      let started := if s.classes .started = 0 then [] else s.store.started.toList.map (fun m =>
        notice .started (be8 m.kind.code ++ be8 (if m.valid then 1 else 0) ++ be16 m.version))
      let mode := if s.ctrl.modeMark = true ∧ s.classes .mode ≠ 0 then [notice .mode (be8 s.ctrl.mode.code ++
        be8 ((if s.ctrl.operator then 1 else 0) + (if s.ctrl.freeze then 2 else 0)))] else []
      let cannons := fun n => ((List.range n).filter (fun i =>
          (s.cannon (i + 1)).mark && decide (s.classes .cannonState ≠ 0))).map (fun i =>
        let k := s.cannon (i + 1)
        notice .cannonState (be8 (i + 1) ++ be8 k.activity.code ++ be8 (if k.suspect then 1 else 0) ++ be8 k.score ++
          be8 k.lastFault.code))
      let held := s.beds.pending.map (fun h => notice .holdEnded (be8 h.bed ++ be16 h.tag ++ be24 h.tally))
      let expired := s.zones.pending.map (fun m => notice .claimExpired (be8 m))
      let sprayed := s.disp.pending.map (fun d =>
        notice .sprayDone (be8 d.bed ++ be32 d.delivered ++ be8 d.outcome.code))
      let used := fun (w : WaterSource) => if (s.source w).pendingUse = 0 then [] else
        [notice .waterUse (be8 w.code ++ be32 (s.source w).pendingUse)]
      let count := unreadCount s.recs.queue
      let waiting := fun (classes : List ReaderClass) =>
        (classes.filter (fun c => s.recs.marks.has c && decide (0 < count c))).map (fun c =>
          Frame.notice (2 ^ c.bit) .recordsWaiting (be8 (count c)))
      let n1 := started.length
      let n2 := n1 + mode.length
      let n3 := n2 + (cannons 24).length
      let n4 := n3 + held.length
      let n5 := n4 + expired.length
      let n6 := n5 + sprayed.length
      let n7 := n6 + (used .recycled).length
      let n8 := n7 + (used .fresh).length
      let joined := (started ++ mode ++ cannons 24 ++ held ++ expired ++ sprayed ++ used .recycled ++ used .fresh ++
        waiting [.ops, .wtr, .met]).take room
      ∃ t, exec .frameSent s = .next t ∧ t.port.sent = some ⟨identifierOf f.code s.conf.ownNode, f.bytes⟩ ∧
        t.port.outbound = rest ++ joined ∧
        t.store.started = (if 0 < room then none else s.store.started) ∧
        t.ctrl.modeMark = (s.ctrl.modeMark && decide (room ≤ n1)) ∧
        (∀ i, i < 24 → (t.cannon (i + 1)).mark =
          ((s.cannon (i + 1)).mark && decide (room ≤ n2 + (cannons i).length))) ∧
        t.beds.pending = s.beds.pending.drop (room - n3) ∧ t.zones.pending = s.zones.pending.drop (room - n4) ∧
        t.disp.pending = s.disp.pending.drop (room - n5) ∧
        t.water.recycled.pendingUse = (if n6 < room then 0 else s.water.recycled.pendingUse) ∧
        t.water.fresh.pendingUse = (if n7 < room then 0 else s.water.fresh.pendingUse) ∧
        (t.recs.marks.ops = (s.recs.marks.ops && decide (room ≤ n8)) ∧
          t.recs.marks.wtr = (s.recs.marks.wtr && decide (room ≤ n8 + (waiting [.ops]).length)) ∧
          t.recs.marks.met = (s.recs.marks.met && decide (room ≤ n8 + (waiting [.ops, .wtr]).length))) ∧
        (∀ g ∈ joined, g.code = 0x3D) ∧
        (24 < rest.length + 5 + (if s.port.long.isSome then 1 else 0) → joined = []) ∧
        t.port.urgent = s.port.urgent ∧ t.port.routine = s.port.routine ∧ t.port.long = s.port.long ∧
        t.port.bus = s.port.bus ∧ t.osc = s.osc ∧ t.conf = s.conf ∧ t.meas = s.meas ∧ t.forecast = s.forecast ∧
        t.beds.records = s.beds.records ∧ t.zones.entries = s.zones.entries ∧ t.disp.orders = s.disp.orders ∧
        t.recs.queue = s.recs.queue ∧ t.ctrl.mode = s.ctrl.mode ∧ t.ctrl.flags = s.ctrl.flags ∧
        t.water.recycled.balance = s.water.recycled.balance ∧ t.water.fresh.balance = s.water.fresh.balance

/-- R189: bus-off keeps every queue; recovery sets BUS_RECOVERED. Log 3: neither event changes a controller it cannot
reach. -/
def Obligations.BusOffAndRecovery : Prop :=
  ∀ s : State,
    (s.port.bus = .joined → exec .busOff s = .next { s with port := { s.port with bus := .busOff } }) ∧
    (s.port.bus ≠ .joined → exec .busOff s = .next s) ∧
    (s.port.bus = .busOff → exec .busRecovered s =
      .next { s with port := { s.port with bus := .joined }, ctrl := { s.ctrl with flags := s.ctrl.flags ||| 0x08#8 } }) ∧
    (s.port.bus ≠ .busOff → exec .busRecovered s = .next s)

/-! ### Resets and the load -/

/-- A power-on or external reset puts every block at its reset values; the EEPROM keeps every byte outside a page being
written (R205), and all of them before the first page has been written (log 8). The model's own parts of it: the built-in
settings stand until the LOAD (log 10), its free-value counter is kept and its other own fields restart (log 26), and the
commands waiting stay (log 29). -/
def Obligations.ResetsReturnToTheResetState : Prop :=
  ∀ (s : State) (c : Instr) (k : ResetKind),
    (c = .powerOnReset ∧ k = .powerOn) ∨ (c = .externalReset ∧ k = .external) →
    ∃ t, exec c s = .next t ∧
      t = { State.reset with
        store := { State.reset.store with eeprom := t.store.eeprom, resetKind := k }
        freeCount := t.freeCount
        pending := s.pending } ∧
      (∀ a, (∀ m, s.store.commit = some m → a < m.page * 32 ∨ m.page * 32 + 32 ≤ a) →
        eepromRead t.store.eeprom a = eepromRead s.store.eeprom a) ∧
      ((∀ m, s.store.commit = some m → m.page = 0 ∨ pageCount m.image ≤ m.page) →
        t.store.eeprom = s.store.eeprom ∧ t.freeCount = s.freeCount)

/-- R203, R175, R145, R81, R53, R188: LOAD in STARTING with no order in the queue. A valid image's values or the built-in
defaults come into force; the mode leaves STARTING; every cannon is OFFLINE with a PING due if it is in use. After a settings
restart R5 keeps or resets each bed, R36 and R45 begin each channel's window, R79 judges the gate, R50 the forecast, and R92
the claims, of which those older than Tclaim leave, and R175 and R180 judge FREEZE against the new limit. The STARTED notice of
R203 is the first that joins, or waits as a mark. R84, R99, R111, R119, R172 and R174 say what stays pending: what no class is
told any more is dropped, the rest and every record are kept, and the read timer starts again with any record. Outside STARTING
it changes nothing (log 3). The readings of log 7 (which image is judged), log 17 (the order of its parts), log 43 (the read
timer at a first load) and log 47 (the dirty mark of a channel out of use) are the model's. -/
def Obligations.LoadTakesTheImage : Prop :=
  ∀ (s : State) (answers : Bool),
    (s.ctrl.mode ≠ .starting → exec (.load answers) s = .next s) ∧
    (s.ctrl.mode = .starting → s.disp.orders = [] →
      ∃ t, exec (.load answers) s = .next t ∧
        (∀ S, judgeImage (s.loadImage answers) = some S →
          t.conf = S ∧ t.ctrl.mode = (if t.ctrl.operator || t.ctrl.freeze then Mode.hold else Mode.automatic)) ∧
        (judgeImage (s.loadImage answers) = none →
          t.conf = Settings.builtIn ∧ t.ctrl.mode = .maintenance ∧ t.ctrl.flags &&& 0x01#8 = 0x01#8) ∧
        t.store.working = t.conf ∧ t.store.uncommitted = false ∧ t.store.verified = none ∧
        t.store.eeprom = s.store.eeprom ∧ t.evalDue = some (s.osc + 60000) ∧ t.port.bus = .joined ∧
        t.line.state = .ok ∧ t.line.transaction = none ∧ t.disp.attempt = true ∧ t.ctrl.operator = s.ctrl.operator ∧
        t.water.slotCapacity = min t.conf.nSlot (s.water.pumps * t.conf.kSlot) ∧
        t.water.flowCapacity = min t.conf.fHead s.water.flowLimit ∧
        t.water.recycled.balance = s.water.recycled.balance ∧ t.water.fresh.balance = s.water.fresh.balance ∧
        (∀ c, 1 ≤ c → c ≤ 24 → (t.cannon c).activity = .offline ∧ (t.cannon c).score = 0 ∧
          (t.cannon c).pingDue = t.conf.inUse c) ∧
        (let valid := (judgeImage (s.loadImage answers)).isSome
         let restart := s.store.resetKind = .settingsRestart
         let told := fun k => t.classes k ≠ 0
         let quiet := (t.forecast.live = true ∨ s.forecast.live = false) ∧
           ∀ b, (s.bed b).hold = none ∨ (s.bed b).band ≠ .severe
         (told .started → 5 ≤ s.free → t.store.started = none ∧ ∃ more, t.port.outbound = s.port.outbound ++
           [.notice (t.classes .started) .started
             (be8 s.store.resetKind.code ++ be8 (if valid then 1 else 0) ++ be16 t.conf.version)] ++ more) ∧
         (told .started → s.free < 5 → t.store.started = some ⟨s.store.resetKind, valid, t.conf.version⟩) ∧
         (¬told .started → t.store.started = none) ∧ (s.free < 5 → t.port.outbound = s.port.outbound) ∧
         (restart → t.ctrl.freeze = (t.currentTemperature.map (fun degrees => decide (degrees ≤ t.conf.tFreeze) ||
           (decide (degrees < t.conf.tFreeze + 2) && s.ctrl.freeze))).getD false) ∧
         (¬restart → t.ctrl.freeze = s.ctrl.freeze) ∧
         (∀ w, (t.source w).pendingUse = (if told .waterUse then (s.source w).pendingUse else 0) ∧
           (t.source w).charged = (s.source w).charged) ∧
         (t.disp.pending = if told .sprayDone then s.disp.pending else []) ∧
         (¬told .claimExpired → t.zones.pending = []) ∧ (¬told .holdEnded → t.beds.pending = []) ∧
         (told .claimExpired → ¬restart ∨ (∀ e ∈ s.zones.entries, s.osc < e.since + t.conf.tClaim * 1000) →
           t.zones.pending = s.zones.pending) ∧
         (told .holdEnded → ¬restart ∨ (∀ b, (s.bed b).hold = none) → t.beds.pending = s.beds.pending) ∧
         t.recs.readDue = (if t.recs.queue = [] then none else some (s.osc + t.conf.tRead * 1000)) ∧
         (¬restart ∨ quiet → t.recs.queue = s.recs.queue ∧ ∀ c, t.recs.marks.has c =
           (s.recs.marks.has c && (t.classes .recordsWaiting).testBit c.bit))) ∧
        (s.store.resetKind ≠ .settingsRestart →
          t.meas.secondDue = some (s.osc + 1000) ∧ t.water.usageDue = some (s.osc + ms t.conf.tUse) ∧
          (∀ b, 1 ≤ b → b ≤ 32 → t.bed b = Bed.initial t.conf.wInit) ∧
          ∀ ch, 1 ≤ ch → ch ≤ 8 →
            let q := t.channel ch
            let zero := decide (0 < t.conf.zeroEvery ch)
            (q.baseline = 0 ∧ q.dirty = false ∧ q.held = none ∧ q.latched = false ∧ q.count = 0 ∧ q.sinceZero = 0 ∧
              q.aboveRun = 0 ∧ q.belowRun = 0) ∧
            (t.conf.channelInUse ch = true → q.state = (if zero then .zeroing else .measuring) ∧ q.zeroWindow = zero ∧
              q.valve = zero ∧ q.windowDue = some (s.osc + t.conf.windowSteps ch * 10)) ∧
            (t.conf.channelInUse ch = false → q.state = .off ∧ q.windowDue = none ∧ q.valve = false)) ∧
        (s.store.resetKind = .settingsRestart →
          t.meas.secondDue = s.meas.secondDue ∧ t.water.usageDue = s.water.usageDue ∧ t.meas.ring = s.meas.ring ∧
          (∀ ch, 1 ≤ ch → ch ≤ 8 →
            let r := s.channel ch
            let q := t.channel ch
            let zero := decide (t.conf.zeroEvery ch = 1)
            (q.baseline = r.baseline ∧ q.latched = r.latched ∧ q.dirty = (r.dirty && decide (0 < t.conf.zeroEvery ch)) ∧
              q.count = 0 ∧ q.sinceZero = 0 ∧ q.aboveRun = 0 ∧ q.belowRun = 0) ∧
            (t.conf.channelInUse ch = true → q.windowDue = some (s.osc + t.conf.windowSteps ch * 10) ∧
              q.zeroWindow = zero ∧ q.valve = zero ∧ q.held = (if q.dirty then none else r.held) ∧
              q.state = (if q.dirty then .faultDirty else if zero then .zeroing else .measuring)) ∧
            (t.conf.channelInUse ch = false → q.state = .off ∧ q.windowDue = none ∧ q.valve = false ∧ q.held = r.held)) ∧
          (∀ n, s.water.turbidity = some n →
            (s.water.gate = .isOpen → (t.water.gate = .gated ↔ t.conf.qLim < n)) ∧
            (s.water.gate = .gated → (t.water.gate = .isOpen ↔ n + 10 ≤ t.conf.qLim))) ∧
          (s.water.turbidity = none → t.water.gate = s.water.gate) ∧
          t.forecast.slots = s.forecast.slots ∧ t.forecast.live = t.slotsLive ∧
          (s.zoneLaw → t.zones.entries.map Claim.machine =
            (s.zones.entries.filter (fun e => decide (s.osc < e.since + t.conf.tClaim * 1000))).map Claim.machine) ∧
          ∀ b, 1 ≤ b → b ≤ 32 →
            let kept := s.conf.bedDefined b = true ∧ t.conf.bedDefined b = true ∧ s.conf.area b = t.conf.area b ∧
              (s.conf.cannonList b).map ListEntry.cannon = (t.conf.cannonList b).map ListEntry.cannon
            (kept → (t.bed b).wetness = (s.bed b).wetness ∧ (t.bed b).risk = (s.bed b).risk ∧
              (t.bed b).band = (s.bed b).band ∧ (t.bed b).lastSprayEnd = (s.bed b).lastSprayEnd ∧
              (t.bed b).cursor = (s.bed b).cursor ∧ (t.bed b).hold = (s.bed b).hold) ∧
            (¬kept → (t.bed b).wetness = t.conf.wInit ∧ (t.bed b).risk = 0 ∧ (t.bed b).band = .low ∧
              (t.bed b).lastSprayEnd = none ∧ (t.bed b).cursor = 0 ∧ (t.bed b).hold = none) ∧
            ((∀ e ∈ s.zones.entries, s.osc < e.since + t.conf.tClaim * 1000) →
              (kept → (s.bed b).settleSince = none → (t.bed b).surface = (s.bed b).surface) ∧
              (kept → ∀ since, (s.bed b).settleSince = some since →
                (t.bed b).surface = if since + t.conf.tSettle * 1000 ≤ s.osc then .settled else (s.bed b).surface) ∧
              (¬kept → (t.bed b).surface =
                if t.conf.bedDefined b = true ∧ (∃ e ∈ s.zones.entries, e.first ≤ b ∧ b ≤ e.last ∧
                  (e.activity = .stack ∨ e.activity = .reclaim)) then .worked else .settled))))

/-! ### Wind masts and dust channels -/

/-- R23, R36: one pulse more, staying at 65,535; a dust pulse counts only while a window runs, and changes nothing else
(log 3). An anemometer's pulse counts before the first load too (log 31). -/
def Obligations.PulsesAreCounted : Prop :=
  ∀ s : State,
    exec (.anemometerPulse .a) s =
      .next { s with meas := { s.meas with mastA := { s.meas.mastA with pulses := min 65535 (s.meas.mastA.pulses + 1) } } } ∧
    exec (.anemometerPulse .b) s =
      .next { s with meas := { s.meas with mastB := { s.meas.mastB with pulses := min 65535 (s.meas.mastB.pulses + 1) } } } ∧
    ∀ ch, 1 ≤ ch → ch ≤ 8 →
      ((s.channel ch).windowDue = none → exec (.dustPulse ch) s = .next s) ∧
      ((s.channel ch).windowDue.isSome = true →
        ∃ t, exec (.dustPulse ch) s = .next t ∧
          t = { s with meas := { s.meas with channels := t.meas.channels } } ∧
          t.channel ch = { s.channel ch with count := min 65535 ((s.channel ch).count + 1) } ∧
          ∀ j, j ≠ ch → t.channel j = s.channel j)

/-- R23, R24, R25, R26, R30, R31, R32, R33: the end of a second. Speeds, the Gray decode of the vane inputs, each mast's runs
(calm against a HEALTHY other, lone against the covering slot's mean, restored), the basis, and the ring. The oscillator
brought to the deadline and the next second 1000 ms behind it are log 1; no second due changes nothing (log 3). -/
def Obligations.SecondsEnd : Prop :=
  ∀ (s : State) (vaneA vaneB : BitVec 4),
    (s.meas.secondDue = none → exec (.endOfSecond vaneA vaneB) s = .next s) ∧
    ∀ due, s.meas.secondDue = some due →
      let speedA := min 600 (s.meas.mastA.pulses * s.conf.kAn .a / 100)
      let speedB := min 600 (s.meas.mastB.pulses * s.conf.kAn .b / 100)
      let mean := ((s.covering).bind Slot.mean).getD 0
      let judged := fun (r q : Mast) (speed : Nat) (otherHealth : Health) (other : Nat) =>
        (r.health = .healthy → otherHealth = .healthy →
          let run := if speed = 0 ∧ 30 ≤ other then r.zeroRun + 1 else 0
          (run < 60 → q.health = .healthy ∧ q.zeroRun = run ∧ q.loneRun = 0) ∧
          (60 ≤ run → q.health = .failed ∧ q.zeroRun = 0 ∧ q.loneRun = 0 ∧ q.restoreRun = 0)) ∧
        (r.health = .healthy → otherHealth = .failed →
          let run := if speed = 0 ∧ 60 ≤ mean then r.loneRun + 1 else 0
          (run < 600 → q.health = .healthy ∧ q.loneRun = run ∧ q.zeroRun = 0) ∧
          (600 ≤ run → q.health = .failed ∧ q.zeroRun = 0 ∧ q.loneRun = 0 ∧ q.restoreRun = 0)) ∧
        (r.health = .failed →
          let tolerance := max 10 (other * 25 / 100)
          let near := otherHealth = .failed ∨ (speed ≤ other + tolerance ∧ other ≤ speed + tolerance)
          let run := if 0 < speed ∧ near then r.restoreRun + 1 else 0
          (run < 60 → q.health = .failed ∧ q.restoreRun = run) ∧
          (60 ≤ run → q.health = .healthy ∧ q.zeroRun = 0 ∧ q.loneRun = 0 ∧ q.restoreRun = 0))
      ∃ t sectorA sectorB, exec (.endOfSecond vaneA vaneB) s = .next t ∧
        t.osc = max s.osc due ∧ t.meas.secondDue = some (due + 1000) ∧
        t.meas.mastA.pulses = 0 ∧ t.meas.mastB.pulses = 0 ∧
        t.meas.mastA.speed = some speedA ∧ t.meas.mastB.speed = some speedB ∧
        t.meas.mastA.sector = some sectorA ∧ t.meas.mastB.sector = some sectorB ∧
        (sectorA < 16 ∧ sectorA.testBit 3 = vaneA.getLsbD 3 ∧
          ∀ i, i < 3 → sectorA.testBit i = xor (sectorA.testBit (i + 1)) (vaneA.getLsbD i)) ∧
        (sectorB < 16 ∧ sectorB.testBit 3 = vaneB.getLsbD 3 ∧
          ∀ i, i < 3 → sectorB.testBit i = xor (sectorB.testBit (i + 1)) (vaneB.getLsbD i)) ∧
        judged s.meas.mastA t.meas.mastA speedA s.meas.mastB.health speedB ∧
        judged s.meas.mastB t.meas.mastB speedB s.meas.mastA.health speedA ∧
        t.meas.basis = basisOf t.meas.mastA.health t.meas.mastB.health ∧
        (t.meas.mastA.health = .healthy → t.meas.basis = .liveA) ∧
        (t.meas.mastA.health = .failed → t.meas.mastB.health = .healthy → t.meas.basis = .liveB) ∧
        (t.meas.mastA.health = .failed → t.meas.mastB.health = .failed → t.meas.basis = .none) ∧
        (let before := if t.meas.basis = s.meas.basis then s.meas.ring else []
         let kept := if 120 ≤ before.length then before.drop 1 else before
         (t.meas.basis = .liveA → t.meas.ring = kept ++ [⟨speedA, sectorA⟩] ∧ t.meas.live = liveOf t.meas.ring) ∧
         (t.meas.basis = .liveB → t.meas.ring = kept ++ [⟨speedB, sectorB⟩] ∧ t.meas.live = liveOf t.meas.ring) ∧
         (t.meas.basis = .none → t.meas.ring = before)) ∧
        t.meas.channels = s.meas.channels ∧ t.beds = s.beds ∧ t.disp = s.disp ∧ t.water = s.water ∧ t.line = s.line ∧
        t.ctrl.mode = s.ctrl.mode ∧ t.zones = s.zones ∧ t.store = s.store ∧ t.forecast = s.forecast

/-- R27, R28, R29: what the ring gives. The mean is the floored average, the gust the largest floored average of three
consecutive speeds (the larger speed of one or two samples), the dominant sector the most frequent one, of equals the one
whose newest occurrence is the most recent. -/
def Obligations.LiveFiguresOfTheRing : Prop :=
  liveOf [] = none ∧
  ∀ (ring : List Sample), ring ≠ [] →
    ∃ w, liveOf ring = some w ∧
      w.mean = (ring.map Sample.speed).sum / ring.length ∧
      (ring.length ≤ 2 → (∀ x ∈ ring, x.speed ≤ w.gust) ∧ ∃ x ∈ ring, w.gust = x.speed) ∧
      (2 < ring.length →
        (∀ a x y z b, ring = a ++ x :: y :: z :: b → (x.speed + y.speed + z.speed) / 3 ≤ w.gust) ∧
        ∃ a x y z b, ring = a ++ x :: y :: z :: b ∧ w.gust = (x.speed + y.speed + z.speed) / 3) ∧
      (let newestFirst := ring.reverse.map Sample.sector
       w.sector ∈ newestFirst ∧
       ∀ k ∈ newestFirst, newestFirst.count k ≤ newestFirst.count w.sector ∧
         (newestFirst.count k = newestFirst.count w.sector → newestFirst.idxOf w.sector ≤ newestFirst.idxOf k))

/-- R36 to R44: the end of a dust window. Where R40 would still clear the dirty mark at a clean zero window with ready low, R39
leaves it as it was, and the model follows R39 (log 38). The oscillator brought to the deadline and the next window behind it
are log 1; no window due changes nothing (log 3); a channel without zero windows keeps their count at 0 (log 28). -/
def Obligations.DustWindowsEnd : Prop :=
  ∀ (s : State) (ch : Nat) (ready : Bool), 1 ≤ ch → ch ≤ 8 →
    ((s.channel ch).windowDue = none → exec (.windowEnd ch ready) s = .next s) ∧
    ∀ due, (s.channel ch).windowDue = some due →
      let r := s.channel ch
      let n := s.conf.windowSteps ch
      let gross := r.count * 100 * s.conf.kCal ch / (n * 256)
      let since := if r.zeroWindow ∨ s.conf.zeroEvery ch = 0 then 0 else r.sinceZero + 1
      ∃ t, exec (.windowEnd ch ready) s = .next t ∧ t.osc = max s.osc due ∧
        (let q := t.channel ch
         let formed := r.zeroWindow = false ∧ r.state ≠ .faultNotReady ∧ r.state ≠ .faultDirty ∧ ready = true ∧ q.dirty = false
         let concentration := if 65535 ≤ r.count then 20000 else min 20000 (gross - r.baseline)
         let above := 65535 ≤ r.count ∨ s.conf.limitLevel ch < concentration
         let below := r.count < 65535 ∧ concentration ≤ s.conf.clearLevel ch
         q.count = 0 ∧ q.windowDue = some (due + n * 10) ∧ q.sinceZero = since ∧
         q.zeroWindow = decide (0 < s.conf.zeroEvery ch ∧ s.conf.zeroEvery ch ≤ since + 1) ∧ q.valve = q.zeroWindow ∧
         q.state = (if ready = false then .faultNotReady else if q.dirty then .faultDirty
           else if q.zeroWindow then .zeroing else .measuring) ∧
         (r.zeroWindow = true → ready = true → r.count < 65535 → gross ≤ 500 → q.baseline = gross ∧ q.dirty = false) ∧
         (r.zeroWindow = true → ready = true → (65535 ≤ r.count ∨ 500 < gross) → q.baseline = r.baseline ∧ q.dirty = true) ∧
         (r.zeroWindow = false ∨ ready = false → q.baseline = r.baseline ∧ q.dirty = r.dirty) ∧
         (ready = false ∨ q.dirty = true → q.held = none) ∧
         (formed → q.held = some concentration) ∧
         (¬formed → ready = true → q.dirty = false → q.held = r.held) ∧
         (¬formed → q.aboveRun = r.aboveRun ∧ q.belowRun = r.belowRun ∧ q.latched = r.latched) ∧
         (formed → r.latched = false → above → r.aboveRun + 1 < s.conf.persistence ch →
           q.latched = false ∧ q.aboveRun = r.aboveRun + 1 ∧ q.belowRun = 0) ∧
         (formed → r.latched = false → above → s.conf.persistence ch ≤ r.aboveRun + 1 →
           q.latched = true ∧ q.aboveRun = 0 ∧ q.belowRun = 0) ∧
         (formed → r.latched = false → ¬above → 0 < s.conf.persistence ch →
           q.latched = false ∧ q.aboveRun = 0 ∧ q.belowRun = 0) ∧
         (formed → r.latched = true → below → r.belowRun + 1 < s.conf.persistence ch →
           q.latched = true ∧ q.belowRun = r.belowRun + 1 ∧ q.aboveRun = 0) ∧
         (formed → r.latched = true → below → s.conf.persistence ch ≤ r.belowRun + 1 →
           q.latched = false ∧ q.aboveRun = 0 ∧ q.belowRun = 0) ∧
         (formed → r.latched = true → ¬below → 0 < s.conf.persistence ch →
           q.latched = true ∧ q.aboveRun = 0 ∧ q.belowRun = 0)) ∧
        (∀ j, j ≠ ch → t.channel j = s.channel j) ∧ t.meas.ring = s.meas.ring ∧ t.beds = s.beds ∧ t.disp = s.disp ∧
        t.water = s.water ∧ t.line = s.line ∧ t.zones = s.zones ∧ t.forecast = s.forecast ∧ t.ctrl.mode = s.ctrl.mode

/-! ### Forecast and risk -/

/-- R47, R48, R50: FORECAST_SLOT. A slot or part out of range is BAD_VALUE, an older issue STALE, and neither changes the
table; a new issue empties it; the part's fields are stored in the named slot alone, absent where their marker stands and
clamped to their ranges; the forecast is LIVE while some slot's hour is not past; every reply carries the issue. -/
def Obligations.ForecastSlots : Prop :=
  ∀ (s : State) (node : Node) (issue slot part : Byte) (fields : BitVec 40),
    s.ready node 0x20 (issue :: slot :: part :: be40 fields.toNat) →
    let age := (issue.toNat + 256 - s.forecast.issue) % 256
    let new := (∀ k, 1 ≤ k → k ≤ 12 → s.slot k = Slot.empty) ∨ (1 ≤ age ∧ age ≤ 127)
    let word := fields.toNat / 16777216
    let middle := fields.toNat / 256 % 65536
    let low := fields.toNat % 256
    let third := fields.toNat / 65536 % 256
    let degrees := (BitVec.ofNat 8 (fields.toNat / 256)).toInt
    let clamped := (part = 0#8 ∧ ((middle ≠ 65535 ∧ 600 < middle) ∨ (low ≠ 255 ∧ 15 < low))) ∨
      (part = 1#8 ∧ ((word ≠ 65535 ∧ 600 < word) ∨ (third ≠ 255 ∧ 100 < third) ∨
        (degrees ≠ -128 ∧ (degrees < -40 ∨ 60 < degrees))))
    let stored := fun (before after : Slot) =>
      (part = 0#8 → after = { before with
        hour := if word = 65535 then none else some word
        mean := if middle = 65535 then none else some (min 600 middle)
        sector := if low = 255 then none else some (min 15 low) }) ∧
      (part = 1#8 → after = { before with
        gust := if word = 65535 then none else some (min 600 word)
        humidity := if third = 255 then none else some (min 100 third)
        temperature := if degrees = -128 then none else some (max (-40) (min 60 degrees)) }) ∧
      (part = 2#8 → after = { before with rain := if word = 65535 then none else some word })
    ((slot = 0#8 ∨ 12 < slot.toNat ∨ 2 < part.toNat) → exec (.forecastSlot node issue slot part fields) s =
      .next (s.takeRequest.reply node 0x20 .badValue (be8 s.forecast.issue))) ∧
    (1 ≤ slot.toNat → slot.toNat ≤ 12 → part.toNat ≤ 2 →
      (¬new → age ≠ 0 → exec (.forecastSlot node issue slot part fields) s =
        .next (s.takeRequest.reply node 0x20 .stale (be8 s.forecast.issue))) ∧
      (new ∨ age = 0 → s.forecast.issue < 256 →
        ∃ t, exec (.forecastSlot node issue slot part fields) s = .next t ∧ t.forecast.issue = issue.toNat ∧
          (∀ k, 1 ≤ k → k ≤ 12 → k ≠ slot.toNat → (new → t.slot k = Slot.empty) ∧ (¬new → t.slot k = s.slot k)) ∧
          (new → stored Slot.empty (t.slot slot.toNat)) ∧
          (¬new → stored (s.slot slot.toNat) (t.slot slot.toNat)) ∧
          (t.forecast.live = true ↔ ∃ k hour, 1 ≤ k ∧ k ≤ 12 ∧ (t.slot k).hour = some hour ∧
            (hour + 65536 - (s.ctrl.day * 24 + s.ctrl.seconds / 3600) % 65536) % 65536 ≤ 32767) ∧
          t.forecast.humidity = s.forecast.humidity ∧ t.forecast.temperature = s.forecast.temperature ∧
          (clamped → s.answers t node 0x20 .clamped (be8 issue.toNat)) ∧
          (¬clamped → s.answers t node 0x20 .ok (be8 issue.toNat)) ∧
          t.osc = s.osc ∧ t.conf = s.conf ∧ t.meas = s.meas ∧ t.zones = s.zones ∧ t.store = s.store))

/-- R15, R51, R180: WEATHER_NOW. Present readings replace the held ones with their time, which is that of the take (log 39);
rain wets every defined bed that is not EMPTY, and a temperature has FREEZE judged. -/
def Obligations.WeatherReports : Prop :=
  ∀ (s : State) (node : Node) (rain : BitVec 16) (humidity temperature : Byte),
    s.ready node 0x21 (be16 rain.toNat ++ [humidity, temperature]) →
    let fallen := if rain.toNat = 65535 then 0 else rain.toNat
    ∃ t, exec (.weatherNow node rain humidity temperature) s = .next t ∧
      (humidity = 255#8 → t.forecast.humidity = s.forecast.humidity) ∧
      (humidity ≠ 255#8 → t.forecast.humidity = some (min 100 humidity.toNat, s.osc)) ∧
      (temperature = 128#8 → t.forecast.temperature = s.forecast.temperature ∧ t.ctrl.freeze = s.ctrl.freeze ∧
        t.ctrl.mode = s.ctrl.mode) ∧
      (temperature ≠ 128#8 → t.forecast.temperature = some (max (-40) (min 60 temperature.toInt), s.osc) ∧
        (max (-40) (min 60 temperature.toInt) ≤ s.conf.tFreeze → t.ctrl.freeze = true) ∧
        (s.conf.tFreeze + 2 ≤ max (-40) (min 60 temperature.toInt) → t.ctrl.freeze = false) ∧
        (max (-40) (min 60 temperature.toInt) = s.conf.tFreeze + 1 → t.ctrl.freeze = s.ctrl.freeze)) ∧
      (∀ b, 1 ≤ b → b ≤ 32 →
        (s.conf.bedDefined b = true → (s.bed b).surface ≠ .empty →
          (t.bed b).wetness = min 1000 ((s.bed b).wetness + fallen * 10000 / s.conf.saturation)) ∧
        (s.conf.bedDefined b = false ∨ (s.bed b).surface = .empty → (t.bed b).wetness = (s.bed b).wetness) ∧
        (t.bed b).surface = (s.bed b).surface ∧ (t.bed b).risk = (s.bed b).risk ∧ (t.bed b).band = (s.bed b).band) ∧
      s.answers t node 0x21 (if (100 < humidity.toNat ∧ humidity ≠ 255#8) ∨
        (temperature ≠ 128#8 ∧ (temperature.toInt < -40 ∨ 60 < temperature.toInt)) then .clamped else .ok) [] ∧
      t.forecast.slots = s.forecast.slots ∧ t.forecast.live = s.forecast.live ∧ t.meas = s.meas ∧ t.zones = s.zones ∧
      t.conf = s.conf ∧ t.osc = s.osc

/-- R14, R19, R53, R55 to R59, R62 to R66, R114, R115: an evaluation. Undefined beds keep R, band and W; an EMPTY bed gets 0
and LOW; every other bed the full computation, or the FALLBACK one while wind and forecast are both lost in AUTOMATIC or
FALLBACK; every defined bed dries; and, but in an evaluation that moves FREEZE, the order of each bed becomes what its demand,
its short demand or none makes of it. The oscillator brought to the deadline and the next one 60 s behind it are log 1; no
evaluation due changes nothing (log 3); all beds in one command, the basis judged first, are log 18. -/
def Obligations.EvaluationWritesEveryBed : Prop :=
  ∀ s : State,
    (s.evalDue = none → exec .evaluation s = .next s) ∧
    ∀ due, s.evalDue = some due →
      let u := s.reach due
      let fallback := (s.ctrl.mode = .automatic ∨ s.ctrl.mode = .fallback) ∧ s.meas.basis = .none ∧ s.forecast.live = false
      let exposed := fun (b wind sector : Nat) =>
        if (s.conf.mask b).testBit sector = true then wind else wind * s.conf.shelter b / 100
      let live := fun (b : Nat) (figure : LiveWind → Nat) =>
        (s.meas.live.map (fun w => exposed b (figure w) w.sector)).toList
      let ahead := fun (b : Nat) (figure : Slot → Option Nat) => u.lookaheadSet.filterMap (fun k =>
        (figure k).bind (fun wind => k.sector.map (fun sector => exposed b wind sector * s.conf.trust / 100)))
      let threshold := fun (b : Nat) =>
        (if (s.bed b).surface = .settled then s.conf.utSettled else if (s.bed b).surface = .fresh then s.conf.utFresh
          else s.conf.utWorked) + (s.bed b).wetness * s.conf.wSlope / 1000
      let excess := fun (b : Nat) (winds : List Nat) => min 300 (winds.foldl max 0 - threshold b)
      let risk := fun (b : Nat) (means gusts : List Nat) =>
        min 65535 ((excess b means * excess b means + excess b gusts * excess b gusts / 4) * s.conf.area b *
          max 20 (100 - u.currentHumidity) / 6400)
      let full := fun b => risk b (live b LiveWind.mean ++ ahead b Slot.mean) (live b LiveWind.gust ++ ahead b Slot.gust)
      let liveOnly := fun b => risk b (live b LiveWind.mean) (live b LiveWind.gust)
      let dries := fun b => 1 + (s.meas.live.map (fun w => exposed b w.mean w.sector * s.conf.kEv / 1000)).getD 0 +
        (u.currentTemperature.getD 15).toNat / 10
      let prewet := fun b => (s.conf.nextBand (s.bed b).band (liveOnly b)).code < 2 ∧ u.dustFloor b = none
      let rainAhead := 0 < s.conf.rSkip ∧ s.conf.rSkip ≤ (u.lookaheadSet.filterMap Slot.rain).sum
      ∃ t, exec .evaluation s = .next t ∧ t.evalDue = some (due + 60000) ∧ t.osc = max s.osc due ∧
        (∀ b, 1 ≤ b → b ≤ 32 →
          (t.bed b).surface = (s.bed b).surface ∧ (t.bed b).hold = (s.bed b).hold ∧
          (t.bed b).lastSprayEnd = (s.bed b).lastSprayEnd ∧ (t.bed b).cursor = (s.bed b).cursor ∧
          (s.conf.bedDefined b = false →
            (t.bed b).risk = (s.bed b).risk ∧ (t.bed b).band = (s.bed b).band ∧ (t.bed b).wetness = (s.bed b).wetness) ∧
          (s.conf.bedDefined b = true →
            (t.bed b).wetness = (s.bed b).wetness - dries b ∧
            ((s.bed b).surface = .empty → (t.bed b).risk = 0 ∧ (t.bed b).band = .low) ∧
            ((s.bed b).surface ≠ .empty → fallback →
              (t.bed b).risk = 0 ∧ (t.bed b).band = (u.dustFloor b).getD .watch) ∧
            ((s.bed b).surface ≠ .empty → ¬fallback →
              (t.bed b).risk = full b ∧
              (t.bed b).band = (s.conf.nextBand (s.bed b).band (full b)).floored (u.dustFloor b)))) ∧
        (t.ctrl.freeze = s.ctrl.freeze → ∀ b, 1 ≤ b → b ≤ 32 →
          let left := t.order b = s.order b
          let handed := fun (target : Nat) (origin : Origin) =>
            let v := ((target - (s.bed b).wetness) * s.conf.area b * s.conf.saturation + 999) / 1000
            (s.order b = none → s.conf.vMin ≤ v →
              ∃ o, t.order b = some o ∧ o.origin = origin ∧ o.remaining = v ∧ o.delivered = 0 ∧ o.manual = false ∧
                o.preference = .any ∧ o.state = .waiting ∧ o.blocked = none ∧ o.start = none ∧ o.ending = none ∧
                o.created = u.osc ∧ o.waitStart = u.osc) ∧
            (s.order b = none → v < s.conf.vMin → t.order b = none) ∧
            ∀ q, s.order b = some q →
              let first := if origin.priority < q.origin.priority then origin else q.origin
              (s.conf.vMin ≤ v → t.order b = some { q with
                origin := first
                remaining := if q.state = .waiting then (if q.manual = true then max q.remaining v else v)
                  else q.remaining }) ∧
              (v < s.conf.vMin → q.state = .waiting → q.manual = false → t.order b = none) ∧
              (v < s.conf.vMin → q.state ≠ .waiting ∨ q.manual = true → t.order b = some { q with origin := first })
          (s.conf.bedDefined b = false ∨ (s.bed b).surface = .empty → left) ∧
          (s.conf.bedDefined b = true → (s.bed b).surface ≠ .empty →
            ((t.bed b).band = .severe → handed s.conf.wtSev .autoSevere) ∧
            (¬fallback → (t.bed b).band = .act →
              (prewet b → rainAhead → left) ∧ (prewet b → ¬rainAhead → handed s.conf.wtAct .prewet) ∧
              (¬prewet b → handed s.conf.wtAct .autoAct)) ∧
            (¬fallback → (t.bed b).band.code < 2 → left) ∧
            (fallback → (t.bed b).band = .act → handed s.conf.wtAct .autoAct) ∧
            (fallback → (t.bed b).band.code < 2 →
              ((s.bed b).lastSprayEnd = none → handed s.conf.wtAct .autoAct) ∧
              ∀ sprayed, (s.bed b).lastSprayEnd = some sprayed →
                (sprayed + s.conf.tFall * 1000 ≤ u.osc → handed s.conf.wtAct .autoAct) ∧
                (u.osc < sprayed + s.conf.tFall * 1000 → left)))) ∧
        t.meas = s.meas ∧ t.forecast = s.forecast ∧ t.conf = s.conf ∧ t.zones = s.zones ∧ t.store = s.store

/-- R60: how the band moves. With the entry thresholds rising, the risk band is the highest one at or below R; a band above
the previous one is taken at once; otherwise it falls one step when R is below the previous entry less the hysteresis, and
stays else. -/
def Obligations.BandsMoveByRisk : Prop :=
  ∀ (S : Settings) (previous : Band) (r : Nat), 0 < S.tWatch → S.tWatch < S.tAct → S.tAct < S.tSev →
    S.entryOf (S.riskBand r) ≤ r ∧ (∀ b, S.entryOf b ≤ r → b.code ≤ (S.riskBand r).code) ∧
    (previous.code < (S.riskBand r).code → S.nextBand previous r = S.riskBand r) ∧
    ((S.riskBand r).code ≤ previous.code → previous ≠ .low → r + S.hysteresis < S.entryOf previous →
      (S.nextBand previous r).code + 1 = previous.code) ∧
    ((S.riskBand r).code ≤ previous.code → S.entryOf previous ≤ r + S.hysteresis → S.nextBand previous r = previous) ∧
    (S.entryOf previous ≤ S.hysteresis → previous.code ≤ (S.nextBand previous r).code)

/-! ### The Water Account -/

/-- R69, R70: WATER_GRANT and WATER_WITHDRAW, whole: the accepted and withdrawn amounts, the other source and the reserved
water untouched, and a cause of a dispatch attempt exactly when the balance changes. -/
def Obligations.GrantsAndWithdrawals : Prop :=
  ∀ (s : State) (node : Node) (amount : BitVec 32),
    (∀ source : Byte, 1 < source.toNat →
      (s.ready node 0x18 (source :: be32 amount.toNat) →
        exec (.waterGrant node source amount) s = .next (s.takeRequest.reply node 0x18 .badValue [])) ∧
      (s.ready node 0x19 (source :: be32 amount.toNat) →
        exec (.waterWithdraw node source amount) s = .next (s.takeRequest.reply node 0x19 .badValue []))) ∧
    (s.ready node 0x18 (0#8 :: be32 amount.toNat) →
      let n := min amount.toNat (100000000 - s.water.recycled.balance)
      exec (.waterGrant node 0#8 amount) s = .next (({ s.takeRequest with
        water := { s.water with recycled := { s.water.recycled with balance := s.water.recycled.balance + n } }
        disp := { s.disp with attempt := s.disp.attempt || decide (0 < n) } } : State).reply node 0x18
          (if n < amount.toNat then .clamped else .ok) (be32 n))) ∧
    (s.ready node 0x18 (1#8 :: be32 amount.toNat) →
      let n := min amount.toNat (100000000 - s.water.fresh.balance)
      exec (.waterGrant node 1#8 amount) s = .next (({ s.takeRequest with
        water := { s.water with fresh := { s.water.fresh with balance := s.water.fresh.balance + n } }
        disp := { s.disp with attempt := s.disp.attempt || decide (0 < n) } } : State).reply node 0x18
          (if n < amount.toNat then .clamped else .ok) (be32 n))) ∧
    (s.ready node 0x19 (0#8 :: be32 amount.toNat) →
      let n := min amount.toNat (s.water.recycled.balance - s.water.recycled.reserved)
      exec (.waterWithdraw node 0#8 amount) s = .next (({ s.takeRequest with
        water := { s.water with recycled := { s.water.recycled with balance := s.water.recycled.balance - n } }
        disp := { s.disp with attempt := s.disp.attempt || decide (0 < n) } } : State).reply node 0x19
          (if n < amount.toNat then .clamped else .ok) (be32 n))) ∧
    (s.ready node 0x19 (1#8 :: be32 amount.toNat) →
      let n := min amount.toNat (s.water.fresh.balance - s.water.fresh.reserved)
      exec (.waterWithdraw node 1#8 amount) s = .next (({ s.takeRequest with
        water := { s.water with fresh := { s.water.fresh with balance := s.water.fresh.balance - n } }
        disp := { s.disp with attempt := s.disp.attempt || decide (0 < n) } } : State).reply node 0x19
          (if n < amount.toNat then .clamped else .ok) (be32 n)))

/-- R79, R80: WATER_QUALITY. The turbidity is kept, the gate moves with its gap of 10, and a closure leaves no order in
GRANTED or SPRAYING that draws on RECYCLED. -/
def Obligations.QualityGate : Prop :=
  ∀ (s : State) (node : Node) (turbidity : BitVec 16), s.ready node 0x1A (be16 turbidity.toNat) →
    let n := min 4000 turbidity.toNat
    ∃ t, exec (.waterQuality node turbidity) s = .next t ∧ t.water.turbidity = some n ∧
      (s.water.gate = .isOpen → (t.water.gate = .gated ↔ s.conf.qLim < n)) ∧
      (s.water.gate = .gated → (t.water.gate = .isOpen ↔ n + 10 ≤ s.conf.qLim)) ∧
      s.answers t node 0x1A (if 4000 < turbidity.toNat then .clamped else .ok) (be8 t.water.gate.code) ∧
      (t.water.gate = s.water.gate → t.disp = s.disp ∧ t.line = s.line ∧ t.beds = s.beds) ∧
      (t.water.gate ≠ s.water.gate → t.disp.attempt = true) ∧
      (s.orderLaw → s.water.gate = .isOpen → t.water.gate = .gated →
        ∀ o ∈ t.disp.orders, o.running = true → ∀ st, o.start = some st → st.source ≠ .recycled) ∧
      t.water.recycled.balance = s.water.recycled.balance ∧ t.water.fresh.balance = s.water.fresh.balance ∧
      t.water.freshToday = s.water.freshToday ∧ t.meas = s.meas ∧ t.zones = s.zones ∧ t.conf = s.conf

/-- R81, R82, R132: PUMP_STATE. Both capacities are formed again; a drop leaves only starts that fit them. -/
def Obligations.PumpStates : Prop :=
  ∀ (s : State) (node : Node) (pumps : Byte) (flow : BitVec 16), s.ready node 0x1B (pumps :: be16 flow.toNat) →
    ∃ t, exec (.pumpState node pumps flow) s = .next t ∧
      t.water.pumps = min 8 pumps.toNat ∧ t.water.flowLimit = flow.toNat ∧
      t.water.slotCapacity = min s.conf.nSlot (min 8 pumps.toNat * s.conf.kSlot) ∧
      t.water.flowCapacity = min s.conf.fHead flow.toNat ∧
      s.answers t node 0x1B (if 8 < pumps.toNat then .clamped else .ok) [] ∧
      (s.water.slotCapacity ≤ t.water.slotCapacity → s.water.flowCapacity ≤ t.water.flowCapacity →
        t.disp.orders = s.disp.orders ∧ t.line = s.line) ∧
      (s.water.slotCapacity < t.water.slotCapacity ∨ s.water.flowCapacity < t.water.flowCapacity → t.disp.attempt = true) ∧
      (s.orderLaw → t.water.slotCapacity < s.water.slotCapacity ∨ t.water.flowCapacity < s.water.flowCapacity →
        t.runningOrders.length ≤ t.water.slotCapacity ∧ t.flowSum t.runningOrders ≤ t.water.flowCapacity) ∧
      t.water.recycled.balance = s.water.recycled.balance ∧ t.water.fresh.balance = s.water.fresh.balance ∧
      t.meas = s.meas ∧ t.zones = s.zones ∧ t.conf = s.conf

/-- R83, R84, R86: the end of a usage period. Charged figures restart at 0 and the DEMAND mark is cleared; each nonzero amount
of a routed kind goes out while five entries are free, RECYCLED first, and stays pending without them; an unrouted kind
has no pending amount and gains none. The oscillator brought to the deadline and the next period behind it are log 1; no timer
changes nothing (log 3). -/
def Obligations.UsagePeriodsEnd : Prop :=
  ∀ s : State,
    (s.water.usageDue = none → exec .usagePeriodExpiry s = .next s) ∧
    ∀ due, s.water.usageDue = some due →
      let r := min 4294967295 (s.water.recycled.pendingUse + s.water.recycled.charged)
      let f := min 4294967295 (s.water.fresh.pendingUse + s.water.fresh.charged)
      let k := s.classes .waterUse
      ∃ t, exec .usagePeriodExpiry s = .next t ∧ t.osc = max s.osc due ∧
        t.water.usageDue = some (due + s.conf.tUse * 1000) ∧ t.water.demandMark = false ∧
        t.water.recycled.charged = 0 ∧ t.water.fresh.charged = 0 ∧
        t.water.recycled.balance = s.water.recycled.balance ∧ t.water.fresh.balance = s.water.fresh.balance ∧
        t.water.recycled.reserved = s.water.recycled.reserved ∧ t.water.fresh.reserved = s.water.fresh.reserved ∧
        (k ≠ 0 → 6 ≤ s.free →
          t.water.recycled.pendingUse = 0 ∧ t.water.fresh.pendingUse = 0 ∧
          t.port.outbound = s.port.outbound ++
            (if r = 0 then [] else [.notice k .waterUse (be8 0 ++ be32 r)]) ++
            (if f = 0 then [] else [.notice k .waterUse (be8 1 ++ be32 f)])) ∧
        (k ≠ 0 → s.free = 5 →
          t.water.recycled.pendingUse = 0 ∧ t.water.fresh.pendingUse = (if r = 0 then 0 else f) ∧
          t.port.outbound = s.port.outbound ++
            (if r = 0 then (if f = 0 then [] else [.notice k .waterUse (be8 1 ++ be32 f)])
              else [.notice k .waterUse (be8 0 ++ be32 r)])) ∧
        (k ≠ 0 → s.free < 5 →
          t.water.recycled.pendingUse = r ∧ t.water.fresh.pendingUse = f ∧ t.port.outbound = s.port.outbound) ∧
        (k = 0 → s.water.recycled.pendingUse = 0 → s.water.fresh.pendingUse = 0 →
          t.water.recycled.pendingUse = 0 ∧ t.water.fresh.pendingUse = 0 ∧ t.port.outbound = s.port.outbound) ∧
        t.disp = s.disp ∧ t.beds = s.beds ∧ t.line = s.line ∧ t.recs = s.recs ∧ t.ctrl = s.ctrl ∧ t.meas = s.meas

/-- R22, R90, R161, R185, R204: the queries, SETTING_READ of R204 among them. Each answers from the state as it stands, part by
part, and changes nothing but the queues. The age BED_QUERY part 1 answers is floored to seconds (log 25). -/
def Obligations.QueriesChangeNothing : Prop :=
  ∀ (s : State) (node : Node),
    (∀ bed part : Byte, s.ready node 0x29 [bed, part] →
      let answer := fun r d => exec (.bedQuery node bed part) s = .next (s.takeRequest.reply node 0x29 r d)
      let r := s.bed bed.toNat
      (s.conf.bedDefined bed.toNat = false → answer .unknownBed []) ∧
      (s.conf.bedDefined bed.toNat = true →
        (5 < part.toNat → answer .badValue []) ∧
        (part = 0#8 → answer .ok (be8 r.surface.code ++ be16 r.wetness ++ be8 r.band.code ++
          be8 (flagByte (s.claimed bed.toNat) + 2 * flagByte r.hold.isSome + 4 * flagByte (s.capped bed.toNat) +
            8 * flagByte r.cappedAtRisk + 16 * flagByte r.waterShort))) ∧
        (part = 1#8 → r.lastSprayEnd = none → answer .ok (be16 r.risk ++ be8 r.band.code ++ be16 65535)) ∧
        (∀ e, part = 1#8 → r.lastSprayEnd = some e →
          answer .ok (be16 r.risk ++ be8 r.band.code ++ be16 (min 65534 ((s.osc - e) / 1000)))) ∧
        (part = 2#8 ∨ part = 3#8 → r.hold = none → answer .empty []) ∧
        (∀ h, part = 2#8 → r.hold = some h → answer .ok (be16 h.tag ++ be24 h.cap)) ∧
        (∀ h, part = 3#8 → r.hold = some h →
          answer .ok (be24 h.tally ++ be16 (min 65535 ((h.cap - h.tally) / 100)))) ∧
        (part = 4#8 → answer .ok (be8 (s.conf.area bed.toNat) ++ be8 (s.conf.bedChannel bed.toNat) ++
          be8 (s.conf.shelter bed.toNat) ++ be16 (s.conf.mask bed.toNat))) ∧
        (part = 5#8 → answer .ok (be8 (s.conf.listAddress bed.toNat 0) ++ be8 (s.conf.listAddress bed.toNat 1) ++
          be8 (s.conf.listAddress bed.toNat 2) ++ be8 (s.conf.listAddress bed.toNat 3) ++ be8 r.cursor)))) ∧
    (∀ part : Byte, s.ready node 0x2A [part] →
      let answer := fun r d => exec (.waterQuery node part) s = .next (s.takeRequest.reply node 0x2A r d)
      (6 < part.toNat → answer .badValue []) ∧
      (part = 0#8 → answer .ok (be32 s.water.recycled.balance ++ be8 s.water.gate.code)) ∧
      (part = 1#8 → answer .ok (be32 s.water.recycled.reserved ++ be8 (flagByte s.water.demandMark))) ∧
      (part = 2#8 → answer .ok (be32 s.water.fresh.balance)) ∧
      (part = 3#8 → answer .ok (be32 s.water.fresh.reserved)) ∧
      (part = 4#8 → answer .ok (be32 s.water.freshToday)) ∧
      (part = 5#8 → answer .ok (be16 (s.water.turbidity.getD 65535) ++ be8 s.water.pumps ++ be8 s.water.slotCapacity ++
        be8 s.startedOrders.length)) ∧
      (part = 6#8 → answer .ok (be16 s.water.flowCapacity ++ be16 (min 65535 (s.flowSum s.startedOrders))))) ∧
    (∀ cannon part : Byte, s.ready node 0x2B [cannon, part] →
      let answer := fun r d => exec (.cannonQuery node cannon part) s = .next (s.takeRequest.reply node 0x2B r d)
      let r := if s.conf.inUse cannon.toNat then s.cannon cannon.toNat else Cannon.initial
      (cannon = 0#8 ∨ 24 < cannon.toNat → answer .unknownCannon []) ∧
      (1 ≤ cannon.toNat → cannon.toNat ≤ 24 →
        (2 < part.toNat → answer .badValue []) ∧
        (part = 0#8 → answer .ok (be8 r.activity.code ++ be8 (flagByte r.suspect) ++ be8 r.score ++
          be8 r.lastFault.code ++ be8 (((s.startOn cannon.toNat).map Order.bed).getD 0))) ∧
        (part = 1#8 → answer .ok
          (be24 ((((s.startOn cannon.toNat).bind Order.start).bind Start.delivered).getD 16777215) ++
            be8 (heldCode r.held) ++ be8 r.streak)) ∧
        (part = 2#8 → answer .ok (be16 (s.conf.ratedFlow cannon.toNat) ++ be16 (s.conf.startLimit cannon.toNat) ++
          be8 s.line.state.code)))) ∧
    (∀ part : Byte, s.ready node 0x28 [part] →
      let answer := fun r d => exec (.statusQuery node part) s = .next (s.takeRequest.reply node 0x28 r d)
      (1 < part.toNat → answer .badValue []) ∧
      (part = 0#8 → answer .ok (be8 s.ctrl.mode.code ++
        be8 (flagByte s.ctrl.operator + 2 * flagByte s.ctrl.freeze) ++ [s.ctrl.flags] ++ be8 s.meas.basis.code ++
        be8 (flagByte s.forecast.live + 2 * flagByte (s.line.state != .ok) + 4 * flagByte (s.water.gate == .gated) +
          8 * flagByte s.ctrl.drain.isSome))) ∧
      (part = 1#8 → answer .ok (be16 s.ctrl.day ++ be24 s.ctrl.seconds))) ∧
    (∀ item index : Byte, s.ready node 0x31 [item, index] →
      let answer := fun r d => exec (.settingRead node item index) s = .next (s.takeRequest.reply node 0x31 r d)
      (s.store.commit.isSome = true → answer .busy []) ∧
      (s.store.commit = none → itemRange item.toNat index.toNat = none → answer .badValue []) ∧
      (s.store.commit = none → (itemRange item.toNat index.toNat).isSome = true →
        answer .ok (be32 (BitVec.ofInt 32 (s.store.working.get item.toNat index.toNat)).toNat)))

/-! ### Zones and moisture holds -/

/-- R6, R7, R92, R93, R94, R95, R96: ZONE_CLAIM. The checks in their order; a new entry takes the time of the request, keeps
the prior state of each defined bed, works the coal of its defined beds by its activity, and leaves no spray in GRANTED or
SPRAYING on them. The same claim again renews its time and nothing else; another range or activity of the machine replaces its
entry, drops beds as a release with outcome NONE does, adds beds as a new claim does, and works or releases those that stay.
Every step keeps the machine table within 8 entries, one for a machine, of machines 1 to 15, first bed at or below the last. -/
def Obligations.ZoneClaims : Prop :=
  (∀ s t : State, s.zoneLaw → step s = .next t → t.zoneLaw) ∧
  ∀ (s : State) (node : Node) (machine activity first last : Byte),
    s.ready node 0x04 [machine, activity, first, last] →
    let run := exec (.zoneClaim node machine activity first last) s
    let bad := machine = 0#8 ∨ 15 < machine.toNat ∨ 3 < activity.toNat ∨ last.toNat < first.toNat
    let defined := s.conf.bedDefined first.toNat = true ∧ s.conf.bedDefined last.toNat = true
    let inside := fun b => first.toNat ≤ b ∧ b ≤ last.toNat
    let worked := fun (t : State) (a : ZoneActivity) (b : Nat) =>
      (a = .stack → (t.bed b).surface = .worked) ∧
      (a = .reclaim → (t.bed b).surface = if (s.bed b).surface = .empty then .empty else .worked) ∧
      (a = .travel ∨ a = .load → (t.bed b).surface = (s.bed b).surface)
    (bad → run = .next (s.takeRequest.reply node 0x04 .badValue [])) ∧
    (¬bad → ¬defined → run = .next (s.takeRequest.reply node 0x04 .unknownBed [])) ∧
    (¬bad → defined → s.claimOf machine.toNat = none → 8 ≤ s.zones.entries.length →
      run = .next (s.takeRequest.reply node 0x04 .full [])) ∧
    (∀ a, ¬bad → defined → activityOf activity = some a → s.claimOf machine.toNat = none → s.zones.entries.length < 8 →
      ∃ t, run = .next t ∧ s.answers t node 0x04 .ok (be8 (8 - (s.zones.entries.length + 1))) ∧
        (∃ e, t.claimOf machine.toNat = some e ∧ e.activity = a ∧ e.first = first.toNat ∧ e.last = last.toNat ∧
          e.since = s.osc ∧
          ∀ b, 1 ≤ b → b ≤ 32 → inside b → s.conf.bedDefined b = true →
            ((s.bed b).surface ≠ .worked → sparseFind b e.prior = some (s.bed b).surface) ∧
            (∀ p, (s.bed b).surface = .worked → (∃ x ∈ s.zones.entries, sparseFind b x.prior = some p) →
              (∀ x ∈ s.zones.entries, ∀ p', sparseFind b x.prior = some p' → p' = p) → sparseFind b e.prior = some p)) ∧
        (∀ b, 1 ≤ b → b ≤ 32 →
          (t.bed b).wetness = (s.bed b).wetness ∧ (t.bed b).hold = (s.bed b).hold ∧
          (inside b → s.conf.bedDefined b = true → worked t a b ∧
            ((s.bed b).surface ≠ .worked → (t.bed b).surface = .worked →
              ∀ x ∈ t.zones.entries, x.first ≤ b → b ≤ x.last → sparseFind b x.prior = some (s.bed b).surface)) ∧
          (b < first.toNat ∨ last.toNat < b ∨ s.conf.bedDefined b = false →
            (t.bed b).surface = (s.bed b).surface)) ∧
        (s.orderLaw → ∀ o ∈ t.disp.orders, first.toNat ≤ o.bed → o.bed ≤ last.toNat →
          s.conf.bedDefined o.bed = true → o.running = false) ∧
        t.meas = s.meas ∧ t.ctrl.mode = s.ctrl.mode ∧ t.conf = s.conf) ∧
    (∀ e, ¬bad → defined → s.claimOf machine.toNat = some e → activityOf activity = some e.activity →
      first.toNat = e.first → last.toNat = e.last →
      ∃ t, run = .next t ∧ s.answers t node 0x04 .ok (be8 (8 - s.zones.entries.length)) ∧
        (∃ e', t.claimOf machine.toNat = some e' ∧ e'.since = s.osc ∧ e'.activity = e.activity ∧ e'.first = e.first ∧
          e'.last = e.last) ∧
        t.beds = s.beds ∧ t.disp = s.disp ∧ t.line = s.line) ∧
    (∀ e a, ¬bad → defined → s.claimOf machine.toNat = some e → activityOf activity = some a →
      a ≠ e.activity ∨ first.toNat ≠ e.first ∨ last.toNat ≠ e.last →
      let before := fun b => e.first ≤ b ∧ b ≤ e.last
      let cover := fun b => ∃ x ∈ s.zones.entries, x.machine ≠ e.machine ∧ x.first ≤ b ∧ b ≤ x.last ∧
        (x.activity = .stack ∨ x.activity = .reclaim)
      let released := fun (t : State) (b : Nat) =>
        (cover b ∨ (s.bed b).surface ≠ .worked → (t.bed b).surface = (s.bed b).surface) ∧
        (¬cover b → (s.bed b).surface = .worked → ∀ p, sparseFind b e.prior = some p → (t.bed b).surface = p)
      ∃ t, run = .next t ∧ s.answers t node 0x04 .ok (be8 (8 - s.zones.entries.length)) ∧
        (∃ e', t.claimOf machine.toNat = some e' ∧ e'.activity = a ∧ e'.first = first.toNat ∧ e'.last = last.toNat ∧
          e'.since = s.osc ∧
          ∀ b, 1 ≤ b → b ≤ 32 → inside b → s.conf.bedDefined b = true →
            ((s.bed b).surface ≠ .worked → sparseFind b e'.prior = some (s.bed b).surface) ∧
            ((s.bed b).surface = .worked → before b → sparseFind b e'.prior = sparseFind b e.prior)) ∧
        (∀ b, 1 ≤ b → b ≤ 32 →
          (t.bed b).wetness = (s.bed b).wetness ∧
          (s.conf.bedDefined b = false → (t.bed b).surface = (s.bed b).surface) ∧
          (s.conf.bedDefined b = true →
            (¬inside b → ¬before b → (t.bed b).surface = (s.bed b).surface) ∧
            (inside b → ¬before b → worked t a b) ∧ (before b → ¬inside b → released t b) ∧
            (inside b → before b → a = .stack ∨ a = .reclaim → worked t a b) ∧
            (inside b → before b → a = .travel ∨ a = .load → e.activity = .stack ∨ e.activity = .reclaim →
              released t b) ∧
            (inside b → before b → a = .travel ∨ a = .load → e.activity = .travel ∨ e.activity = .load →
              (t.bed b).surface = (s.bed b).surface))) ∧
        (s.orderLaw → ∀ o ∈ t.disp.orders, inside o.bed → ¬before o.bed → s.conf.bedDefined o.bed = true →
          o.running = false) ∧
        t.meas = s.meas ∧ t.ctrl.mode = s.ctrl.mode ∧ t.conf = s.conf)

/-- R8, R9, R10, R12, R97, R98, R99: ZONE_RELEASE and CLAIM_EXPIRY. BAD_VALUE, then NO_MATCH; the entry leaves the table; a
defined bed of its range left without STACK or RECLAIM cover takes the outcome; a WORKED one still under such cover stays
WORKED, and the outcome is folded into the prior state that the entries over it share. An expiry makes a CLAIM_EXPIRED notice,
which waits without five free entries. The oscillator brought to the claim's end is log 1; a bed that takes outcome NONE
without a kept state, and a covered bed that is not WORKED, are log 30. -/
def Obligations.ReleasesAndClaimExpiries : Prop :=
  (∀ (s : State) (node : Node) (machine outcome : Byte), s.ready node 0x05 [machine, outcome] →
    let bad := machine = 0#8 ∨ 15 < machine.toNat ∨ 3 < outcome.toNat
    (bad → exec (.zoneRelease node machine outcome) s = .next (s.takeRequest.reply node 0x05 .badValue [])) ∧
    (¬bad → s.claimOf machine.toNat = none →
      exec (.zoneRelease node machine outcome) s = .next (s.takeRequest.reply node 0x05 .noMatch []))) ∧
  ∀ (s : State) (e : Claim), s.claimOf e.machine = some e →
    let others := s.zones.entries.filter (fun x => x.machine != e.machine)
    let cover := fun b => others.any (fun x => decide (x.first ≤ b ∧ b ≤ x.last) && x.activity.touches)
    let folded := fun (t : State) (b : Nat) (p : Surface) =>
      ∀ x ∈ t.zones.entries, x.first ≤ b → b ≤ x.last → sparseFind b x.prior = some p
    let kept := fun (t : State) (b : Nat) =>
      t.zones.entries.map (fun x => sparseFind b x.prior) = others.map (fun x => sparseFind b x.prior)
    (∀ (node : Node) (machine outcome : Byte), machine.toNat = e.machine → 1 ≤ machine.toNat → machine.toNat ≤ 15 →
      outcome.toNat ≤ 3 → s.ready node 0x05 [machine, outcome] →
      ∃ t, exec (.zoneRelease node machine outcome) s = .next t ∧
        t.zones.entries.map Claim.machine = others.map Claim.machine ∧
        s.answers t node 0x05 .ok (be8 (8 - others.length)) ∧
        (∀ b, 1 ≤ b → b ≤ 32 → e.first ≤ b → b ≤ e.last → s.conf.bedDefined b = true →
          (cover b = false →
            (outcome = 1#8 → (t.bed b).surface = .fresh ∧ (t.bed b).wetness = s.conf.wStack) ∧
            (outcome = 2#8 → (t.bed b).surface = (if (s.bed b).surface = .empty then .empty else .fresh) ∧
              (t.bed b).wetness = (s.bed b).wetness) ∧
            (outcome = 3#8 → (t.bed b).surface = .empty ∧ (t.bed b).wetness = (s.bed b).wetness ∧
              ((s.bed b).surface ≠ .empty → (t.bed b).hold = none)) ∧
            (outcome = 0#8 → (t.bed b).surface =
              (if (s.bed b).surface = .worked then e.priorOf b else (s.bed b).surface))) ∧
          (cover b = true → (t.bed b).surface = (s.bed b).surface ∧ (t.bed b).hold = (s.bed b).hold ∧
            ((s.bed b).surface = .worked →
              (outcome = 1#8 → (t.bed b).wetness = s.conf.wStack ∧ folded t b .fresh) ∧
              (outcome ≠ 1#8 → (t.bed b).wetness = (s.bed b).wetness) ∧
              (outcome = 2#8 → e.priorOf b ≠ .empty → folded t b .fresh) ∧
              (outcome = 2#8 → e.priorOf b = .empty → kept t b) ∧
              (outcome = 3#8 → folded t b .empty) ∧ (outcome = 0#8 → kept t b)) ∧
            ((s.bed b).surface ≠ .worked → (t.bed b).wetness = (s.bed b).wetness ∧ kept t b))) ∧
        (∀ b, 1 ≤ b → b ≤ 32 → (b < e.first ∨ e.last < b ∨ s.conf.bedDefined b = false) →
          (t.bed b).surface = (s.bed b).surface ∧ (t.bed b).wetness = (s.bed b).wetness ∧ (t.bed b).hold = (s.bed b).hold)) ∧
    (∃ t, exec (.claimExpiry e.machine) s = .next t ∧ t.osc = max s.osc (e.since + s.conf.tClaim * 1000) ∧
      t.zones.entries.map Claim.machine = others.map Claim.machine ∧
      (∀ b, 1 ≤ b → b ≤ 32 → (t.bed b).wetness = (s.bed b).wetness ∧ (t.bed b).hold = (s.bed b).hold ∧
        (e.first ≤ b → b ≤ e.last → s.conf.bedDefined b = true → (s.bed b).surface = .worked →
          (cover b = false → (t.bed b).surface = .fresh) ∧ (cover b = true → folded t b .fresh)) ∧
        ((s.bed b).surface ≠ .worked ∨ cover b = true ∨ b < e.first ∨ e.last < b →
          (t.bed b).surface = (s.bed b).surface)) ∧
      (s.classes .claimExpired ≠ 0 → s.zones.pending = [] → 5 ≤ s.free →
        t.port.outbound = s.port.outbound ++ [.notice (s.classes .claimExpired) .claimExpired (be8 e.machine)] ∧
        t.zones.pending = []) ∧
      (s.classes .claimExpired ≠ 0 → s.free < 5 → t.port = s.port ∧ t.zones.pending =
        (if 8 ≤ s.zones.pending.length then s.zones.pending.drop 1 else s.zones.pending) ++ [e.machine]) ∧
      (s.classes .claimExpired = 0 → t.port = s.port ∧ t.zones.pending = s.zones.pending))

/-- R102, R103, R104, R105: MOISTURE_HOLD_SET and MOISTURE_HOLD_CLEAR; with another tag a cap out of range is HELD too (log 48).
R103: a hold set over a start counts it from Dh, the figure last polled, and asks a TRIM with the cap as its limit for one in
GRANTED or SPRAYING: held for the cannon (over an earlier TRIM), folded into a START still held, dropped by a held STOP; for one
in STOPPING it asks none. R101: on every bed under a hold the tally, and the tally with the share of the bed's current start,
stays within the cap. The rule takes it that a TRIM reply only lowers the share; so of the TRIM command alone, and of the start
it serves, the law asks that the meter is not below the hold point, as a meter that runs backwards would be. What R103 asks a
TRIM for is the law trimLaw, which every step keeps. -/
def Obligations.MoistureHolds : Prop :=
  (∀ s t : State, s.orderLaw → s.trimLaw → step s = .next t → t.trimLaw) ∧
  (∀ (c : Instr) (s t : State), s.orderLaw → s.trimLaw → s.holdLaw →
    (∀ bytes x r o st, c = .trim bytes → s.replyTaken x bytes r → s.serves x o st → st.holdPoint ≤ r.meter) →
    exec c s = .next t → t.holdLaw) ∧
  ∀ (s : State) (node : Node) (bed : Byte) (tag : BitVec 16),
    (∀ cap : BitVec 24, s.ready node 0x10 (bed :: be24 cap.toNat ++ be16 tag.toNat) →
      let run := exec (.moistureHoldSet node bed cap tag) s
      let n := max 1 (min 16000000 cap.toNat)
      (s.conf.bedDefined bed.toNat = false → run = .next (s.takeRequest.reply node 0x10 .unknownBed [])) ∧
      (s.conf.bedDefined bed.toNat = true →
        ((s.bed bed.toNat).hold = none →
          ∃ t h, run = .next t ∧ (t.bed bed.toNat).hold = some h ∧ h.cap = n ∧ h.tag = tag.toNat ∧ h.tally = 0 ∧
            t.disp.attempt = true ∧
            (∀ o, s.order bed.toNat = some o → o.start = none → t.order bed.toNat = some o ∧ t.line = s.line) ∧
            (∀ o st, s.order bed.toNat = some o → o.start = some st → 1 ≤ st.cannon → st.cannon ≤ 24 →
              let counted := some { o with start := some { st with count := .running (st.delivered.getD 0) n } }
              let held := (s.cannon st.cannon).held
              let reserved := fun (u : State) => (u.source st.source).reserved
              (o.running = false ∨ held.map HeldCommand.command = some .stop →
                t.order bed.toNat = counted ∧ t.line = s.line ∧ t.water = s.water) ∧
              (o.running = true →
                (held = none ∨ (∃ limit hold, held.map HeldCommand.command = some (.trim limit hold)) →
                  t.order bed.toNat = counted ∧ t.water = s.water ∧
                  (t.cannon st.cannon).held.map HeldCommand.command = some (.trim n h.serial)) ∧
                ∀ limit left right m, held = some ⟨.start limit left right, m⟩ →
                  (t.cannon st.cannon).held = some ⟨.start (min limit n) left right, m⟩ ∧
                  t.order bed.toNat = some { o with
                    start := some { st with volume := min st.volume n, count := .trimmed 0 } } ∧
                  reserved t = reserved s - (st.volume - min st.volume n) ∧
                  ∀ w, w ≠ st.source → t.source w = s.source w) ∧
              ∀ c, c ≠ st.cannon → t.cannon c = s.cannon c) ∧
            (s.order bed.toNat = none → t.disp.orders = s.disp.orders ∧ t.line = s.line) ∧
            (∀ b, b ≠ bed.toNat → t.order b = s.order b) ∧
            s.answers t node 0x10 (if n = cap.toNat then .ok else .clamped) (be24 n ++ be16 0) ∧
            (∀ b, b ≠ bed.toNat → t.bed b = s.bed b) ∧
            (t.bed bed.toNat).wetness = (s.bed bed.toNat).wetness ∧
            (t.bed bed.toNat).surface = (s.bed bed.toNat).surface) ∧
        (∀ h, (s.bed bed.toNat).hold = some h → h.tag = tag.toNat →
          let m := max n (h.tally + s.shareOf bed.toNat)
          ∃ t, run = .next t ∧ (t.bed bed.toNat).hold = some { h with cap := m } ∧
            (m ≠ h.cap → t.disp.attempt = true) ∧ (m = h.cap → t.disp = s.disp) ∧
            s.answers t node 0x10 (if m = cap.toNat then .ok else .clamped) (be24 m ++ be16 (min 65535 (h.tally / 100))) ∧
            (∀ b, b ≠ bed.toNat → t.bed b = s.bed b) ∧ t.disp.orders = s.disp.orders ∧ t.line = s.line) ∧
        (∀ h, (s.bed bed.toNat).hold = some h → h.tag ≠ tag.toNat →
          run = .next (s.takeRequest.reply node 0x10 .held (be16 h.tag))))) ∧
    (s.ready node 0x11 (bed :: be16 tag.toNat) →
      let run := exec (.moistureHoldClear node bed tag) s
      (s.conf.bedDefined bed.toNat = false → run = .next (s.takeRequest.reply node 0x11 .unknownBed [])) ∧
      (s.conf.bedDefined bed.toNat = true →
        ((s.bed bed.toNat).hold = none → run = .next (s.takeRequest.reply node 0x11 .empty [])) ∧
        (∀ h, (s.bed bed.toNat).hold = some h → h.tag ≠ tag.toNat →
          run = .next (s.takeRequest.reply node 0x11 .noMatch (be16 h.tag))) ∧
        (∀ h, (s.bed bed.toNat).hold = some h → h.tag = tag.toNat →
          ∃ t, run = .next t ∧ t.bed bed.toNat = { s.bed bed.toNat with hold := none, cappedAtRisk := false } ∧
            (∀ b, b ≠ bed.toNat → t.bed b = s.bed b) ∧ t.disp.attempt = true ∧
            t.port.outbound = s.port.outbound ++ [.reply node 0x11 .ok (be24 h.tally)] ∧
            t.beds.pending = s.beds.pending ∧ t.water = s.water ∧ t.line = s.line)))

/-! ### Spray orders -/

/-- R114, R116, R120: MANUAL_SPRAY. A merge is a cause of a dispatch attempt when it changes the order, its manual flag and its
preference included (log 32), and the same request repeated is none. -/
def Obligations.ManualOrders : Prop :=
  ∀ (s : State) (node : Node) (bed : Byte) (volume : BitVec 24) (preference : Byte),
    s.ready node 0x12 (bed :: be24 volume.toNat ++ [preference]) →
    let run := exec (.manualSpray node bed volume preference) s
    let n := max s.conf.vMin (min 100000 volume.toNat)
    let result := if n = volume.toNat then Result.ok else Result.clamped
    (s.conf.bedDefined bed.toNat = false → run = .next (s.takeRequest.reply node 0x12 .unknownBed [])) ∧
    (s.conf.bedDefined bed.toNat = true → 2 < preference.toNat →
      run = .next (s.takeRequest.reply node 0x12 .badValue [])) ∧
    (∀ p, s.conf.bedDefined bed.toNat = true → preferenceOf preference = some p →
      (s.order bed.toNat = none →
        ∃ t o, run = .next t ∧ t.order bed.toNat = some o ∧ o.id = s.disp.nextId ∧ o.origin = .manual ∧ o.remaining = n ∧
          o.delivered = 0 ∧ o.manual = true ∧ o.preference = p ∧ o.state = .waiting ∧ o.created = s.osc ∧
          o.waitStart = s.osc ∧ o.start = none ∧ o.blocked = none ∧ o.ending = none ∧
          t.disp.nextId = (s.disp.nextId + 1) % 256 ∧ t.disp.attempt = true ∧
          s.answers t node 0x12 result (be8 s.disp.nextId ++ be8 0 ++ be16 (n / 100) ++ be8 0) ∧
          (∀ b, b ≠ bed.toNat → t.order b = s.order b) ∧ t.beds = s.beds ∧ t.water = s.water ∧ t.line = s.line) ∧
      (∀ o, s.order bed.toNat = some o →
        ∃ t q, run = .next t ∧ t.order bed.toNat = some q ∧
          q = { o with
            origin := if 1 < o.origin.priority then .manual else o.origin
            manual := true
            preference := p
            remaining := if o.state = .waiting then max o.remaining n else o.remaining } ∧
          (q ≠ o → t.disp.attempt = true) ∧ (q = o → t.disp = s.disp) ∧
          s.answers t node 0x12 result
            (be8 q.id ++ be8 q.state.code ++ be16 (q.remaining / 100) ++ be8 (blockCode q.blocked)) ∧
          (∀ b, b ≠ bed.toNat → t.order b = s.order b) ∧ t.beds = s.beds ∧ t.water = s.water ∧ t.line = s.line))

/-- R117, R118, R119, R129, R143: CANCEL_SPRAY and ORDER_EXPIRY. A waiting order leaves; a running one is stopped with ending
CANCELLED and a STOP held for its cannon; and where its START is still held, the STOP withdraws it: the order ends, and its
reservation goes back. The oscillator brought to the end of the life is log 1; without a waiting order no expiry occurs
(log 3). -/
def Obligations.CancelsAndExpiries : Prop :=
  ∀ s : State,
    (∀ (node : Node) (bed : Byte), s.ready node 0x13 [bed] →
      let run := exec (.cancelSpray node bed) s
      (s.conf.bedDefined bed.toNat = false → run = .next (s.takeRequest.reply node 0x13 .unknownBed [])) ∧
      (s.conf.bedDefined bed.toNat = true → s.order bed.toNat = none →
        run = .next (s.takeRequest.reply node 0x13 .empty [])) ∧
      (∀ o, s.conf.bedDefined bed.toNat = true → s.order bed.toNat = some o →
        ∃ t, run = .next t ∧ s.answers t node 0x13 .ok (be8 o.id ++ be32 o.delivered) ∧
          (o.state = .waiting → t.order bed.toNat = none ∧ t.line = s.line) ∧
          (o.state = .stopping → t.order bed.toNat = some { o with ending := some .cancelled } ∧ t.line = s.line) ∧
          (∀ st, o.running = true → o.start = some st → 1 ≤ st.cannon → st.cannon ≤ 24 →
            (∀ limit left right n, (s.cannon st.cannon).held ≠ some ⟨.start limit left right, n⟩) →
            t.order bed.toNat = some { o with state := .stopping, ending := some .cancelled } ∧
            (t.cannon st.cannon).held.map HeldCommand.command = some .stop) ∧
          (∀ st limit left right n, s.orderLaw → o.running = true → o.start = some st →
            (s.cannon st.cannon).held = some ⟨.start limit left right, n⟩ →
            t.order bed.toNat = none ∧ (t.cannon st.cannon).held.map HeldCommand.command = some .stop ∧
            (t.source st.source).reserved = (s.source st.source).reserved - st.volume ∧
            (t.source st.source).balance = (s.source st.source).balance ∧ t.disp.attempt = true) ∧
          (s.orderLaw → ∀ b, b ≠ bed.toNat → t.bed b = s.bed b ∧ t.order b = s.order b) ∧ t.meas = s.meas ∧ t.zones = s.zones)) ∧
    (∀ b o, s.order b = some o → o.state = .waiting →
      ∃ t, exec (.orderExpiry b) s = .next t ∧
        t.osc = max s.osc (o.waitStart + (if o.manual then s.conf.tLifeManual else s.conf.tLife) * 1000) ∧
        t.order b = none ∧ (∀ c, c ≠ b → t.order c = s.order c) ∧
        (o.manual = false → t.port = s.port ∧ t.disp.pending = s.disp.pending) ∧
        (o.manual = true → s.classes .sprayDone ≠ 0 → s.disp.pending = [] → 5 ≤ s.free →
          t.port.outbound = s.port.outbound ++
            [.notice (s.classes .sprayDone) .sprayDone (be8 b ++ be32 o.delivered ++ be8 3)]) ∧
        t.water = s.water ∧ t.line = s.line) ∧
    (∀ b, (∀ o, s.order b = some o → o.state ≠ .waiting) → exec (.orderExpiry b) s = .next s)

/-- R21, R71, R72, R76, R85, R86, R109, R120 to R127, R135, R143: a dispatch attempt. The mark is cleared; every order left
WAITING carries the check it failed; a grant happens only in AUTOMATIC or FALLBACK and on a bed no claim covers; in the other
modes every waiting order is blocked for MODE and nothing is granted. The scan: every waiting order fails a check or passes them
all; the first in queue order that passes is granted, and the attempt goes on as one from the state after that grant, with its
reservation, its start, its cannon and its header slot taken. Where none passes, each waiting order carries the check it fails,
the DEMAND notice is made, and WATER_SHORT is asked for the orders of priority 0 blocked for WATER whose flag is clear, in queue
order and behind the DEMAND (logs 18 and 49). Where one order waits, the order it leaves the attempt with is given at once.
Without the mark nothing changes (log 3). -/
def Obligations.DispatchAttempts : Prop :=
  ∀ s : State,
    (s.disp.attempt = false → exec .dispatchAttempt s = .next s) ∧
    (s.disp.attempt = true → s.orderLaw →
      ∃ t, exec .dispatchAttempt s = .next t ∧ t.disp.attempt = false ∧
        (∀ o ∈ t.disp.orders, o.state = .waiting → o.blocked.isSome = true) ∧
        (∀ o ∈ t.disp.orders, o.state = .granted →
          (∃ q ∈ s.disp.orders, q.bed = o.bed ∧ q.state = .granted) ∨
          ((s.ctrl.mode = .automatic ∨ s.ctrl.mode = .fallback) ∧ s.claimed o.bed = false ∧ s.capped o.bed = false ∧
            ∃ q ∈ s.disp.orders, q.bed = o.bed ∧ q.state = .waiting)) ∧
        (s.ctrl.mode ≠ .automatic → s.ctrl.mode ≠ .fallback →
          (∀ o ∈ t.disp.orders, o.state = .waiting → o.blocked = some .mode) ∧ t.line = s.line ∧
          t.water.recycled.reserved = s.water.recycled.reserved ∧ t.water.fresh.reserved = s.water.fresh.reserved ∧
          t.disp.grantSequence = s.disp.grantSequence) ∧
        (∀ o, s.order o.bed = some o → o.state = .waiting → (∀ q ∈ s.disp.orders, q.bed ≠ o.bed → q.state ≠ .waiting) →
          (s.bed o.bed).cursor < (s.conf.cannonList o.bed).length →
          (∀ k, s.failsCheck o k → t.order o.bed = some { o with blocked := some k }) ∧
          ∀ w j e, s.passesChecks o w j e →
            t.order o.bed = (s.afterGrant o w j e).order o.bed ∧
            t.disp.grantSequence = (s.disp.grantSequence + 1) % 65536 ∧
            (t.source w).reserved = (s.source w).reserved + s.grantVolume o w e ∧
            (∀ v, v ≠ w → (t.source v).reserved = (s.source v).reserved) ∧
            t.line = (s.afterGrant o w j e).line ∧
            (1 ≤ o.bed → o.bed ≤ 32 →
              (t.bed o.bed).cursor = ((s.bed o.bed).cursor + j + 1) % (s.conf.cannonList o.bed).length ∧
              (t.bed o.bed).waterShort = false)) ∧
        t.water.recycled.balance = s.water.recycled.balance ∧ t.water.fresh.balance = s.water.fresh.balance ∧
        t.osc = s.osc ∧ t.meas = s.meas ∧ t.zones = s.zones ∧ t.forecast = s.forecast ∧ t.ctrl.mode = s.ctrl.mode) ∧
    (s.disp.attempt = true → s.orderLaw → s.queueOrderLaw →
      (∀ o ∈ s.disp.orders, o.state = .waiting → (s.bed o.bed).cursor < (s.conf.cannonList o.bed).length) →
      (∀ o ∈ s.disp.orders, o.state = .waiting → (∃ k, s.failsCheck o k) ∨ ∃ w j e, s.passesChecks o w j e) ∧
      (∀ ahead o behind, s.disp.orders = ahead ++ o :: behind → o.state = .waiting →
        (∀ q ∈ ahead, q.state = .waiting → ∃ k, s.failsCheck q k) →
        ∀ w j e, s.passesChecks o w j e → exec .dispatchAttempt s = exec .dispatchAttempt (s.afterGrant o w j e)) ∧
      ((∀ o ∈ s.disp.orders, o.state = .waiting → ∃ k, s.failsCheck o k) →
        ∃ t, exec .dispatchAttempt s = .next t ∧
          t.disp = { s.disp with attempt := false, orders := t.disp.orders } ∧
          t.disp.orders.map Order.bed = s.disp.orders.map Order.bed ∧
          (∀ o ∈ s.disp.orders, (o.state ≠ .waiting → t.order o.bed = some o) ∧
            (o.state = .waiting → ∀ k, s.failsCheck o k → t.order o.bed = some { o with blocked := some k })) ∧
          (let short := t.disp.orders.filter (fun o => o.state == .waiting && o.blocked == some .water)
           let recycled := fun (o : Order) => o.preference == .recycled ||
             (o.preference == .any && (decide (¬o.urgent) || s.water.gate == .isOpen))
           let wanted := fun (orders : List Order) => be24 (min 16777215 (orders.map Order.remaining).sum)
           let told := short ≠ [] ∧ s.water.demandMark = false ∧ s.classes .demand ≠ 0 ∧ 5 ≤ s.free
           let demand := if told then [Frame.notice (s.classes .demand) .demand
             (wanted (short.filter recycled) ++ wanted (short.filter (fun o => !recycled o)))] else []
           let asked := (short.filter (fun o => o.origin == .autoSevere && !(s.bed o.bed).waterShort)).foldl
             (fun u o => u.askRecord .waterShort o.bed (min 65535 (o.remaining / 100)) (some (s.bed o.bed).band))
             { s with port := { s.port with outbound := s.port.outbound ++ demand } }
           t.water = { s.water with demandMark := s.water.demandMark || decide told } ∧ t.port = asked.port ∧
           t.recs = asked.recs ∧ t.ctrl = asked.ctrl) ∧
          (∀ o ∈ s.disp.orders, 1 ≤ o.bed → o.bed ≤ 32 →
            (o.state ≠ .waiting → o.blocked = none → t.bed o.bed = s.bed o.bed) ∧
            (o.state = .waiting → ∀ k, s.failsCheck o k → t.bed o.bed = { s.bed o.bed with
              waterShort := decide (k = .water) && ((s.bed o.bed).waterShort || o.origin == .autoSevere) })) ∧
          (∀ b, s.order b = none → t.bed b = s.bed b) ∧ t.line = s.line ∧ t.store = s.store ∧ t.beds.pending = s.beds.pending))

/-! ### The cannon line -/

/-- R138, R139, R142, R143: TRANSACTION_BEGIN on a quiet line. A due ALL_STOP goes first; then of the held commands a STOP, with
none a TRIM, with neither a START or TEST, and within each the one held longest; then a POLL, then a PING, round-robin. A busy
line, or one in FAULT, begins nothing (log 3). -/
def Obligations.TransactionsBegin : Prop :=
  ∀ s : State,
    (s.line.transaction.isSome = true ∨ s.line.state ≠ .ok → exec .transactionBegin s = .next s) ∧
    (s.line.transaction = none → s.line.state = .ok →
      (s.line.allStopDue = true →
        ∃ t x, exec .transactionBegin s = .next t ∧ t.line.transaction = some x ∧ x.cannon = 0 ∧ x.command = .allStop ∧
          x.frame = lineFrame 0 0x0F [] ∧ x.sentAt = none ∧ t.line.allStopDue = false ∧
          (∀ c, 1 ≤ c → c ≤ 24 → t.cannon c = s.cannon c) ∧ t.disp = s.disp ∧ t.port = s.port) ∧
      (s.line.allStopDue = false →
        let stops := fun (h : HeldCommand) => h.command = .stop
        let trims := fun (h : HeldCommand) => ∃ limit serial, h.command = .trim limit serial
        let starts := fun (h : HeldCommand) => (∃ limit left right, h.command = .start limit left right) ∨ h.command = .test
        let begins := fun (c : Nat) (h : HeldCommand) =>
          ∃ t x, exec .transactionBegin s = .next t ∧ t.line.transaction = some x ∧ x.cannon = c ∧
            x.command = h.command ∧ x.frame = lineFrame c h.command.code h.command.arguments ∧ x.sentAt = none ∧
            (t.cannon c).held = none ∧ (t.cannon c).activity = (s.cannon c).activity ∧
            (∀ d, d ≠ c → t.cannon d = s.cannon d) ∧ t.disp = s.disp ∧ t.port = s.port
        (∀ c h, 1 ≤ c → c ≤ 24 → (s.cannon c).held = some h →
          (stops h → (∀ d k, 1 ≤ d → d ≤ 24 → d ≠ c → (s.cannon d).held = some k → stops k → h.serial < k.serial) →
            begins c h) ∧
          (trims h → (∀ d k, 1 ≤ d → d ≤ 24 → d ≠ c → (s.cannon d).held = some k →
            ¬stops k ∧ (trims k → h.serial < k.serial)) → begins c h) ∧
          (starts h → (∀ d k, 1 ≤ d → d ≤ 24 → d ≠ c → (s.cannon d).held = some k →
            ¬stops k ∧ ¬trims k ∧ (starts k → h.serial < k.serial)) → begins c h)) ∧
        ((∀ d, 1 ≤ d → d ≤ 24 → (s.cannon d).held = none) →
          (∀ c, (roundRobin s.line.lastPolled).find? s.pollIsDue = some c →
            ∃ t x, exec .transactionBegin s = .next t ∧ t.line.transaction = some x ∧ x.cannon = c ∧ x.command = .poll ∧
              t.line.lastPolled = c ∧ t.disp = s.disp ∧ t.port = s.port) ∧
          (∀ c, (roundRobin s.line.lastPolled).find? s.pollIsDue = none →
            (roundRobin s.line.lastPinged).find? s.pingIsDue = some c →
            ∃ t x, exec .transactionBegin s = .next t ∧ t.line.transaction = some x ∧ x.cannon = c ∧ x.command = .ping ∧
              t.line.lastPinged = c ∧ t.disp = s.disp ∧ t.port = s.port) ∧
          ((roundRobin s.line.lastPolled).find? s.pollIsDue = none →
            (roundRobin s.line.lastPinged).find? s.pingIsDue = none → exec .transactionBegin s = .next s))))

/-- R137, R141, R158: REQUEST_SENT starts the reply timing; the end of an ALL_STOP ends its transaction and scores nothing.
Without its transaction neither changes anything (log 3). -/
def Obligations.RequestsLeaveTheLine : Prop :=
  ∀ (s : State),
    (s.line.transaction = none → exec .requestSent s = .next s ∧ exec .allStop s = .next s) ∧
    ∀ x, s.line.transaction = some x →
      (x.command ≠ .allStop → x.sentAt = none →
        exec .requestSent s =
          .next { s with line := { s.line with transaction := some { x with sentAt := some s.osc } } }) ∧
      (x.command = .allStop ∨ x.sentAt.isSome = true → exec .requestSent s = .next s) ∧
      (x.command = .allStop → exec .allStop s = .next { s with line := { s.line with transaction := none } }) ∧
      (x.command ≠ .allStop → exec .allStop s = .next s)

/-- R138: which bytes are a reply. Bytes of a reply's length are taken exactly when they are a frame with the start byte,
the cannon's address, the command, the length, a state of 0 to 3, and the right CRC-8. -/
def Obligations.RepliesAreJudgedWhole : Prop :=
  ∀ (a : Nat) (k : LineCommand) (bytes : List Byte) (r : Reply), k ≠ .allStop → a < 256 →
    bytes.length = replyLength k →
    (judgeReply a k bytes = some r ↔
      ∃ v rest, replyStateOf v = some r.state ∧ rest.length + 1 = k.replyArguments ∧ r.meter = ofBe rest ∧
        bytes = lineFrame a k.code (v :: rest))

/-- R144, R146, R147, R153, R154: PING replies. A good one lowers the score of a LOCAL cannon, and keeps that of an OFFLINE one,
as R147 says against R146's general words (log 34). -/
def Obligations.PingReplies : Prop :=
  ∀ (s : State) (x : Transaction) (bytes : List Byte) (r : Reply), x.command = .ping → s.replyTaken x bytes r →
    (s.cannon x.cannon).score ≤ 199 →
    ∃ t, exec (.ping bytes) s = .next t ∧ t.line.transaction = none ∧ (t.cannon x.cannon).lastEnd = some s.osc ∧
      ((s.cannon x.cannon).activity ≠ .outOfService → r.state = .idle →
        (t.cannon x.cannon).activity = .idle ∧ t.disp.attempt = true ∧ t.disp.orders = s.disp.orders ∧
        ((s.cannon x.cannon).activity = .offline →
          (t.cannon x.cannon).score = (s.cannon x.cannon).score ∧
          (t.cannon x.cannon).suspect = (s.cannon x.cannon).suspect) ∧
        ((s.cannon x.cannon).activity ≠ .offline → (t.cannon x.cannon).score = (s.cannon x.cannon).score - 1)) ∧
      ((s.cannon x.cannon).activity ≠ .outOfService → r.state = .locked → (s.cannon x.cannon).held = none →
        (t.cannon x.cannon).activity = .locked ∧ (t.cannon x.cannon).score = (s.cannon x.cannon).score ∧
        (t.cannon x.cannon).lastFault = .locked ∧ t.disp.orders = s.disp.orders) ∧
      ((s.cannon x.cannon).activity ≠ .outOfService → r.state = .fault → (s.cannon x.cannon).score + 5 < 200 →
        (t.cannon x.cannon).activity = (s.cannon x.cannon).activity ∧
        (t.cannon x.cannon).score = (s.cannon x.cannon).score + 5 ∧ (t.cannon x.cannon).lastFault = .badState) ∧
      ((s.cannon x.cannon).activity ≠ .outOfService → r.state = .spraying → (s.cannon x.cannon).score + 5 < 200 →
        (s.cannon x.cannon).held = none →
        (t.cannon x.cannon).activity = .spraying ∧ (t.cannon x.cannon).score = (s.cannon x.cannon).score + 5 ∧
        (t.cannon x.cannon).held.map HeldCommand.command = some .stop) ∧
      ((s.cannon x.cannon).activity = .outOfService → r.state = .idle → (s.cannon x.cannon).streak + 1 < 12 →
        (t.cannon x.cannon).activity = .outOfService ∧
        (t.cannon x.cannon).streak = (s.cannon x.cannon).streak + 1 ∧
        (t.cannon x.cannon).score = (s.cannon x.cannon).score) ∧
      ((s.cannon x.cannon).activity = .outOfService → r.state = .idle → 12 ≤ (s.cannon x.cannon).streak + 1 →
        (t.cannon x.cannon).activity = .idle ∧ (t.cannon x.cannon).score = 0 ∧ t.disp.attempt = true) ∧
      (∀ b, 1 ≤ b → b ≤ 32 → r.state = .idle → t.bed b = s.bed b)

/-- R75, R128, R149, R154, R159: START and TEST replies of a cannon in service. Answered SPRAYING, the order is acknowledged, a
GRANTED one is SPRAYING, a test is spraying, and the score falls by one. Answered LOCAL, FAULT or IDLE, the START is refused:
its reservation goes back, nothing stays held, and the order ends with its ending, ends EXPIRED when its life has passed, or
waits again; a test ends with nothing charged; LOCAL is not scored, the other two score 5. -/
def Obligations.StartsAndTestsAnswered : Prop :=
  (∀ (s : State) (x : Transaction) (bytes : List Byte) (r : Reply), s.replyTaken x bytes r → r.state = .spraying →
    (s.cannon x.cannon).activity ≠ .outOfService →
    (∀ limit left right o st, x.command = .start limit left right → s.serves x o st →
      ∃ t, exec (.start bytes) s = .next t ∧ t.line.transaction = none ∧
        (t.cannon x.cannon).activity = .spraying ∧ (t.cannon x.cannon).score = (s.cannon x.cannon).score - 1 ∧
        (t.cannon x.cannon).lastGood = some s.osc ∧ (t.cannon x.cannon).held = (s.cannon x.cannon).held ∧
        t.order o.bed = some { o with
          start := some { st with acknowledged := true }
          state := if o.state = .granted then .spraying else o.state } ∧
        (∀ b, b ≠ o.bed → t.order b = s.order b) ∧ t.water = s.water ∧ t.beds = s.beds) ∧
    (x.command = .test →
      ∃ t, exec (.test bytes) s = .next t ∧ t.line.transaction = none ∧
        (t.cannon x.cannon).activity = .spraying ∧ (t.cannon x.cannon).score = (s.cannon x.cannon).score - 1 ∧
        ((s.cannon x.cannon).test = .placed → (t.cannon x.cannon).test = .spraying) ∧
        t.disp.orders = s.disp.orders ∧ t.water = s.water ∧ t.beds = s.beds)) ∧
  ∀ (s : State) (x : Transaction) (bytes : List Byte) (r : Reply), s.replyTaken x bytes r → r.state ≠ .spraying →
    (s.cannon x.cannon).activity ≠ .outOfService → (s.cannon x.cannon).score + 5 < 200 →
    let scored := fun (t : State) =>
      (r.state = .locked → (t.cannon x.cannon).activity = .locked ∧ (t.cannon x.cannon).lastFault = .locked ∧
        (t.cannon x.cannon).score = (s.cannon x.cannon).score) ∧
      (r.state ≠ .locked → (t.cannon x.cannon).activity = (s.cannon x.cannon).activity ∧
        (t.cannon x.cannon).lastFault = .badState ∧ (t.cannon x.cannon).score = (s.cannon x.cannon).score + 5)
    (∀ limit left right o st, x.command = .start limit left right → s.serves x o st →
      let passed := o.waitStart + (if o.manual then s.conf.tLifeManual else s.conf.tLife) * 1000 ≤ s.osc
      ∃ t, exec (.start bytes) s = .next t ∧ t.line.transaction = none ∧ scored t ∧ (t.cannon x.cannon).held = none ∧
        (t.source st.source).reserved = (s.source st.source).reserved - st.volume ∧
        (t.source st.source).balance = (s.source st.source).balance ∧ t.water.freshToday = s.water.freshToday ∧
        (∀ w, w ≠ st.source → t.source w = s.source w) ∧
        (o.ending.isSome = true ∨ passed → t.order o.bed = none) ∧
        (o.ending = none → ¬passed →
          t.order o.bed = some { o with state := .waiting, blocked := none, start := none }) ∧
        (∀ b, b ≠ o.bed → t.order b = s.order b ∧ t.bed b = s.bed b) ∧ t.disp.attempt = true) ∧
    (x.command = .test → (s.cannon x.cannon).held = none →
      ∃ t, exec (.test bytes) s = .next t ∧ t.line.transaction = none ∧ scored t ∧ (t.cannon x.cannon).test = .none ∧
        t.water.fresh.balance = s.water.fresh.balance ∧ t.water.fresh.reserved = s.water.fresh.reserved ∧
        t.water.freshToday = s.water.freshToday ∧ t.disp.orders = s.disp.orders ∧ t.beds = s.beds)

/-- R75, R107, R128, R145, R148, R150, R151, R152: POLL, TRIM and STOP replies of a start that sprays on within its limit. Each
sets the last good reply time (R145). A STOP so answered is BAD_STATE and held again; where its score takes the cannon
OUT_OF_SERVICE, the start ends with the estimate of R148 and t = 0 (log 13). -/
def Obligations.PollAndTrimFigures : Prop :=
  ∀ (s : State) (x : Transaction) (bytes : List Byte) (r : Reply) (o : Order) (st : Start),
    s.replyTaken x bytes r → r.state = .spraying → s.serves x o st → r.meter ≤ st.volume →
    (x.command = .poll →
      ∃ t, exec (.poll bytes) s = .next t ∧ t.line.transaction = none ∧
        t.order o.bed = some { o with start := some { st with delivered := some r.meter } } ∧
        (∀ b, b ≠ o.bed → t.order b = s.order b) ∧ (t.cannon x.cannon).lastGood = some s.osc ∧
        (t.cannon x.cannon).activity = (s.cannon x.cannon).activity ∧
        (t.cannon x.cannon).held = (s.cannon x.cannon).held ∧ t.water = s.water ∧ t.beds = s.beds ∧
        ((s.cannon x.cannon).activity ≠ .outOfService → (t.cannon x.cannon).score = (s.cannon x.cannon).score - 1)) ∧
    (∀ limit hold, x.command = .trim limit hold →
      ∃ t q, exec (.trim bytes) s = .next t ∧ t.line.transaction = none ∧
        t.order o.bed = some { o with start := some q } ∧ q.volume = min st.volume (r.meter + limit) ∧
        q.delivered = some r.meter ∧ q.cannon = st.cannon ∧ q.source = st.source ∧
        ((s.bed o.bed).holdIs hold = true → q.count = .trimmed r.meter) ∧
        ((s.bed o.bed).holdIs hold = false → q.count = st.count) ∧
        (t.source st.source).reserved = (s.source st.source).reserved - (st.volume - q.volume) ∧
        (t.source st.source).balance = (s.source st.source).balance ∧
        (∀ w, w ≠ st.source → t.source w = s.source w) ∧ t.beds = s.beds ∧ (t.cannon x.cannon).lastGood = some s.osc) ∧
    (x.command = .stop →
      ((s.cannon x.cannon).score + 5 < 200 → (∀ h, (s.cannon x.cannon).held = some h → h.command = .stop) →
        ∃ t, exec (.stop bytes) s = .next t ∧ t.line.transaction = none ∧ (t.cannon x.cannon).lastGood = some s.osc ∧
          (t.cannon x.cannon).score = (s.cannon x.cannon).score + 5 ∧ (t.cannon x.cannon).lastFault = .badState ∧
          (t.cannon x.cannon).activity = (s.cannon x.cannon).activity ∧
          (t.cannon x.cannon).held.map HeldCommand.command = some .stop ∧
          t.disp = s.disp ∧ t.water = s.water ∧ t.beds = s.beds) ∧
      (200 ≤ (s.cannon x.cannon).score + 5 → (s.cannon x.cannon).activity ≠ .outOfService →
        (s.cannon x.cannon).test = .none → st.acknowledged = true →
        ∃ t, exec (.stop bytes) s = .next t ∧ (t.cannon x.cannon).activity = .outOfService ∧
          (t.cannon x.cannon).held = none ∧
          (t.source st.source).charged = min 4294967295 ((s.source st.source).charged +
            min st.volume (st.delivered.getD 0 + (s.conf.ratedFlow x.cannon * 10 + 59) / 60))))

/-- R16, R74, R108, R130, R150, R152: the end of an acknowledged start with a delivered figure: a POLL that finds the cannon
IDLE, or a confirmed STOP, within the limit. Where the bed holds a moisture hold, its tally rises by the counted delivery. -/
def Obligations.EndedStartsAreCharged : Prop :=
  ∀ (s : State) (x : Transaction) (bytes : List Byte) (r : Reply) (o : Order) (st : Start) (c : Instr),
    (x.command = .poll ∧ c = .poll bytes) ∨ (x.command = .stop ∧ c = .stop bytes) →
    s.replyTaken x bytes r → r.state = .idle → s.serves x o st → st.acknowledged = true → r.meter ≤ st.volume →
    1 ≤ o.bed → o.bed ≤ 32 → o.delivered + r.meter < 4294967296 →
    (s.cannon x.cannon).test = .none →
    ∃ t, exec c s = .next t ∧ t.line.transaction = none ∧
      (t.source st.source).balance = (s.source st.source).balance - r.meter ∧
      (t.source st.source).reserved = (s.source st.source).reserved - st.volume ∧
      (t.source st.source).charged = min 4294967295 ((s.source st.source).charged + r.meter) ∧
      (∀ w, w ≠ st.source → t.source w = s.source w) ∧
      t.water.freshToday = (if st.source = .fresh then s.water.freshToday + r.meter else s.water.freshToday) ∧
      ((s.bed o.bed).surface = .empty → (t.bed o.bed).wetness = (s.bed o.bed).wetness) ∧
      ((s.bed o.bed).surface ≠ .empty → (t.bed o.bed).wetness =
        min 1000 ((s.bed o.bed).wetness + r.meter * 1000 / (s.conf.area o.bed * s.conf.saturation))) ∧
      (t.bed o.bed).lastSprayEnd = some s.osc ∧
      ((s.bed o.bed).surface = .fresh → s.conf.wCrust ≤ (t.bed o.bed).wetness →
        (t.bed o.bed).surface = .settled ∧ (t.bed o.bed).settleSince = none) ∧
      ((s.bed o.bed).hold = none → (t.bed o.bed).hold = none) ∧
      (∀ h, (s.bed o.bed).hold = some h →
        let rises := fun n => (t.bed o.bed).hold = some { h with tally := h.tally + n }
        (st.count = .uncounted → rises 0) ∧ (st.count = .granted → rises r.meter) ∧
        (∀ dh cap, st.count = .running dh cap → rises (min (r.meter - dh) (min (st.volume - dh) cap))) ∧
        (∀ dt, st.count = .trimmed dt → rises (r.meter - dt))) ∧
      (∀ b, b ≠ o.bed → t.bed b = s.bed b) ∧ t.disp.attempt = true ∧
      (o.ending.isSome = true ∨ o.remaining - r.meter < s.conf.vMin → t.order o.bed = none) ∧
      (o.ending = none → s.conf.vMin ≤ o.remaining - r.meter →
        t.order o.bed = some { o with
          remaining := o.remaining - r.meter, delivered := o.delivered + r.meter, start := none, state := .waiting,
          blocked := none, waitStart := s.osc })

/-- R138, R141, R146, R149 to R153, R155, R159: a missed reply (none, a short one, or bytes that fail R138), and a METER fault.
A miss of a cannon that stays in service scores 10 and is its last fault; after START, STOP and TEST a STOP is held, after
TRIM the TRIM again while its start stands; an OFFLINE cannon's PING is neither scored nor changed; at 200 points the cannon is
OUT_OF_SERVICE with nothing held (log 13). The first POLL of a start whose meter is above its limit scores 20, asks for an
OVERRUN record, counts the meter as the limit and, from a cannon that sprays on, places a STOP; a later one is not scored. The
oscillator brought to the timeout is log 1. -/
def Obligations.MissedReplies : Prop :=
  (∀ (s : State) (x : Transaction) (sent : Nat) (c : Instr) (ends : Nat) (f : CannonFault),
    (c = .noReply ∧ ends = max s.osc (sent + s.conf.replyStart) ∧ f = .noReply) ∨
      (c = .shortReply ∧ ends = max s.osc (sent + s.conf.replyComplete) ∧ f = .shortReply) ∨
      (∃ bytes, ((x.command = .ping ∧ c = .ping bytes) ∨ (x.command = .poll ∧ c = .poll bytes) ∨
          (x.command = .stop ∧ c = .stop bytes) ∨ (x.command = .test ∧ c = .test bytes) ∨
          (x.command.code = 0x02 ∧ c = .start bytes) ∨ (x.command.code = 0x04 ∧ c = .trim bytes)) ∧
        replyLength x.command ≤ bytes.length ∧
        judgeReply x.cannon x.command (bytes.take (replyLength x.command)) = none ∧ ends = s.osc ∧ f = .check) →
    s.line.transaction = some x → x.sentAt = some sent → 1 ≤ x.cannon → x.cannon ≤ 24 →
    ∃ t, exec c s = .next t ∧ t.osc = ends ∧ t.line.transaction = none ∧
      (t.cannon x.cannon).lastEnd = some ends ∧
      ((s.cannon x.cannon).activity ≠ .offline → (s.cannon x.cannon).score + 10 < 200 →
        (t.cannon x.cannon).score = (s.cannon x.cannon).score + 10 ∧ (t.cannon x.cannon).lastFault = f ∧
        (t.cannon x.cannon).activity = (s.cannon x.cannon).activity ∧
        ((s.cannon x.cannon).held = none → (x.command = .stop ∨ x.command = .test ∨ x.command.code = 0x02) →
          (t.cannon x.cannon).held.map HeldCommand.command = some .stop) ∧
        (∀ limit serial, x.command = .trim limit serial →
          (∀ o st, s.serves x o st → (s.cannon x.cannon).held.map HeldCommand.command = some .stop →
            (t.cannon x.cannon).held = (s.cannon x.cannon).held) ∧
          (∀ o st, s.serves x o st → (s.cannon x.cannon).held.map HeldCommand.command ≠ some .stop →
            (t.cannon x.cannon).held.map HeldCommand.command = some (.trim limit serial)) ∧
          (s.startOn x.cannon = none → (t.cannon x.cannon).held = (s.cannon x.cannon).held)) ∧
        (x.command = .poll ∨ x.command = .ping → (t.cannon x.cannon).held = (s.cannon x.cannon).held)) ∧
      ((s.cannon x.cannon).activity = .offline → x.command = .ping →
        (t.cannon x.cannon).score = (s.cannon x.cannon).score ∧
        (t.cannon x.cannon).lastFault = (s.cannon x.cannon).lastFault ∧ (t.cannon x.cannon).activity = .offline) ∧
      ((s.cannon x.cannon).activity ≠ .offline → (s.cannon x.cannon).activity ≠ .outOfService →
        200 ≤ (s.cannon x.cannon).score + 10 →
        (t.cannon x.cannon).activity = .outOfService ∧ (t.cannon x.cannon).score = 199 ∧
        (t.cannon x.cannon).held = none)) ∧
  ∀ (s : State) (x : Transaction) (bytes : List Byte) (r : Reply) (o : Order) (st : Start),
    x.command = .poll → s.replyTaken x bytes r → r.state = .spraying → s.serves x o st → st.volume < r.meter →
    (s.cannon x.cannon).score + 20 < 200 → (s.cannon x.cannon).held = none →
    ∃ t, exec (.poll bytes) s = .next t ∧ t.line.transaction = none ∧
      t.order o.bed = some { o with start := some { st with delivered := some st.volume } } ∧
      (t.cannon x.cannon).held.map HeldCommand.command = some .stop ∧ (t.cannon x.cannon).overrun = true ∧
      (t.cannon x.cannon).lastGood = some s.osc ∧ (t.cannon x.cannon).activity = (s.cannon x.cannon).activity ∧
      ((s.cannon x.cannon).overrun = false →
        (t.cannon x.cannon).score = (s.cannon x.cannon).score + 20 ∧ (t.cannon x.cannon).lastFault = .meter ∧
        ((Readers.ofMask (s.conf.recordSet 7)).isEmpty = false →
          t.recs.queue = recordJoin s.recs.queue ⟨.overrun, x.cannon, min 65535 (r.meter - st.volume), s.ctrl.seconds,
            s.ctrl.day, none, Readers.ofMask (s.conf.recordSet 7)⟩)) ∧
      ((s.cannon x.cannon).overrun = true →
        (t.cannon x.cannon).score = (s.cannon x.cannon).score ∧
        (t.cannon x.cannon).lastFault = (s.cannon x.cannon).lastFault ∧ t.recs = s.recs) ∧
      t.water = s.water ∧ (∀ b, t.bed b = s.bed b) ∧ (∀ b, b ≠ o.bed → t.order b = s.order b)

/-- R11, R144: the timers of beds and cannons. A FRESH bed settles; a POLL or PING falls due; the oscillator is at the
deadline (log 1). A timer that does not run, or a POLL or PING that does not fall due, changes nothing (log 3). -/
def Obligations.TimersFallDue : Prop :=
  ∀ s : State,
    (∀ b since, 1 ≤ b → b ≤ 32 → (s.bed b).settleSince = some since →
      ∃ t, exec (.settleTimerExpiry b) s = .next t ∧ t.osc = max s.osc (since + s.conf.tSettle * 1000) ∧
        t.bed b = { s.bed b with surface := .settled, settleSince := none } ∧ (∀ a, a ≠ b → t.bed a = s.bed a) ∧
        t.disp = s.disp ∧ t.water = s.water ∧ t.port = s.port) ∧
    (∀ b, (s.bed b).settleSince = none → exec (.settleTimerExpiry b) s = .next s) ∧
    (∀ c ended, 1 ≤ c → c ≤ 24 → (s.cannon c).lastEnd = some ended → s.addressing c = false →
      ((s.cannon c).activity = .spraying → (s.cannon c).held = none →
        ∃ t, exec (.pollDue c) s = .next t ∧ t.osc = max s.osc (ended + 1000) ∧
          t.cannon c = { s.cannon c with pollDue := true } ∧ (∀ a, a ≠ c → t.cannon a = s.cannon a) ∧
          t.disp = s.disp ∧ t.port = s.port ∧ t.line.transaction = s.line.transaction) ∧
      ((s.cannon c).activity = .offline ∨ (s.cannon c).activity = .locked ∨ (s.cannon c).activity = .outOfService →
        s.conf.inUse c = true →
        ∃ t, exec (.pingDue c) s = .next t ∧ t.osc = max s.osc (ended + 30000) ∧
          t.cannon c = { s.cannon c with pingDue := true } ∧ (∀ a, a ≠ c → t.cannon a = s.cannon a) ∧
          t.disp = s.disp ∧ t.port = s.port ∧ t.line.transaction = s.line.transaction)) ∧
    (∀ c, (s.cannon c).activity = .idle → exec (.pollDue c) s = .next s ∧ exec (.pingDue c) s = .next s)

/-- R129, R141, R148, R156, R157: a line fault, the ends ten seconds after it, and the line's return. The receive line is
watched only while driver enable is off: a fault while a request is still being sent, and each event in another line state,
changes nothing (log 3). Ten seconds after the fault every start has ended: an acknowledged one by its estimated charge, one
not acknowledged as refused. The oscillator brought to that time is log 1. -/
def Obligations.LineFaultsAndReturns : Prop :=
  ∀ s : State,
    let sending := ∃ x, s.line.transaction = some x ∧ x.sentAt = none
    (s.line.state = .ok → ¬sending →
      ∃ t, exec .lineFault s = .next t ∧ t.line.state = .fault s.osc false ∧ t.line.transaction = none ∧
        t.line.allStopDue = false ∧
        (∀ c, 1 ≤ c → c ≤ 24 → t.cannon c = { s.cannon c with held := none }) ∧
        t.disp.orders = s.disp.orders.map (fun o => if o.running then { o with state := .stopping } else o) ∧
        t.water = s.water ∧ t.beds = s.beds) ∧
    (s.line.state ≠ .ok ∨ sending → exec .lineFault s = .next s) ∧
    (∀ since, s.line.state = .fault since false →
      let estimate := fun (st : Start) =>
        let quiet := (since - ((s.cannon st.cannon).lastGood).getD since + 999) / 1000
        min st.volume (st.delivered.getD 0 + (s.conf.ratedFlow st.cannon * (10 + quiet) + 59) / 60)
      ∃ t, exec .lineFaultEndOfStarts s = .next t ∧ t.osc = max s.osc (since + 10000) ∧
        t.line.state = .fault since true ∧
        (s.orderLaw → ∀ c, t.startOn c = none) ∧
        (s.orderLaw → ∀ o ∈ s.disp.orders, ∀ st, o.start = some st →
          (st.acknowledged = true →
            (o.ending.isSome = true ∨ o.remaining - estimate st < s.conf.vMin → t.order o.bed = none) ∧
            (o.ending = none → s.conf.vMin ≤ o.remaining - estimate st →
              ∃ q, t.order o.bed = some q ∧ q.remaining = o.remaining - estimate st ∧ q.state = .waiting ∧
                q.start = none ∧ q.waitStart = t.osc ∧
                (o.delivered + estimate st < 4294967296 → q.delivered = o.delivered + estimate st)) ∧
            (1 ≤ o.bed → o.bed ≤ 32 → (t.bed o.bed).lastSprayEnd = some t.osc)) ∧
          (st.acknowledged = false → o.ending.isSome = true → t.order o.bed = none) ∧
          (st.acknowledged = false → o.ending = none → t.order o.bed = none ∨
            t.order o.bed = some { o with state := .waiting, blocked := none, start := none })) ∧
        (s.orderLaw → (∀ c, 1 ≤ c → c ≤ 24 → (s.cannon c).test = .none) → ∀ o st, s.disp.orders = [o] →
          o.start = some st →
          let d := if st.acknowledged then estimate st else 0
          (t.source st.source).balance = (s.source st.source).balance - d ∧
          (t.source st.source).reserved = (s.source st.source).reserved - st.volume ∧
          t.water.freshToday = s.water.freshToday + (if st.source = .fresh then d else 0))) ∧
    ((∀ since, s.line.state ≠ .fault since false) → exec .lineFaultEndOfStarts s = .next s) ∧
    (∀ since, s.line.state = .fault since true →
      ∃ t, exec .lineReturn s = .next t ∧ t.line.state = .ok ∧ t.disp.attempt = true ∧ t.disp.orders = s.disp.orders ∧
        (∀ c, 1 ≤ c → c ≤ 24 →
          (t.cannon c).score = (s.cannon c).score ∧ (t.cannon c).suspect = (s.cannon c).suspect ∧
          (t.cannon c).lastFault = (s.cannon c).lastFault ∧
          (s.conf.inUse c = true → (t.cannon c).activity = .offline ∧ (t.cannon c).pingDue = true) ∧
          (s.conf.inUse c = false → (t.cannon c).activity = (s.cannon c).activity)) ∧
        t.water = s.water ∧ t.beds = s.beds) ∧
    ((∀ since, s.line.state ≠ .fault since true) → exec .lineReturn s = .next s)

/-- R87, R143, R147, R159: CANNON_RESTORE and TEST_SPRAY. A TEST asked for a cannon that still holds a STOP is dropped, and the
test with it; that the reply is OK and nothing is charged is the model's choice (log 45). -/
def Obligations.CannonRequests : Prop :=
  ∀ (s : State) (node : Node) (cannon : Byte),
    let c := cannon.toNat
    let unknown := c = 0 ∨ 24 < c ∨ s.conf.inUse c = false
    let busy := (s.startOn c).isSome = true ∨ (s.cannon c).test ≠ .none
    let allowance := (s.conf.ratedFlow c * 10 + 59) / 60
    (s.ready node 0x35 [cannon] →
      (unknown → exec (.cannonRestore node cannon) s = .next (s.takeRequest.reply node 0x35 .unknownCannon [])) ∧
      (¬unknown → busy → exec (.cannonRestore node cannon) s = .next (s.takeRequest.reply node 0x35 .failed [])) ∧
      (¬unknown → ¬busy →
        ∃ t, exec (.cannonRestore node cannon) s = .next t ∧ (t.cannon c).activity = .offline ∧ (t.cannon c).score = 0 ∧
          (t.cannon c).suspect = false ∧ (t.cannon c).lastFault = .none ∧ (t.cannon c).streak = 0 ∧
          (t.cannon c).pingDue = true ∧ s.answers t node 0x35 .ok [] ∧ t.disp.orders = s.disp.orders ∧
          t.water = s.water ∧ t.beds = s.beds)) ∧
    (s.ready node 0x36 [cannon] →
      let turnedAway := fun r => exec (.testSpray node cannon) s = .next (s.takeRequest.reply node 0x36 r [])
      let testing := ∃ d, 1 ≤ d ∧ d ≤ 24 ∧ (s.cannon d).test ≠ .none
      let fit := s.line.state = .ok ∧ (s.cannon c).activity = .idle
      let allowed := allowance ≤ s.water.fresh.balance - s.water.fresh.reserved ∧
        s.water.freshToday + s.water.fresh.reserved + allowance ≤ s.conf.fCap
      let stopHeld := (s.cannon c).held.map HeldCommand.command = some .stop
      (unknown → turnedAway .unknownCannon) ∧
      (¬unknown → s.ctrl.mode ≠ .maintenance → turnedAway .wrongMode) ∧
      (¬unknown → s.ctrl.mode = .maintenance → s.ctrl.drain.isSome = true ∨ testing → turnedAway .busy) ∧
      (¬unknown → s.ctrl.mode = .maintenance → s.ctrl.drain = none → ¬testing →
        (¬fit ∨ ¬allowed → turnedAway .failed) ∧
        (fit → allowed → ¬stopHeld →
          ∃ t, exec (.testSpray node cannon) s = .next t ∧ (t.cannon c).test = .placed ∧
            (t.cannon c).held.map HeldCommand.command = some .test ∧ (t.cannon c).activity = .idle ∧
            (∀ d, d ≠ c → t.cannon d = s.cannon d) ∧ s.answers t node 0x36 .ok (be16 allowance) ∧
            t.water = s.water ∧ t.disp = s.disp ∧ t.beds = s.beds) ∧
        (fit → allowed → stopHeld →
          exec (.testSpray node cannon) s = .next (s.takeRequest.reply node 0x36 .ok (be16 allowance)))))

/-! ### Records -/

/-- R165 to R173: the making of a record, RECORD_READ and the read timer. A record of an unrouted kind is not made; another
joins as the newest, displaces the newest of a full queue into an OVERFLOW, or is absorbed into a standing one; a count that
rises to 1 or to the watermark has a notice due, and the timer starts with the first record. The timer's expiry has a notice
due for each told class with unread records, and starts again (log 1); no timer changes nothing (log 3). The notices due go
out in the order OPS, WTR, MET while five entries are free, each clearing its class's mark; the others stay marked. -/
def Obligations.RecordsAreRead : Prop :=
  (∀ (s : State) (k : RecordKind) (subject value : Nat) (band : Option Band),
    s.recordMade (s.askRecord k subject value band) k subject value band) ∧
  (∀ s : State, s.line.state = .ok → s.line.transaction = none →
    ∃ t, exec .lineFault s = .next t ∧ s.recordMade t .lineFault 0 0 none) ∧
  ∀ s : State,
    (∀ (node : Node) (c : ReaderClass), s.ready node 0x24 [] → (s.classOf node).reader = some c →
      (s.free < 5 → exec (.recordRead node) s = .next (s.takeRequest.reply node 0x24 .busy [])) ∧
      (5 ≤ s.free → (∀ r ∈ s.recs.queue, r.unread.has c = false) →
        exec (.recordRead node) s = .next (s.takeRequest.reply node 0x24 .empty [])) ∧
      (∀ passed r rest, 5 ≤ s.free → s.recs.queue = passed ++ r :: rest → (∀ q ∈ passed, q.unread.has c = false) →
        r.unread.has c = true →
        let left := r.unread.set false c
        let queue := if left.isEmpty then passed ++ rest else passed ++ { r with unread := left } :: rest
        exec (.recordRead node) s = .next { s.takeRequest with
          recs := { s.recs with queue := queue, readDue := if queue.isEmpty then none else s.recs.readDue }
          port := { s.takeRequest.port with outbound := s.port.outbound ++
            [.record r.kind r.subject r.value r.seconds,
             .reply node 0x24 .ok (be16 r.day ++ be8 (bandByte r.band) ++
               be8 (queue.filter (fun q => q.unread.has c)).length)] } })) ∧
    (s.recs.readDue = none → exec .readTimerExpiry s = .next s) ∧
    (∀ due, s.recs.readDue = some due →
      ∃ t, exec .readTimerExpiry s = .next t ∧ t.osc = max s.osc due ∧
        t.recs.readDue = some (due + s.conf.tRead * 1000) ∧ t.recs.queue = s.recs.queue ∧
        s.readersTold t (fun c => s.recs.marks.has c ||
          ((s.classes .recordsWaiting).testBit c.bit && decide (0 < unreadCount s.recs.queue c))) ∧
        t.disp = s.disp ∧ t.beds = s.beds ∧ t.water = s.water ∧ t.line = s.line ∧ t.ctrl = s.ctrl)

/-! ### Modes and the clock -/

/-- R133, R178, R179: ALL_HOLD and HOLD_RELEASE. The replies carry the mode and the reasons as they stand after; a hold
leaves no order in GRANTED or SPRAYING; a release that empties the set leaves HOLD by the basis and the forecast. -/
def Obligations.HoldsAndReleases : Prop :=
  ∀ (s : State) (node : Node),
    (s.ready node 0x01 [] →
      ∃ t, exec (.allHold node) s = .next t ∧ t.ctrl.operator = true ∧ t.ctrl.freeze = s.ctrl.freeze ∧
        t.ctrl.mode = (if s.ctrl.operator = false ∧ (s.ctrl.mode = .automatic ∨ s.ctrl.mode = .fallback) then .hold
          else s.ctrl.mode) ∧
        s.answers t node 0x01 .ok (be8 t.ctrl.mode.code ++ be8 (1 + 2 * flagByte s.ctrl.freeze)) ∧
        (s.orderLaw → t.ctrl.mode ≠ s.ctrl.mode → ∀ o ∈ t.disp.orders, o.running = false) ∧
        (t.ctrl.mode = s.ctrl.mode → t.disp.orders = s.disp.orders ∧ t.line = s.line) ∧
        t.water.recycled.balance = s.water.recycled.balance ∧ t.water.fresh.balance = s.water.fresh.balance ∧
        t.meas = s.meas ∧ t.zones = s.zones) ∧
    (s.ready node 0x02 [] →
      (s.ctrl.mode ≠ .hold → exec (.holdRelease node) s = .next (s.takeRequest.reply node 0x02 .wrongMode
        (be8 s.ctrl.mode.code ++ be8 (flagByte s.ctrl.operator + 2 * flagByte s.ctrl.freeze)))) ∧
      (s.ctrl.mode = .hold →
        ∃ t, exec (.holdRelease node) s = .next t ∧ t.ctrl.operator = false ∧ t.ctrl.freeze = s.ctrl.freeze ∧
          t.ctrl.mode = (if s.ctrl.operator = true ∧ s.ctrl.freeze = false then
            (if s.meas.basis = .none ∧ s.forecast.live = false then .fallback else .automatic) else .hold) ∧
          s.answers t node 0x02 .ok (be8 t.ctrl.mode.code ++ be8 (2 * flagByte s.ctrl.freeze)) ∧
          (t.ctrl.mode ≠ .hold → t.disp.attempt = true) ∧ t.disp.orders = s.disp.orders ∧ t.line = s.line ∧
          t.water = s.water ∧ t.beds = s.beds))

/-- R133, R148, R181, R194: MAINT_ENTER and the drain. The mode is MAINTENANCE at once; the reply, held back in its reserved
entry, comes with the last start's end and carries 0, or 1 when the deadline forced it. The oscillator brought to the deadline
is log 1, the deferred reply behind the notices of its event log 6, and no drain changing nothing log 3. -/
def Obligations.MaintenanceDrains : Prop :=
  ∀ s : State,
    (∀ node, s.ready node 0x33 [] →
      (s.ctrl.mode = .maintenance → exec (.maintEnter node) s = .next (s.takeRequest.reply node 0x33 .wrongMode [])) ∧
      (s.ctrl.mode ≠ .maintenance → s.ctrl.drain = none →
        ∃ t, exec (.maintEnter node) s = .next t ∧ t.ctrl.mode = .maintenance ∧ t.ctrl.operator = s.ctrl.operator ∧
          t.ctrl.freeze = s.ctrl.freeze ∧
          (t.drained = true → t.ctrl.drain = none ∧ t.port.long = none ∧
            ∃ notices, t.port.outbound = s.port.outbound ++ notices ++ [.reply node 0x33 .ok (be8 0)]) ∧
          (t.drained = false → t.ctrl.drain = some (s.osc + 30000) ∧ t.port.long = some ⟨node, 0x33⟩) ∧
          (s.orderLaw → ∀ o ∈ t.disp.orders, o.running = false) ∧ t.meas = s.meas ∧ t.zones = s.zones)) ∧
    (s.ctrl.drain = none → exec .drainDeadline s = .next s) ∧
    (∀ deadline l, s.ctrl.drain = some deadline → s.port.long = some l →
      ∃ t, exec .drainDeadline s = .next t ∧ t.osc = max s.osc deadline ∧ t.ctrl.drain = none ∧ t.port.long = none ∧
        t.ctrl.mode = s.ctrl.mode ∧ t.ctrl.flags &&& 0x20#8 = 0x20#8 ∧
        (∃ before after, t.port.outbound = s.port.outbound ++ before ++ [.reply l.node l.code .ok (be8 1)] ++ after) ∧
        (s.orderLaw → t.drained = true))

/-- R136, R175, R182, R200, R205, R206: what begins a settings restart: an accepted MAINT_EXIT, or a commit whose image reads
back as written. The reply placed before the restart's notices is log 6, and the READ_BACK operand log 9. -/
def Obligations.SettingsRestartsBegin : Prop :=
  ∀ s : State,
    (∀ node, s.ready node 0x34 [] →
      (s.ctrl.mode ≠ .maintenance → exec (.maintExit node) s = .next (s.takeRequest.reply node 0x34 .wrongMode [])) ∧
      (s.ctrl.mode = .maintenance → s.ctrl.drain.isSome = true ∨ s.store.commit.isSome = true →
        exec (.maintExit node) s = .next (s.takeRequest.reply node 0x34 .busy [])) ∧
      (s.ctrl.mode = .maintenance → s.ctrl.drain = none → s.store.commit = none →
        ∃ t notices, exec (.maintExit node) s = .next t ∧ t.ctrl.mode = .starting ∧ t.ctrl.operator = s.ctrl.operator ∧
          t.ctrl.freeze = s.ctrl.freeze ∧ t.port.urgent = [] ∧ t.port.routine = [] ∧ t.port.bus ≠ .joined ∧
          t.port.outbound = s.port.outbound ++ [.reply node 0x34 .ok []] ++ notices ∧ t.disp.orders = [] ∧
          t.disp.grantSequence = 0 ∧ t.disp.attempt = false ∧ t.disp.nextId = s.disp.nextId ∧ t.evalDue = none ∧
          t.store.resetKind = .settingsRestart ∧ t.store.verified = none ∧ t.store.eeprom = s.store.eeprom ∧
          t.conf = s.conf ∧ t.zones = s.zones ∧ t.forecast = s.forecast ∧
          ((∀ c, s.startOn c = none) → t.recs = s.recs))) ∧
    (∀ differ m l, s.store.commit = some m → pageCount m.image ≤ m.page → s.port.long = some l →
      eepromReadBlock (withDiffering s.store.eeprom differ) 0 m.image.length = m.image →
      ∃ t notices, exec (.readBack differ) s = .next t ∧ t.ctrl.mode = .starting ∧
        t.store.working = { s.store.working with version := (s.store.working.version + 1) % 65536 } ∧
        t.store.uncommitted = false ∧ t.store.commit = none ∧ t.store.verified = some m.image ∧
        t.store.resetKind = .settingsRestart ∧ t.port.long = none ∧
        t.port.outbound = s.port.outbound ++
          [.reply l.node l.code .ok (be16 ((s.store.working.version + 1) % 65536))] ++ notices ∧
        t.port.urgent = [] ∧ t.port.routine = [] ∧ t.disp.orders = [] ∧ t.evalDue = none ∧ t.conf = s.conf)

/-- R184: FLAG_CLEAR clears the flags its mask names but TIME_UNSET, and answers the flags as they then stand. -/
def Obligations.FlagsAreCleared : Prop :=
  ∀ (s : State) (node : Node) (mask : Byte), s.ready node 0x2C [mask] →
    ∃ flags : Byte, exec (.flagClear node mask) s =
      .next (({ s.takeRequest with ctrl := { s.ctrl with flags := flags } } : State).reply node 0x2C .ok [flags]) ∧
      ∀ i, i < 8 → flags.getLsbD i =
        (s.ctrl.flags.getLsbD i && !(mask.getLsbD i && decide (i ≠ 2 ∧ i ≠ 6 ∧ i ≠ 7)))

/-- R77, R186, R187: YARD_SECOND and TIME_SET. The oscillator brought to the second's deadline and the next second 1000 ms
behind it are log 1. -/
def Obligations.TheClockRunsAndIsSet : Prop :=
  ∀ s : State,
    (∃ t, exec .yardSecond s = .next t ∧ t.osc = max s.osc s.ctrl.yardDue ∧ t.ctrl.yardDue = s.ctrl.yardDue + 1000 ∧
      (s.ctrl.seconds + 1 < 86400 → t.ctrl.seconds = s.ctrl.seconds + 1 ∧ t.ctrl.day = s.ctrl.day ∧
        t.water.freshToday = s.water.freshToday) ∧
      (86400 ≤ s.ctrl.seconds + 1 → t.ctrl.seconds = 0 ∧ t.ctrl.day = (s.ctrl.day + 1) % 65536 ∧
        t.water.freshToday = 0 ∧ t.disp.attempt = true) ∧
      (s.ctrl.seconds + 1 < 86400 → (s.ctrl.seconds + 1) % 3600 ≠ 0 →
        t.forecast = s.forecast ∧ t.ctrl.freeze = s.ctrl.freeze ∧ t.ctrl.mode = s.ctrl.mode ∧ t.disp = s.disp ∧
        t.recs = s.recs ∧ t.port = s.port) ∧
      ((s.ctrl.seconds + 1) % 3600 = 0 → t.forecast.live = t.slotsLive) ∧
      t.meas = s.meas ∧ t.beds.holdSerial = s.beds.holdSerial ∧ t.zones = s.zones ∧ t.conf = s.conf) ∧
    (∀ (node : Node) (day : BitVec 16) (seconds : BitVec 24),
      s.ready node 0x22 (be16 day.toNat ++ be24 seconds.toNat) →
      ∃ t, exec (.timeSet node day seconds) s = .next t ∧ t.ctrl.day = day.toNat ∧
        t.ctrl.seconds = min 86399 seconds.toNat ∧ t.ctrl.flags &&& 0x04#8 = 0x00#8 ∧
        t.ctrl.yardDue = s.ctrl.yardDue ∧ t.osc = s.osc ∧
        s.answers t node 0x22 (if 86399 < seconds.toNat then .clamped else .ok) [] ∧
        (day.toNat ≠ s.ctrl.day → t.water.freshToday = 0 ∧ t.disp.attempt = true) ∧
        (day.toNat = s.ctrl.day → t.water.freshToday = s.water.freshToday) ∧
        (t.nowHour = s.nowHour → t.forecast = s.forecast ∧ t.ctrl.mode = s.ctrl.mode) ∧
        (t.nowHour ≠ s.nowHour → t.forecast.live = t.slotsLive) ∧
        t.meas = s.meas ∧ t.zones = s.zones ∧ t.conf = s.conf)

/-! ### The Settings Store -/

/-- R194, R201, R202, R204, R205: SETTING_WRITE and SETTING_COMMIT. A write reaches the working copy alone; a commit is judged,
then its image is formed and its reply held back. The entry a refused commit reports is the least of the failing ones, as log 16
reads which entries fail. The image of settings with no failing entry has 4,536 bytes, and judging it gives those settings back
at its version. An image that is judged valid gives its version and, for each item and index, the value of its last entry or the
default. -/
def Obligations.SettingsAreWrittenAndCommitted : Prop :=
  (∀ S : Settings, (firstFailure S = none ↔ ∀ k, ¬S.fails k) ∧
    ∀ k, firstFailure S = some k ↔ S.fails k ∧ ∀ j, S.fails j → k ≤ j) ∧
  (∀ (S : Settings) (version : Nat), Settings.wf S → firstFailure S = none → version < 65536 →
    (formImage S version).length = 4536 ∧ pageCount (formImage S version) = 142 ∧
      judgeImage (formImage S version) = some { S with version := version }) ∧
  (∀ (image : List Byte) (S : Settings), judgeImage image = some S →
    let entries := parseEntries ((image.drop 6).take (ofBe (image.take 2) - 6))
    S.version = ofBe ((image.drop 2).take 2) ∧ firstFailure S = none ∧ Settings.wf S ∧
      ∀ code index, code < 256 → index < 256 → S.get code index =
        ((entries.filter (fun e => e.1 == code && e.2.1 == index)).getLast?.map
          (fun e => settingOfWord code index e.2.2)).getD (settingDefault (settingKey code index))) ∧
  ∀ (s : State) (node : Node),
    (∀ (item index : Byte) (value : BitVec 32), s.ready node 0x30 (item :: index :: be32 value.toNat) →
      let run := exec (.settingWrite node item index value) s
      let v : Int := if item.toNat = 0x50 ∧ index.toNat = 3 then value.toInt else value.toNat
      (s.ctrl.mode ≠ .maintenance → run = .next (s.takeRequest.reply node 0x30 .wrongMode [])) ∧
      (s.ctrl.mode = .maintenance → s.ctrl.drain.isSome = true ∨ s.store.commit.isSome = true →
        run = .next (s.takeRequest.reply node 0x30 .busy [])) ∧
      (s.ctrl.mode = .maintenance → s.ctrl.drain = none → s.store.commit = none →
        (itemRange item.toNat index.toNat = none → run = .next (s.takeRequest.reply node 0x30 .badValue [])) ∧
        (∀ q, itemRange item.toNat index.toNat = some q →
          (v < q.low ∨ q.high < v → run = .next (s.takeRequest.reply node 0x30 .badValue [])) ∧
          (q.low ≤ v → v ≤ q.high → Settings.wf s.store.working →
            ∃ t, run = .next t ∧ t.store.working.get item.toNat index.toNat = v ∧ t.store.uncommitted = true ∧
              t.store.working.version = s.store.working.version ∧
              (∀ i j, settingKey i j ≠ settingKey item.toNat index.toNat →
                t.store.working.get i j = s.store.working.get i j) ∧
              t = ({ s.takeRequest with store := t.store } : State).reply node 0x30 .ok (be32 value.toNat) ∧
              t.store.eeprom = s.store.eeprom)))) ∧
    (s.ready node 0x32 [] →
      let run := exec (.settingCommit node) s
      (s.ctrl.mode ≠ .maintenance → run = .next (s.takeRequest.reply node 0x32 .wrongMode [])) ∧
      (s.ctrl.mode = .maintenance → s.ctrl.drain.isSome = true → run = .next (s.takeRequest.reply node 0x32 .busy [])) ∧
      (∀ k, s.ctrl.mode = .maintenance → s.ctrl.drain = none → firstFailure s.store.working = some k →
        run = .next (s.takeRequest.reply node 0x32 .badValue (be8 (k / 256) ++ be8 (k % 256)))) ∧
      (s.ctrl.mode = .maintenance → s.ctrl.drain = none → firstFailure s.store.working = none →
        run = .next { s.takeRequest with
          store := { s.store with
            commit := some ⟨formImage s.store.working ((s.store.working.version + 1) % 65536), 0, s.osc⟩ }
          port := { s.takeRequest.port with long := some ⟨node, 0x32⟩ } }))

/-- R201, R205: the pages of a commit. A written page holds the image's bytes and no other address changes; a page failure or
a mismatch ends the commit FAILED with STORE_FAULT set and the page's address. The oscillator brought to the end of the page's
20 ms is log 1, and the READ_BACK operand log 9. -/
def Obligations.PagesAreWritten : Prop :=
  ∀ (s : State) (m : Commit), s.store.commit = some m → Memory.wf s.store.eeprom → m.image.length ≤ 8192 →
    (m.page < pageCount m.image →
      (∃ t, exec .pageWriteDone s = .next t ∧
        t.store.commit = some { m with page := m.page + 1, since := s.osc } ∧
        (∀ a, m.page * 32 ≤ a → a < m.page * 32 + 32 → a < m.image.length →
          some (eepromRead t.store.eeprom a) = m.image[a]?) ∧
        (∀ a, a < m.page * 32 ∨ m.page * 32 + 32 ≤ a ∨ m.image.length ≤ a →
          eepromRead t.store.eeprom a = eepromRead s.store.eeprom a) ∧
        t = { s with store := { s.store with eeprom := t.store.eeprom, commit := t.store.commit } }) ∧
      (∀ l, s.port.long = some l →
        ∃ t, exec .pageFailure s = .next t ∧ t.osc = max s.osc (m.since + 20) ∧ t.store.commit = none ∧
          t.ctrl.flags = s.ctrl.flags ||| 0x02#8 ∧ t.ctrl.mode = s.ctrl.mode ∧ t.store.working = s.store.working ∧
          t.store.uncommitted = s.store.uncommitted ∧ t.port.long = none ∧
          t.port.outbound = s.port.outbound ++ [.reply l.node l.code .failed (be16 (m.page * 32))] ∧
          (∀ a, a < m.page * 32 ∨ m.page * 32 + 32 ≤ a →
            eepromRead t.store.eeprom a = eepromRead s.store.eeprom a))) ∧
    (pageCount m.image ≤ m.page → ∀ differ l a, s.port.long = some l →
      firstMismatch 0 (eepromReadBlock (withDiffering s.store.eeprom differ) 0 m.image.length) m.image = some a →
      ∃ t, exec (.readBack differ) s = .next t ∧ t.store.commit = none ∧ t.ctrl.flags = s.ctrl.flags ||| 0x02#8 ∧
        t.ctrl.mode = s.ctrl.mode ∧ t.store.working = s.store.working ∧ t.store.uncommitted = s.store.uncommitted ∧
        t.port.long = none ∧
        t.port.outbound = s.port.outbound ++ [.reply l.node l.code .failed (be16 (a / 32 * 32))])
end

