-- ==== Sys2Proof/Laws/State.lean ====
section
/-! SUPPORT. What each record update leaves and writes: one lemma per field per update, true by rfl. -/

namespace Sys2Proof.Machine

@[simp] theorem State.reach_conf (s : State) (d : Nat) : (s.reach d).conf = s.conf := rfl
@[simp] theorem State.reach_evalDue (s : State) (d : Nat) : (s.reach d).evalDue = s.evalDue := rfl
@[simp] theorem State.reach_port (s : State) (d : Nat) : (s.reach d).port = s.port := rfl
@[simp] theorem State.reach_meas (s : State) (d : Nat) : (s.reach d).meas = s.meas := rfl
@[simp] theorem State.reach_forecast (s : State) (d : Nat) : (s.reach d).forecast = s.forecast := rfl
@[simp] theorem State.reach_beds (s : State) (d : Nat) : (s.reach d).beds = s.beds := rfl
@[simp] theorem State.reach_water (s : State) (d : Nat) : (s.reach d).water = s.water := rfl
@[simp] theorem State.reach_zones (s : State) (d : Nat) : (s.reach d).zones = s.zones := rfl
@[simp] theorem State.reach_disp (s : State) (d : Nat) : (s.reach d).disp = s.disp := rfl
@[simp] theorem State.reach_line (s : State) (d : Nat) : (s.reach d).line = s.line := rfl
@[simp] theorem State.reach_recs (s : State) (d : Nat) : (s.reach d).recs = s.recs := rfl
@[simp] theorem State.reach_ctrl (s : State) (d : Nat) : (s.reach d).ctrl = s.ctrl := rfl
@[simp] theorem State.reach_store (s : State) (d : Nat) : (s.reach d).store = s.store := rfl
@[simp] theorem State.reach_freeCount (s : State) (d : Nat) : (s.reach d).freeCount = s.freeCount := rfl
@[simp] theorem State.reach_pending (s : State) (d : Nat) : (s.reach d).pending = s.pending := rfl
@[simp] theorem State.reach_osc (s : State) (d : Nat) : (s.reach d).osc = max s.osc d := rfl

@[simp] theorem State.setBed_osc (s : State) (b : Nat) (r : Bed) : (s.setBed b r).osc = s.osc := rfl
@[simp] theorem State.setBed_conf (s : State) (b : Nat) (r : Bed) : (s.setBed b r).conf = s.conf := rfl
@[simp] theorem State.setBed_evalDue (s : State) (b : Nat) (r : Bed) : (s.setBed b r).evalDue = s.evalDue := rfl
@[simp] theorem State.setBed_port (s : State) (b : Nat) (r : Bed) : (s.setBed b r).port = s.port := rfl
@[simp] theorem State.setBed_meas (s : State) (b : Nat) (r : Bed) : (s.setBed b r).meas = s.meas := rfl
@[simp] theorem State.setBed_forecast (s : State) (b : Nat) (r : Bed) : (s.setBed b r).forecast = s.forecast := rfl
@[simp] theorem State.setBed_beds_pending (s : State) (b : Nat) (r : Bed) : (s.setBed b r).beds.pending = s.beds.pending := rfl
@[simp] theorem State.setBed_beds_holdSerial (s : State) (b : Nat) (r : Bed) : (s.setBed b r).beds.holdSerial = s.beds.holdSerial := rfl
@[simp] theorem State.setBed_water (s : State) (b : Nat) (r : Bed) : (s.setBed b r).water = s.water := rfl
@[simp] theorem State.setBed_zones (s : State) (b : Nat) (r : Bed) : (s.setBed b r).zones = s.zones := rfl
@[simp] theorem State.setBed_disp (s : State) (b : Nat) (r : Bed) : (s.setBed b r).disp = s.disp := rfl
@[simp] theorem State.setBed_line (s : State) (b : Nat) (r : Bed) : (s.setBed b r).line = s.line := rfl
@[simp] theorem State.setBed_recs (s : State) (b : Nat) (r : Bed) : (s.setBed b r).recs = s.recs := rfl
@[simp] theorem State.setBed_ctrl (s : State) (b : Nat) (r : Bed) : (s.setBed b r).ctrl = s.ctrl := rfl
@[simp] theorem State.setBed_store (s : State) (b : Nat) (r : Bed) : (s.setBed b r).store = s.store := rfl
@[simp] theorem State.setBed_freeCount (s : State) (b : Nat) (r : Bed) : (s.setBed b r).freeCount = s.freeCount := rfl
@[simp] theorem State.setBed_pending (s : State) (b : Nat) (r : Bed) : (s.setBed b r).pending = s.pending := rfl
@[simp] theorem State.setBed_records (s : State) (b : Nat) (r : Bed) : (s.setBed b r).beds.records = setNth s.beds.records b r := rfl

@[simp] theorem State.setCannon_osc (s : State) (c : Nat) (r : Cannon) : (s.setCannon c r).osc = s.osc := rfl
@[simp] theorem State.setCannon_conf (s : State) (c : Nat) (r : Cannon) : (s.setCannon c r).conf = s.conf := rfl
@[simp] theorem State.setCannon_evalDue (s : State) (c : Nat) (r : Cannon) : (s.setCannon c r).evalDue = s.evalDue := rfl
@[simp] theorem State.setCannon_port (s : State) (c : Nat) (r : Cannon) : (s.setCannon c r).port = s.port := rfl
@[simp] theorem State.setCannon_meas (s : State) (c : Nat) (r : Cannon) : (s.setCannon c r).meas = s.meas := rfl
@[simp] theorem State.setCannon_forecast (s : State) (c : Nat) (r : Cannon) : (s.setCannon c r).forecast = s.forecast := rfl
@[simp] theorem State.setCannon_beds (s : State) (c : Nat) (r : Cannon) : (s.setCannon c r).beds = s.beds := rfl
@[simp] theorem State.setCannon_water (s : State) (c : Nat) (r : Cannon) : (s.setCannon c r).water = s.water := rfl
@[simp] theorem State.setCannon_zones (s : State) (c : Nat) (r : Cannon) : (s.setCannon c r).zones = s.zones := rfl
@[simp] theorem State.setCannon_disp (s : State) (c : Nat) (r : Cannon) : (s.setCannon c r).disp = s.disp := rfl
@[simp] theorem State.setCannon_line_state (s : State) (c : Nat) (r : Cannon) : (s.setCannon c r).line.state = s.line.state := rfl
@[simp] theorem State.setCannon_line_transaction (s : State) (c : Nat) (r : Cannon) : (s.setCannon c r).line.transaction = s.line.transaction := rfl
@[simp] theorem State.setCannon_line_allStopDue (s : State) (c : Nat) (r : Cannon) : (s.setCannon c r).line.allStopDue = s.line.allStopDue := rfl
@[simp] theorem State.setCannon_line_lastPolled (s : State) (c : Nat) (r : Cannon) : (s.setCannon c r).line.lastPolled = s.line.lastPolled := rfl
@[simp] theorem State.setCannon_line_lastPinged (s : State) (c : Nat) (r : Cannon) : (s.setCannon c r).line.lastPinged = s.line.lastPinged := rfl
@[simp] theorem State.setCannon_line_heldSerial (s : State) (c : Nat) (r : Cannon) : (s.setCannon c r).line.heldSerial = s.line.heldSerial := rfl
@[simp] theorem State.setCannon_recs (s : State) (c : Nat) (r : Cannon) : (s.setCannon c r).recs = s.recs := rfl
@[simp] theorem State.setCannon_ctrl (s : State) (c : Nat) (r : Cannon) : (s.setCannon c r).ctrl = s.ctrl := rfl
@[simp] theorem State.setCannon_store (s : State) (c : Nat) (r : Cannon) : (s.setCannon c r).store = s.store := rfl
@[simp] theorem State.setCannon_freeCount (s : State) (c : Nat) (r : Cannon) : (s.setCannon c r).freeCount = s.freeCount := rfl
@[simp] theorem State.setCannon_pending (s : State) (c : Nat) (r : Cannon) : (s.setCannon c r).pending = s.pending := rfl
@[simp] theorem State.setCannon_cannons (s : State) (c : Nat) (r : Cannon) : (s.setCannon c r).line.cannons = setNth s.line.cannons c r := rfl

@[simp] theorem State.setChannel_osc (s : State) (ch : Nat) (r : Channel) : (s.setChannel ch r).osc = s.osc := rfl
@[simp] theorem State.setChannel_conf (s : State) (ch : Nat) (r : Channel) : (s.setChannel ch r).conf = s.conf := rfl
@[simp] theorem State.setChannel_evalDue (s : State) (ch : Nat) (r : Channel) : (s.setChannel ch r).evalDue = s.evalDue := rfl
@[simp] theorem State.setChannel_port (s : State) (ch : Nat) (r : Channel) : (s.setChannel ch r).port = s.port := rfl
@[simp] theorem State.setChannel_meas_mastA (s : State) (ch : Nat) (r : Channel) : (s.setChannel ch r).meas.mastA = s.meas.mastA := rfl
@[simp] theorem State.setChannel_meas_mastB (s : State) (ch : Nat) (r : Channel) : (s.setChannel ch r).meas.mastB = s.meas.mastB := rfl
@[simp] theorem State.setChannel_meas_basis (s : State) (ch : Nat) (r : Channel) : (s.setChannel ch r).meas.basis = s.meas.basis := rfl
@[simp] theorem State.setChannel_meas_ring (s : State) (ch : Nat) (r : Channel) : (s.setChannel ch r).meas.ring = s.meas.ring := rfl
@[simp] theorem State.setChannel_meas_live (s : State) (ch : Nat) (r : Channel) : (s.setChannel ch r).meas.live = s.meas.live := rfl
@[simp] theorem State.setChannel_meas_secondDue (s : State) (ch : Nat) (r : Channel) : (s.setChannel ch r).meas.secondDue = s.meas.secondDue := rfl
@[simp] theorem State.setChannel_forecast (s : State) (ch : Nat) (r : Channel) : (s.setChannel ch r).forecast = s.forecast := rfl
@[simp] theorem State.setChannel_beds (s : State) (ch : Nat) (r : Channel) : (s.setChannel ch r).beds = s.beds := rfl
@[simp] theorem State.setChannel_water (s : State) (ch : Nat) (r : Channel) : (s.setChannel ch r).water = s.water := rfl
@[simp] theorem State.setChannel_zones (s : State) (ch : Nat) (r : Channel) : (s.setChannel ch r).zones = s.zones := rfl
@[simp] theorem State.setChannel_disp (s : State) (ch : Nat) (r : Channel) : (s.setChannel ch r).disp = s.disp := rfl
@[simp] theorem State.setChannel_line (s : State) (ch : Nat) (r : Channel) : (s.setChannel ch r).line = s.line := rfl
@[simp] theorem State.setChannel_recs (s : State) (ch : Nat) (r : Channel) : (s.setChannel ch r).recs = s.recs := rfl
@[simp] theorem State.setChannel_ctrl (s : State) (ch : Nat) (r : Channel) : (s.setChannel ch r).ctrl = s.ctrl := rfl
@[simp] theorem State.setChannel_store (s : State) (ch : Nat) (r : Channel) : (s.setChannel ch r).store = s.store := rfl
@[simp] theorem State.setChannel_freeCount (s : State) (ch : Nat) (r : Channel) : (s.setChannel ch r).freeCount = s.freeCount := rfl
@[simp] theorem State.setChannel_pending (s : State) (ch : Nat) (r : Channel) : (s.setChannel ch r).pending = s.pending := rfl
@[simp] theorem State.setChannel_channels (s : State) (ch : Nat) (r : Channel) : (s.setChannel ch r).meas.channels = setNth s.meas.channels ch r := rfl

@[simp] theorem State.putOrder_osc (s : State) (o : Order) : (s.putOrder o).osc = s.osc := rfl
@[simp] theorem State.putOrder_conf (s : State) (o : Order) : (s.putOrder o).conf = s.conf := rfl
@[simp] theorem State.putOrder_evalDue (s : State) (o : Order) : (s.putOrder o).evalDue = s.evalDue := rfl
@[simp] theorem State.putOrder_port (s : State) (o : Order) : (s.putOrder o).port = s.port := rfl
@[simp] theorem State.putOrder_meas (s : State) (o : Order) : (s.putOrder o).meas = s.meas := rfl
@[simp] theorem State.putOrder_forecast (s : State) (o : Order) : (s.putOrder o).forecast = s.forecast := rfl
@[simp] theorem State.putOrder_beds (s : State) (o : Order) : (s.putOrder o).beds = s.beds := rfl
@[simp] theorem State.putOrder_water (s : State) (o : Order) : (s.putOrder o).water = s.water := rfl
@[simp] theorem State.putOrder_zones (s : State) (o : Order) : (s.putOrder o).zones = s.zones := rfl
@[simp] theorem State.putOrder_disp_nextId (s : State) (o : Order) : (s.putOrder o).disp.nextId = s.disp.nextId := rfl
@[simp] theorem State.putOrder_disp_grantSequence (s : State) (o : Order) : (s.putOrder o).disp.grantSequence = s.disp.grantSequence := rfl
@[simp] theorem State.putOrder_disp_attempt (s : State) (o : Order) : (s.putOrder o).disp.attempt = s.disp.attempt := rfl
@[simp] theorem State.putOrder_disp_pending (s : State) (o : Order) : (s.putOrder o).disp.pending = s.disp.pending := rfl
@[simp] theorem State.putOrder_disp_serial (s : State) (o : Order) : (s.putOrder o).disp.serial = s.disp.serial := rfl
@[simp] theorem State.putOrder_line (s : State) (o : Order) : (s.putOrder o).line = s.line := rfl
@[simp] theorem State.putOrder_recs (s : State) (o : Order) : (s.putOrder o).recs = s.recs := rfl
@[simp] theorem State.putOrder_ctrl (s : State) (o : Order) : (s.putOrder o).ctrl = s.ctrl := rfl
@[simp] theorem State.putOrder_store (s : State) (o : Order) : (s.putOrder o).store = s.store := rfl
@[simp] theorem State.putOrder_freeCount (s : State) (o : Order) : (s.putOrder o).freeCount = s.freeCount := rfl
@[simp] theorem State.putOrder_pending (s : State) (o : Order) : (s.putOrder o).pending = s.pending := rfl
@[simp] theorem State.putOrder_orders (s : State) (o : Order) : (s.putOrder o).disp.orders = insertOrder o (ordersWithout o.bed s.disp.orders) := rfl

@[simp] theorem State.cause_osc (s : State)  : (s.cause).osc = s.osc := rfl
@[simp] theorem State.cause_conf (s : State)  : (s.cause).conf = s.conf := rfl
@[simp] theorem State.cause_evalDue (s : State)  : (s.cause).evalDue = s.evalDue := rfl
@[simp] theorem State.cause_port (s : State)  : (s.cause).port = s.port := rfl
@[simp] theorem State.cause_meas (s : State)  : (s.cause).meas = s.meas := rfl
@[simp] theorem State.cause_forecast (s : State)  : (s.cause).forecast = s.forecast := rfl
@[simp] theorem State.cause_beds (s : State)  : (s.cause).beds = s.beds := rfl
@[simp] theorem State.cause_water (s : State)  : (s.cause).water = s.water := rfl
@[simp] theorem State.cause_zones (s : State)  : (s.cause).zones = s.zones := rfl
@[simp] theorem State.cause_disp_orders (s : State)  : (s.cause).disp.orders = s.disp.orders := rfl
@[simp] theorem State.cause_disp_nextId (s : State)  : (s.cause).disp.nextId = s.disp.nextId := rfl
@[simp] theorem State.cause_disp_grantSequence (s : State)  : (s.cause).disp.grantSequence = s.disp.grantSequence := rfl
@[simp] theorem State.cause_disp_pending (s : State)  : (s.cause).disp.pending = s.disp.pending := rfl
@[simp] theorem State.cause_disp_serial (s : State)  : (s.cause).disp.serial = s.disp.serial := rfl
@[simp] theorem State.cause_line (s : State)  : (s.cause).line = s.line := rfl
@[simp] theorem State.cause_recs (s : State)  : (s.cause).recs = s.recs := rfl
@[simp] theorem State.cause_ctrl (s : State)  : (s.cause).ctrl = s.ctrl := rfl
@[simp] theorem State.cause_store (s : State)  : (s.cause).store = s.store := rfl
@[simp] theorem State.cause_freeCount (s : State)  : (s.cause).freeCount = s.freeCount := rfl
@[simp] theorem State.cause_pending (s : State)  : (s.cause).pending = s.pending := rfl
@[simp] theorem State.cause_attempt (s : State)  : s.cause.disp.attempt = true := rfl

@[simp] theorem State.join_osc (s : State) (f : Frame) : (s.join f).osc = s.osc := rfl
@[simp] theorem State.join_conf (s : State) (f : Frame) : (s.join f).conf = s.conf := rfl
@[simp] theorem State.join_evalDue (s : State) (f : Frame) : (s.join f).evalDue = s.evalDue := rfl
@[simp] theorem State.join_port_urgent (s : State) (f : Frame) : (s.join f).port.urgent = s.port.urgent := rfl
@[simp] theorem State.join_port_routine (s : State) (f : Frame) : (s.join f).port.routine = s.port.routine := rfl
@[simp] theorem State.join_port_long (s : State) (f : Frame) : (s.join f).port.long = s.port.long := rfl
@[simp] theorem State.join_port_bus (s : State) (f : Frame) : (s.join f).port.bus = s.port.bus := rfl
@[simp] theorem State.join_port_sent (s : State) (f : Frame) : (s.join f).port.sent = s.port.sent := rfl
@[simp] theorem State.join_meas (s : State) (f : Frame) : (s.join f).meas = s.meas := rfl
@[simp] theorem State.join_forecast (s : State) (f : Frame) : (s.join f).forecast = s.forecast := rfl
@[simp] theorem State.join_beds (s : State) (f : Frame) : (s.join f).beds = s.beds := rfl
@[simp] theorem State.join_water (s : State) (f : Frame) : (s.join f).water = s.water := rfl
@[simp] theorem State.join_zones (s : State) (f : Frame) : (s.join f).zones = s.zones := rfl
@[simp] theorem State.join_disp (s : State) (f : Frame) : (s.join f).disp = s.disp := rfl
@[simp] theorem State.join_line (s : State) (f : Frame) : (s.join f).line = s.line := rfl
@[simp] theorem State.join_recs (s : State) (f : Frame) : (s.join f).recs = s.recs := rfl
@[simp] theorem State.join_ctrl (s : State) (f : Frame) : (s.join f).ctrl = s.ctrl := rfl
@[simp] theorem State.join_store (s : State) (f : Frame) : (s.join f).store = s.store := rfl
@[simp] theorem State.join_freeCount (s : State) (f : Frame) : (s.join f).freeCount = s.freeCount := rfl
@[simp] theorem State.join_pending (s : State) (f : Frame) : (s.join f).pending = s.pending := rfl
@[simp] theorem State.join_outbound (s : State) (f : Frame) : (s.join f).port.outbound = s.port.outbound ++ [f] := rfl

@[simp] theorem State.reply_osc (s : State) (node : Node) (code : Nat) (r : Result) (d : List Byte) : (s.reply node code r d).osc = s.osc := rfl
@[simp] theorem State.reply_conf (s : State) (node : Node) (code : Nat) (r : Result) (d : List Byte) : (s.reply node code r d).conf = s.conf := rfl
@[simp] theorem State.reply_evalDue (s : State) (node : Node) (code : Nat) (r : Result) (d : List Byte) : (s.reply node code r d).evalDue = s.evalDue := rfl
@[simp] theorem State.reply_port_urgent (s : State) (node : Node) (code : Nat) (r : Result) (d : List Byte) : (s.reply node code r d).port.urgent = s.port.urgent := rfl
@[simp] theorem State.reply_port_routine (s : State) (node : Node) (code : Nat) (r : Result) (d : List Byte) : (s.reply node code r d).port.routine = s.port.routine := rfl
@[simp] theorem State.reply_port_long (s : State) (node : Node) (code : Nat) (r : Result) (d : List Byte) : (s.reply node code r d).port.long = s.port.long := rfl
@[simp] theorem State.reply_port_bus (s : State) (node : Node) (code : Nat) (r : Result) (d : List Byte) : (s.reply node code r d).port.bus = s.port.bus := rfl
@[simp] theorem State.reply_port_sent (s : State) (node : Node) (code : Nat) (r : Result) (d : List Byte) : (s.reply node code r d).port.sent = s.port.sent := rfl
@[simp] theorem State.reply_meas (s : State) (node : Node) (code : Nat) (r : Result) (d : List Byte) : (s.reply node code r d).meas = s.meas := rfl
@[simp] theorem State.reply_forecast (s : State) (node : Node) (code : Nat) (r : Result) (d : List Byte) : (s.reply node code r d).forecast = s.forecast := rfl
@[simp] theorem State.reply_beds (s : State) (node : Node) (code : Nat) (r : Result) (d : List Byte) : (s.reply node code r d).beds = s.beds := rfl
@[simp] theorem State.reply_water (s : State) (node : Node) (code : Nat) (r : Result) (d : List Byte) : (s.reply node code r d).water = s.water := rfl
@[simp] theorem State.reply_zones (s : State) (node : Node) (code : Nat) (r : Result) (d : List Byte) : (s.reply node code r d).zones = s.zones := rfl
@[simp] theorem State.reply_disp (s : State) (node : Node) (code : Nat) (r : Result) (d : List Byte) : (s.reply node code r d).disp = s.disp := rfl
@[simp] theorem State.reply_line (s : State) (node : Node) (code : Nat) (r : Result) (d : List Byte) : (s.reply node code r d).line = s.line := rfl
@[simp] theorem State.reply_recs (s : State) (node : Node) (code : Nat) (r : Result) (d : List Byte) : (s.reply node code r d).recs = s.recs := rfl
@[simp] theorem State.reply_ctrl (s : State) (node : Node) (code : Nat) (r : Result) (d : List Byte) : (s.reply node code r d).ctrl = s.ctrl := rfl
@[simp] theorem State.reply_store (s : State) (node : Node) (code : Nat) (r : Result) (d : List Byte) : (s.reply node code r d).store = s.store := rfl
@[simp] theorem State.reply_freeCount (s : State) (node : Node) (code : Nat) (r : Result) (d : List Byte) : (s.reply node code r d).freeCount = s.freeCount := rfl
@[simp] theorem State.reply_pending (s : State) (node : Node) (code : Nat) (r : Result) (d : List Byte) : (s.reply node code r d).pending = s.pending := rfl
@[simp] theorem State.reply_outbound (s : State) (node : Node) (code : Nat) (r : Result) (d : List Byte) : (s.reply node code r d).port.outbound = s.port.outbound ++ [.reply node code r d] := rfl

@[simp] theorem State.notice_osc (s : State) (k : NoticeKind) (d : List Byte) : (s.notice k d).osc = s.osc := rfl
@[simp] theorem State.notice_conf (s : State) (k : NoticeKind) (d : List Byte) : (s.notice k d).conf = s.conf := rfl
@[simp] theorem State.notice_evalDue (s : State) (k : NoticeKind) (d : List Byte) : (s.notice k d).evalDue = s.evalDue := rfl
@[simp] theorem State.notice_port_urgent (s : State) (k : NoticeKind) (d : List Byte) : (s.notice k d).port.urgent = s.port.urgent := rfl
@[simp] theorem State.notice_port_routine (s : State) (k : NoticeKind) (d : List Byte) : (s.notice k d).port.routine = s.port.routine := rfl
@[simp] theorem State.notice_port_long (s : State) (k : NoticeKind) (d : List Byte) : (s.notice k d).port.long = s.port.long := rfl
@[simp] theorem State.notice_port_bus (s : State) (k : NoticeKind) (d : List Byte) : (s.notice k d).port.bus = s.port.bus := rfl
@[simp] theorem State.notice_port_sent (s : State) (k : NoticeKind) (d : List Byte) : (s.notice k d).port.sent = s.port.sent := rfl
@[simp] theorem State.notice_meas (s : State) (k : NoticeKind) (d : List Byte) : (s.notice k d).meas = s.meas := rfl
@[simp] theorem State.notice_forecast (s : State) (k : NoticeKind) (d : List Byte) : (s.notice k d).forecast = s.forecast := rfl
@[simp] theorem State.notice_beds (s : State) (k : NoticeKind) (d : List Byte) : (s.notice k d).beds = s.beds := rfl
@[simp] theorem State.notice_water (s : State) (k : NoticeKind) (d : List Byte) : (s.notice k d).water = s.water := rfl
@[simp] theorem State.notice_zones (s : State) (k : NoticeKind) (d : List Byte) : (s.notice k d).zones = s.zones := rfl
@[simp] theorem State.notice_disp (s : State) (k : NoticeKind) (d : List Byte) : (s.notice k d).disp = s.disp := rfl
@[simp] theorem State.notice_line (s : State) (k : NoticeKind) (d : List Byte) : (s.notice k d).line = s.line := rfl
@[simp] theorem State.notice_recs (s : State) (k : NoticeKind) (d : List Byte) : (s.notice k d).recs = s.recs := rfl
@[simp] theorem State.notice_ctrl (s : State) (k : NoticeKind) (d : List Byte) : (s.notice k d).ctrl = s.ctrl := rfl
@[simp] theorem State.notice_store (s : State) (k : NoticeKind) (d : List Byte) : (s.notice k d).store = s.store := rfl
@[simp] theorem State.notice_freeCount (s : State) (k : NoticeKind) (d : List Byte) : (s.notice k d).freeCount = s.freeCount := rfl
@[simp] theorem State.notice_pending (s : State) (k : NoticeKind) (d : List Byte) : (s.notice k d).pending = s.pending := rfl
@[simp] theorem State.notice_outbound (s : State) (k : NoticeKind) (d : List Byte) : (s.notice k d).port.outbound = s.port.outbound ++ [.notice (s.classes k) k d] := rfl

@[simp] theorem State.setFlag_osc (s : State) (f : Flag) : (s.setFlag f).osc = s.osc := rfl
@[simp] theorem State.setFlag_conf (s : State) (f : Flag) : (s.setFlag f).conf = s.conf := rfl
@[simp] theorem State.setFlag_evalDue (s : State) (f : Flag) : (s.setFlag f).evalDue = s.evalDue := rfl
@[simp] theorem State.setFlag_port (s : State) (f : Flag) : (s.setFlag f).port = s.port := rfl
@[simp] theorem State.setFlag_meas (s : State) (f : Flag) : (s.setFlag f).meas = s.meas := rfl
@[simp] theorem State.setFlag_forecast (s : State) (f : Flag) : (s.setFlag f).forecast = s.forecast := rfl
@[simp] theorem State.setFlag_beds (s : State) (f : Flag) : (s.setFlag f).beds = s.beds := rfl
@[simp] theorem State.setFlag_water (s : State) (f : Flag) : (s.setFlag f).water = s.water := rfl
@[simp] theorem State.setFlag_zones (s : State) (f : Flag) : (s.setFlag f).zones = s.zones := rfl
@[simp] theorem State.setFlag_disp (s : State) (f : Flag) : (s.setFlag f).disp = s.disp := rfl
@[simp] theorem State.setFlag_line (s : State) (f : Flag) : (s.setFlag f).line = s.line := rfl
@[simp] theorem State.setFlag_recs (s : State) (f : Flag) : (s.setFlag f).recs = s.recs := rfl
@[simp] theorem State.setFlag_ctrl_mode (s : State) (f : Flag) : (s.setFlag f).ctrl.mode = s.ctrl.mode := rfl
@[simp] theorem State.setFlag_ctrl_operator (s : State) (f : Flag) : (s.setFlag f).ctrl.operator = s.ctrl.operator := rfl
@[simp] theorem State.setFlag_ctrl_freeze (s : State) (f : Flag) : (s.setFlag f).ctrl.freeze = s.ctrl.freeze := rfl
@[simp] theorem State.setFlag_ctrl_modeMark (s : State) (f : Flag) : (s.setFlag f).ctrl.modeMark = s.ctrl.modeMark := rfl
@[simp] theorem State.setFlag_ctrl_drain (s : State) (f : Flag) : (s.setFlag f).ctrl.drain = s.ctrl.drain := rfl
@[simp] theorem State.setFlag_ctrl_seconds (s : State) (f : Flag) : (s.setFlag f).ctrl.seconds = s.ctrl.seconds := rfl
@[simp] theorem State.setFlag_ctrl_day (s : State) (f : Flag) : (s.setFlag f).ctrl.day = s.ctrl.day := rfl
@[simp] theorem State.setFlag_ctrl_yardDue (s : State) (f : Flag) : (s.setFlag f).ctrl.yardDue = s.ctrl.yardDue := rfl
@[simp] theorem State.setFlag_store (s : State) (f : Flag) : (s.setFlag f).store = s.store := rfl
@[simp] theorem State.setFlag_freeCount (s : State) (f : Flag) : (s.setFlag f).freeCount = s.freeCount := rfl
@[simp] theorem State.setFlag_pending (s : State) (f : Flag) : (s.setFlag f).pending = s.pending := rfl
@[simp] theorem State.setFlag_flags (s : State) (f : Flag) : (s.setFlag f).ctrl.flags = s.ctrl.flags ||| f.mask := rfl

@[simp] theorem State.clearTimeUnset_osc (s : State)  : (s.clearTimeUnset).osc = s.osc := rfl
@[simp] theorem State.clearTimeUnset_conf (s : State)  : (s.clearTimeUnset).conf = s.conf := rfl
@[simp] theorem State.clearTimeUnset_evalDue (s : State)  : (s.clearTimeUnset).evalDue = s.evalDue := rfl
@[simp] theorem State.clearTimeUnset_port (s : State)  : (s.clearTimeUnset).port = s.port := rfl
@[simp] theorem State.clearTimeUnset_meas (s : State)  : (s.clearTimeUnset).meas = s.meas := rfl
@[simp] theorem State.clearTimeUnset_forecast (s : State)  : (s.clearTimeUnset).forecast = s.forecast := rfl
@[simp] theorem State.clearTimeUnset_beds (s : State)  : (s.clearTimeUnset).beds = s.beds := rfl
@[simp] theorem State.clearTimeUnset_water (s : State)  : (s.clearTimeUnset).water = s.water := rfl
@[simp] theorem State.clearTimeUnset_zones (s : State)  : (s.clearTimeUnset).zones = s.zones := rfl
@[simp] theorem State.clearTimeUnset_disp (s : State)  : (s.clearTimeUnset).disp = s.disp := rfl
@[simp] theorem State.clearTimeUnset_line (s : State)  : (s.clearTimeUnset).line = s.line := rfl
@[simp] theorem State.clearTimeUnset_recs (s : State)  : (s.clearTimeUnset).recs = s.recs := rfl
@[simp] theorem State.clearTimeUnset_ctrl_mode (s : State)  : (s.clearTimeUnset).ctrl.mode = s.ctrl.mode := rfl
@[simp] theorem State.clearTimeUnset_ctrl_operator (s : State)  : (s.clearTimeUnset).ctrl.operator = s.ctrl.operator := rfl
@[simp] theorem State.clearTimeUnset_ctrl_freeze (s : State)  : (s.clearTimeUnset).ctrl.freeze = s.ctrl.freeze := rfl
@[simp] theorem State.clearTimeUnset_ctrl_modeMark (s : State)  : (s.clearTimeUnset).ctrl.modeMark = s.ctrl.modeMark := rfl
@[simp] theorem State.clearTimeUnset_ctrl_drain (s : State)  : (s.clearTimeUnset).ctrl.drain = s.ctrl.drain := rfl
@[simp] theorem State.clearTimeUnset_ctrl_seconds (s : State)  : (s.clearTimeUnset).ctrl.seconds = s.ctrl.seconds := rfl
@[simp] theorem State.clearTimeUnset_ctrl_day (s : State)  : (s.clearTimeUnset).ctrl.day = s.ctrl.day := rfl
@[simp] theorem State.clearTimeUnset_ctrl_yardDue (s : State)  : (s.clearTimeUnset).ctrl.yardDue = s.ctrl.yardDue := rfl
@[simp] theorem State.clearTimeUnset_store (s : State)  : (s.clearTimeUnset).store = s.store := rfl
@[simp] theorem State.clearTimeUnset_freeCount (s : State)  : (s.clearTimeUnset).freeCount = s.freeCount := rfl
@[simp] theorem State.clearTimeUnset_pending (s : State)  : (s.clearTimeUnset).pending = s.pending := rfl
@[simp] theorem State.clearTimeUnset_flags (s : State)  : s.clearTimeUnset.ctrl.flags = s.ctrl.flags &&& 0xFB#8 := rfl

@[simp] theorem State.setClock_osc (s : State) (d t : Nat) : (s.setClock d t).osc = s.osc := rfl
@[simp] theorem State.setClock_conf (s : State) (d t : Nat) : (s.setClock d t).conf = s.conf := rfl
@[simp] theorem State.setClock_evalDue (s : State) (d t : Nat) : (s.setClock d t).evalDue = s.evalDue := rfl
@[simp] theorem State.setClock_port (s : State) (d t : Nat) : (s.setClock d t).port = s.port := rfl
@[simp] theorem State.setClock_meas (s : State) (d t : Nat) : (s.setClock d t).meas = s.meas := rfl
@[simp] theorem State.setClock_forecast (s : State) (d t : Nat) : (s.setClock d t).forecast = s.forecast := rfl
@[simp] theorem State.setClock_beds (s : State) (d t : Nat) : (s.setClock d t).beds = s.beds := rfl
@[simp] theorem State.setClock_water (s : State) (d t : Nat) : (s.setClock d t).water = s.water := rfl
@[simp] theorem State.setClock_zones (s : State) (d t : Nat) : (s.setClock d t).zones = s.zones := rfl
@[simp] theorem State.setClock_disp (s : State) (d t : Nat) : (s.setClock d t).disp = s.disp := rfl
@[simp] theorem State.setClock_line (s : State) (d t : Nat) : (s.setClock d t).line = s.line := rfl
@[simp] theorem State.setClock_recs (s : State) (d t : Nat) : (s.setClock d t).recs = s.recs := rfl
@[simp] theorem State.setClock_ctrl_mode (s : State) (d t : Nat) : (s.setClock d t).ctrl.mode = s.ctrl.mode := rfl
@[simp] theorem State.setClock_ctrl_operator (s : State) (d t : Nat) : (s.setClock d t).ctrl.operator = s.ctrl.operator := rfl
@[simp] theorem State.setClock_ctrl_freeze (s : State) (d t : Nat) : (s.setClock d t).ctrl.freeze = s.ctrl.freeze := rfl
@[simp] theorem State.setClock_ctrl_flags (s : State) (d t : Nat) : (s.setClock d t).ctrl.flags = s.ctrl.flags := rfl
@[simp] theorem State.setClock_ctrl_modeMark (s : State) (d t : Nat) : (s.setClock d t).ctrl.modeMark = s.ctrl.modeMark := rfl
@[simp] theorem State.setClock_ctrl_drain (s : State) (d t : Nat) : (s.setClock d t).ctrl.drain = s.ctrl.drain := rfl
@[simp] theorem State.setClock_ctrl_yardDue (s : State) (d t : Nat) : (s.setClock d t).ctrl.yardDue = s.ctrl.yardDue := rfl
@[simp] theorem State.setClock_store (s : State) (d t : Nat) : (s.setClock d t).store = s.store := rfl
@[simp] theorem State.setClock_freeCount (s : State) (d t : Nat) : (s.setClock d t).freeCount = s.freeCount := rfl
@[simp] theorem State.setClock_pending (s : State) (d t : Nat) : (s.setClock d t).pending = s.pending := rfl
@[simp] theorem State.setClock_seconds (s : State) (d t : Nat) : (s.setClock d t).ctrl.seconds = t := rfl
@[simp] theorem State.setClock_day (s : State) (d t : Nat) : (s.setClock d t).ctrl.day = d := rfl

@[simp] theorem State.setEntries_osc (s : State) (l : List Claim) : (s.setEntries l).osc = s.osc := rfl
@[simp] theorem State.setEntries_conf (s : State) (l : List Claim) : (s.setEntries l).conf = s.conf := rfl
@[simp] theorem State.setEntries_evalDue (s : State) (l : List Claim) : (s.setEntries l).evalDue = s.evalDue := rfl
@[simp] theorem State.setEntries_port (s : State) (l : List Claim) : (s.setEntries l).port = s.port := rfl
@[simp] theorem State.setEntries_meas (s : State) (l : List Claim) : (s.setEntries l).meas = s.meas := rfl
@[simp] theorem State.setEntries_forecast (s : State) (l : List Claim) : (s.setEntries l).forecast = s.forecast := rfl
@[simp] theorem State.setEntries_beds (s : State) (l : List Claim) : (s.setEntries l).beds = s.beds := rfl
@[simp] theorem State.setEntries_water (s : State) (l : List Claim) : (s.setEntries l).water = s.water := rfl
@[simp] theorem State.setEntries_zones_pending (s : State) (l : List Claim) : (s.setEntries l).zones.pending = s.zones.pending := rfl
@[simp] theorem State.setEntries_disp (s : State) (l : List Claim) : (s.setEntries l).disp = s.disp := rfl
@[simp] theorem State.setEntries_line (s : State) (l : List Claim) : (s.setEntries l).line = s.line := rfl
@[simp] theorem State.setEntries_recs (s : State) (l : List Claim) : (s.setEntries l).recs = s.recs := rfl
@[simp] theorem State.setEntries_ctrl (s : State) (l : List Claim) : (s.setEntries l).ctrl = s.ctrl := rfl
@[simp] theorem State.setEntries_store (s : State) (l : List Claim) : (s.setEntries l).store = s.store := rfl
@[simp] theorem State.setEntries_freeCount (s : State) (l : List Claim) : (s.setEntries l).freeCount = s.freeCount := rfl
@[simp] theorem State.setEntries_pending (s : State) (l : List Claim) : (s.setEntries l).pending = s.pending := rfl
@[simp] theorem State.setEntries_entries (s : State) (l : List Claim) : (s.setEntries l).zones.entries = l := rfl

@[simp] theorem State.place_osc (s : State) (c : Nat) (k : LineCommand) : (s.place c k).osc = s.osc := rfl
@[simp] theorem State.place_conf (s : State) (c : Nat) (k : LineCommand) : (s.place c k).conf = s.conf := rfl
@[simp] theorem State.place_evalDue (s : State) (c : Nat) (k : LineCommand) : (s.place c k).evalDue = s.evalDue := rfl
@[simp] theorem State.place_port (s : State) (c : Nat) (k : LineCommand) : (s.place c k).port = s.port := rfl
@[simp] theorem State.place_meas (s : State) (c : Nat) (k : LineCommand) : (s.place c k).meas = s.meas := rfl
@[simp] theorem State.place_forecast (s : State) (c : Nat) (k : LineCommand) : (s.place c k).forecast = s.forecast := rfl
@[simp] theorem State.place_beds (s : State) (c : Nat) (k : LineCommand) : (s.place c k).beds = s.beds := rfl
@[simp] theorem State.place_water (s : State) (c : Nat) (k : LineCommand) : (s.place c k).water = s.water := rfl
@[simp] theorem State.place_zones (s : State) (c : Nat) (k : LineCommand) : (s.place c k).zones = s.zones := rfl
@[simp] theorem State.place_disp (s : State) (c : Nat) (k : LineCommand) : (s.place c k).disp = s.disp := rfl
@[simp] theorem State.place_line_state (s : State) (c : Nat) (k : LineCommand) : (s.place c k).line.state = s.line.state := rfl
@[simp] theorem State.place_line_transaction (s : State) (c : Nat) (k : LineCommand) : (s.place c k).line.transaction = s.line.transaction := rfl
@[simp] theorem State.place_line_allStopDue (s : State) (c : Nat) (k : LineCommand) : (s.place c k).line.allStopDue = s.line.allStopDue := rfl
@[simp] theorem State.place_line_lastPolled (s : State) (c : Nat) (k : LineCommand) : (s.place c k).line.lastPolled = s.line.lastPolled := rfl
@[simp] theorem State.place_line_lastPinged (s : State) (c : Nat) (k : LineCommand) : (s.place c k).line.lastPinged = s.line.lastPinged := rfl
@[simp] theorem State.place_recs (s : State) (c : Nat) (k : LineCommand) : (s.place c k).recs = s.recs := rfl
@[simp] theorem State.place_ctrl (s : State) (c : Nat) (k : LineCommand) : (s.place c k).ctrl = s.ctrl := rfl
@[simp] theorem State.place_store (s : State) (c : Nat) (k : LineCommand) : (s.place c k).store = s.store := rfl
@[simp] theorem State.place_freeCount (s : State) (c : Nat) (k : LineCommand) : (s.place c k).freeCount = s.freeCount := rfl
@[simp] theorem State.place_pending (s : State) (c : Nat) (k : LineCommand) : (s.place c k).pending = s.pending := rfl
@[simp] theorem State.place_cannons (s : State) (c : Nat) (k : LineCommand) : (s.place c k).line.cannons = setNth s.line.cannons c { s.cannon c with held := some ⟨k, s.line.heldSerial⟩ } := rfl
@[simp] theorem State.place_heldSerial (s : State) (c : Nat) (k : LineCommand) : (s.place c k).line.heldSerial = s.line.heldSerial + 1 := rfl

@[simp] theorem State.setSource_osc (s : State) (w : WaterSource) (r : Source) : (s.setSource w r).osc = s.osc := by
  cases w <;> rfl
@[simp] theorem State.setSource_conf (s : State) (w : WaterSource) (r : Source) : (s.setSource w r).conf = s.conf := by
  cases w <;> rfl
@[simp] theorem State.setSource_evalDue (s : State) (w : WaterSource) (r : Source) : (s.setSource w r).evalDue = s.evalDue := by
  cases w <;> rfl
@[simp] theorem State.setSource_port (s : State) (w : WaterSource) (r : Source) : (s.setSource w r).port = s.port := by
  cases w <;> rfl
@[simp] theorem State.setSource_meas (s : State) (w : WaterSource) (r : Source) : (s.setSource w r).meas = s.meas := by
  cases w <;> rfl
@[simp] theorem State.setSource_forecast (s : State) (w : WaterSource) (r : Source) : (s.setSource w r).forecast = s.forecast := by
  cases w <;> rfl
@[simp] theorem State.setSource_beds (s : State) (w : WaterSource) (r : Source) : (s.setSource w r).beds = s.beds := by
  cases w <;> rfl
@[simp] theorem State.setSource_water_gate (s : State) (w : WaterSource) (r : Source) : (s.setSource w r).water.gate = s.water.gate := by
  cases w <;> rfl
@[simp] theorem State.setSource_water_turbidity (s : State) (w : WaterSource) (r : Source) : (s.setSource w r).water.turbidity = s.water.turbidity := by
  cases w <;> rfl
@[simp] theorem State.setSource_water_freshToday (s : State) (w : WaterSource) (r : Source) : (s.setSource w r).water.freshToday = s.water.freshToday := by
  cases w <;> rfl
@[simp] theorem State.setSource_water_usageDue (s : State) (w : WaterSource) (r : Source) : (s.setSource w r).water.usageDue = s.water.usageDue := by
  cases w <;> rfl
@[simp] theorem State.setSource_water_demandMark (s : State) (w : WaterSource) (r : Source) : (s.setSource w r).water.demandMark = s.water.demandMark := by
  cases w <;> rfl
@[simp] theorem State.setSource_water_pumps (s : State) (w : WaterSource) (r : Source) : (s.setSource w r).water.pumps = s.water.pumps := by
  cases w <;> rfl
@[simp] theorem State.setSource_water_flowLimit (s : State) (w : WaterSource) (r : Source) : (s.setSource w r).water.flowLimit = s.water.flowLimit := by
  cases w <;> rfl
@[simp] theorem State.setSource_water_slotCapacity (s : State) (w : WaterSource) (r : Source) : (s.setSource w r).water.slotCapacity = s.water.slotCapacity := by
  cases w <;> rfl
@[simp] theorem State.setSource_water_flowCapacity (s : State) (w : WaterSource) (r : Source) : (s.setSource w r).water.flowCapacity = s.water.flowCapacity := by
  cases w <;> rfl
@[simp] theorem State.setSource_zones (s : State) (w : WaterSource) (r : Source) : (s.setSource w r).zones = s.zones := by
  cases w <;> rfl
@[simp] theorem State.setSource_disp (s : State) (w : WaterSource) (r : Source) : (s.setSource w r).disp = s.disp := by
  cases w <;> rfl
@[simp] theorem State.setSource_line (s : State) (w : WaterSource) (r : Source) : (s.setSource w r).line = s.line := by
  cases w <;> rfl
@[simp] theorem State.setSource_recs (s : State) (w : WaterSource) (r : Source) : (s.setSource w r).recs = s.recs := by
  cases w <;> rfl
@[simp] theorem State.setSource_ctrl (s : State) (w : WaterSource) (r : Source) : (s.setSource w r).ctrl = s.ctrl := by
  cases w <;> rfl
@[simp] theorem State.setSource_store (s : State) (w : WaterSource) (r : Source) : (s.setSource w r).store = s.store := by
  cases w <;> rfl
@[simp] theorem State.setSource_freeCount (s : State) (w : WaterSource) (r : Source) : (s.setSource w r).freeCount = s.freeCount := by
  cases w <;> rfl
@[simp] theorem State.setSource_pending (s : State) (w : WaterSource) (r : Source) : (s.setSource w r).pending = s.pending := by
  cases w <;> rfl

@[simp] theorem State.source_setSource (s : State) (w : WaterSource) (r : Source) : (s.setSource w r).source w = r := by
  cases w <;> rfl

theorem State.source_setSource_ne (s : State) {w v : WaterSource} (r : Source) (h : v ≠ w) :
    (s.setSource w r).source v = s.source v := by
  cases w <;> cases v <;> first | rfl | exact absurd rfl h

@[simp] theorem State.takeRequest_osc (s : State)  : (s.takeRequest).osc = s.osc := by
  unfold State.takeRequest; split <;> rfl
@[simp] theorem State.takeRequest_conf (s : State)  : (s.takeRequest).conf = s.conf := by
  unfold State.takeRequest; split <;> rfl
@[simp] theorem State.takeRequest_evalDue (s : State)  : (s.takeRequest).evalDue = s.evalDue := by
  unfold State.takeRequest; split <;> rfl
@[simp] theorem State.takeRequest_port_outbound (s : State)  : (s.takeRequest).port.outbound = s.port.outbound := by
  unfold State.takeRequest; split <;> rfl
@[simp] theorem State.takeRequest_port_long (s : State)  : (s.takeRequest).port.long = s.port.long := by
  unfold State.takeRequest; split <;> rfl
@[simp] theorem State.takeRequest_port_bus (s : State)  : (s.takeRequest).port.bus = s.port.bus := by
  unfold State.takeRequest; split <;> rfl
@[simp] theorem State.takeRequest_port_sent (s : State)  : (s.takeRequest).port.sent = s.port.sent := by
  unfold State.takeRequest; split <;> rfl
@[simp] theorem State.takeRequest_meas (s : State)  : (s.takeRequest).meas = s.meas := by
  unfold State.takeRequest; split <;> rfl
@[simp] theorem State.takeRequest_forecast (s : State)  : (s.takeRequest).forecast = s.forecast := by
  unfold State.takeRequest; split <;> rfl
@[simp] theorem State.takeRequest_beds (s : State)  : (s.takeRequest).beds = s.beds := by
  unfold State.takeRequest; split <;> rfl
@[simp] theorem State.takeRequest_water (s : State)  : (s.takeRequest).water = s.water := by
  unfold State.takeRequest; split <;> rfl
@[simp] theorem State.takeRequest_zones (s : State)  : (s.takeRequest).zones = s.zones := by
  unfold State.takeRequest; split <;> rfl
@[simp] theorem State.takeRequest_disp (s : State)  : (s.takeRequest).disp = s.disp := by
  unfold State.takeRequest; split <;> rfl
@[simp] theorem State.takeRequest_line (s : State)  : (s.takeRequest).line = s.line := by
  unfold State.takeRequest; split <;> rfl
@[simp] theorem State.takeRequest_recs (s : State)  : (s.takeRequest).recs = s.recs := by
  unfold State.takeRequest; split <;> rfl
@[simp] theorem State.takeRequest_ctrl (s : State)  : (s.takeRequest).ctrl = s.ctrl := by
  unfold State.takeRequest; split <;> rfl
@[simp] theorem State.takeRequest_store (s : State)  : (s.takeRequest).store = s.store := by
  unfold State.takeRequest; split <;> rfl
@[simp] theorem State.takeRequest_freeCount (s : State)  : (s.takeRequest).freeCount = s.freeCount := by
  unfold State.takeRequest; split <;> rfl
@[simp] theorem State.takeRequest_pending (s : State)  : (s.takeRequest).pending = s.pending := by
  unfold State.takeRequest; split <;> rfl

@[simp] theorem State.setMast_osc (s : State) (m : MastId) (r : Mast) : (s.setMast m r).osc = s.osc := by
  cases m <;> rfl
@[simp] theorem State.setMast_conf (s : State) (m : MastId) (r : Mast) : (s.setMast m r).conf = s.conf := by
  cases m <;> rfl
@[simp] theorem State.setMast_evalDue (s : State) (m : MastId) (r : Mast) : (s.setMast m r).evalDue = s.evalDue := by
  cases m <;> rfl
@[simp] theorem State.setMast_port (s : State) (m : MastId) (r : Mast) : (s.setMast m r).port = s.port := by
  cases m <;> rfl
@[simp] theorem State.setMast_meas_basis (s : State) (m : MastId) (r : Mast) : (s.setMast m r).meas.basis = s.meas.basis := by
  cases m <;> rfl
@[simp] theorem State.setMast_meas_ring (s : State) (m : MastId) (r : Mast) : (s.setMast m r).meas.ring = s.meas.ring := by
  cases m <;> rfl
@[simp] theorem State.setMast_meas_live (s : State) (m : MastId) (r : Mast) : (s.setMast m r).meas.live = s.meas.live := by
  cases m <;> rfl
@[simp] theorem State.setMast_meas_secondDue (s : State) (m : MastId) (r : Mast) : (s.setMast m r).meas.secondDue = s.meas.secondDue := by
  cases m <;> rfl
@[simp] theorem State.setMast_meas_channels (s : State) (m : MastId) (r : Mast) : (s.setMast m r).meas.channels = s.meas.channels := by
  cases m <;> rfl
@[simp] theorem State.setMast_forecast (s : State) (m : MastId) (r : Mast) : (s.setMast m r).forecast = s.forecast := by
  cases m <;> rfl
@[simp] theorem State.setMast_beds (s : State) (m : MastId) (r : Mast) : (s.setMast m r).beds = s.beds := by
  cases m <;> rfl
@[simp] theorem State.setMast_water (s : State) (m : MastId) (r : Mast) : (s.setMast m r).water = s.water := by
  cases m <;> rfl
@[simp] theorem State.setMast_zones (s : State) (m : MastId) (r : Mast) : (s.setMast m r).zones = s.zones := by
  cases m <;> rfl
@[simp] theorem State.setMast_disp (s : State) (m : MastId) (r : Mast) : (s.setMast m r).disp = s.disp := by
  cases m <;> rfl
@[simp] theorem State.setMast_line (s : State) (m : MastId) (r : Mast) : (s.setMast m r).line = s.line := by
  cases m <;> rfl
@[simp] theorem State.setMast_recs (s : State) (m : MastId) (r : Mast) : (s.setMast m r).recs = s.recs := by
  cases m <;> rfl
@[simp] theorem State.setMast_ctrl (s : State) (m : MastId) (r : Mast) : (s.setMast m r).ctrl = s.ctrl := by
  cases m <;> rfl
@[simp] theorem State.setMast_store (s : State) (m : MastId) (r : Mast) : (s.setMast m r).store = s.store := by
  cases m <;> rfl
@[simp] theorem State.setMast_freeCount (s : State) (m : MastId) (r : Mast) : (s.setMast m r).freeCount = s.freeCount := by
  cases m <;> rfl
@[simp] theorem State.setMast_pending (s : State) (m : MastId) (r : Mast) : (s.setMast m r).pending = s.pending := by
  cases m <;> rfl

end Sys2Proof.Machine
end

