-- ==== Sys2Proof/Laws/Frames.lean ====
section
/-! SUPPORT. Frames: what each shared operation can reach, said once. Each relation names the fields it leaves as they
were; each lemma is a set of rewrite rules, one per field. -/

namespace Sys2Proof.Machine

set_option linter.unusedTactic false
set_option linter.unnecessarySeqFocus false

/-- At most the outbound queue differ. -/
abbrev OutboundFrame (s t : State) : Prop :=
    t.osc = s.osc ∧
    t.conf = s.conf ∧
    t.evalDue = s.evalDue ∧
    t.port.urgent = s.port.urgent ∧
    t.port.routine = s.port.routine ∧
    t.port.long = s.port.long ∧
    t.port.bus = s.port.bus ∧
    t.port.sent = s.port.sent ∧
    t.meas = s.meas ∧
    t.forecast = s.forecast ∧
    t.beds = s.beds ∧
    t.water = s.water ∧
    t.zones = s.zones ∧
    t.disp = s.disp ∧
    t.line = s.line ∧
    t.recs = s.recs ∧
    t.ctrl = s.ctrl ∧
    t.store = s.store ∧
    t.freeCount = s.freeCount ∧
    t.pending = s.pending

/-- At most what the removal of an order can reach differ. -/
abbrev RemoveFrame (s t : State) : Prop :=
    t.osc = s.osc ∧
    t.conf = s.conf ∧
    t.evalDue = s.evalDue ∧
    t.port.urgent = s.port.urgent ∧
    t.port.routine = s.port.routine ∧
    t.port.long = s.port.long ∧
    t.port.bus = s.port.bus ∧
    t.port.sent = s.port.sent ∧
    t.meas = s.meas ∧
    t.forecast = s.forecast ∧
    t.beds.pending = s.beds.pending ∧
    t.beds.holdSerial = s.beds.holdSerial ∧
    t.water = s.water ∧
    t.zones = s.zones ∧
    t.disp.nextId = s.disp.nextId ∧
    t.disp.grantSequence = s.disp.grantSequence ∧
    t.disp.attempt = s.disp.attempt ∧
    t.disp.serial = s.disp.serial ∧
    t.line = s.line ∧
    t.recs = s.recs ∧
    t.ctrl.mode = s.ctrl.mode ∧
    t.ctrl.operator = s.ctrl.operator ∧
    t.ctrl.freeze = s.ctrl.freeze ∧
    t.ctrl.modeMark = s.ctrl.modeMark ∧
    t.ctrl.drain = s.ctrl.drain ∧
    t.ctrl.seconds = s.ctrl.seconds ∧
    t.ctrl.day = s.ctrl.day ∧
    t.ctrl.yardDue = s.ctrl.yardDue ∧
    t.store = s.store ∧
    t.freeCount = s.freeCount ∧
    t.pending = s.pending

/-- At most the outbound queue, the HOLD_ENDED list and the sticky flags differ. -/
abbrev HoldEndedFrame (s t : State) : Prop :=
    t.osc = s.osc ∧
    t.conf = s.conf ∧
    t.evalDue = s.evalDue ∧
    t.port.urgent = s.port.urgent ∧
    t.port.routine = s.port.routine ∧
    t.port.long = s.port.long ∧
    t.port.bus = s.port.bus ∧
    t.port.sent = s.port.sent ∧
    t.meas = s.meas ∧
    t.forecast = s.forecast ∧
    t.beds.records = s.beds.records ∧
    t.beds.holdSerial = s.beds.holdSerial ∧
    t.water = s.water ∧
    t.zones = s.zones ∧
    t.disp = s.disp ∧
    t.line = s.line ∧
    t.recs = s.recs ∧
    t.ctrl.mode = s.ctrl.mode ∧
    t.ctrl.operator = s.ctrl.operator ∧
    t.ctrl.freeze = s.ctrl.freeze ∧
    t.ctrl.modeMark = s.ctrl.modeMark ∧
    t.ctrl.drain = s.ctrl.drain ∧
    t.ctrl.seconds = s.ctrl.seconds ∧
    t.ctrl.day = s.ctrl.day ∧
    t.ctrl.yardDue = s.ctrl.yardDue ∧
    t.store = s.store ∧
    t.freeCount = s.freeCount ∧
    t.pending = s.pending

/-- At most the outbound queue, the CLAIM_EXPIRED list and the sticky flags differ. -/
abbrev ClaimExpiredFrame (s t : State) : Prop :=
    t.osc = s.osc ∧
    t.conf = s.conf ∧
    t.evalDue = s.evalDue ∧
    t.port.urgent = s.port.urgent ∧
    t.port.routine = s.port.routine ∧
    t.port.long = s.port.long ∧
    t.port.bus = s.port.bus ∧
    t.port.sent = s.port.sent ∧
    t.meas = s.meas ∧
    t.forecast = s.forecast ∧
    t.beds = s.beds ∧
    t.water = s.water ∧
    t.zones.entries = s.zones.entries ∧
    t.disp = s.disp ∧
    t.line = s.line ∧
    t.recs = s.recs ∧
    t.ctrl.mode = s.ctrl.mode ∧
    t.ctrl.operator = s.ctrl.operator ∧
    t.ctrl.freeze = s.ctrl.freeze ∧
    t.ctrl.modeMark = s.ctrl.modeMark ∧
    t.ctrl.drain = s.ctrl.drain ∧
    t.ctrl.seconds = s.ctrl.seconds ∧
    t.ctrl.day = s.ctrl.day ∧
    t.ctrl.yardDue = s.ctrl.yardDue ∧
    t.store = s.store ∧
    t.freeCount = s.freeCount ∧
    t.pending = s.pending

/-- At most the outbound queue, the SPRAY_DONE list and the sticky flags differ. -/
abbrev SprayDoneFrame (s t : State) : Prop :=
    t.osc = s.osc ∧
    t.conf = s.conf ∧
    t.evalDue = s.evalDue ∧
    t.port.urgent = s.port.urgent ∧
    t.port.routine = s.port.routine ∧
    t.port.long = s.port.long ∧
    t.port.bus = s.port.bus ∧
    t.port.sent = s.port.sent ∧
    t.meas = s.meas ∧
    t.forecast = s.forecast ∧
    t.beds = s.beds ∧
    t.water = s.water ∧
    t.zones = s.zones ∧
    t.disp.orders = s.disp.orders ∧
    t.disp.nextId = s.disp.nextId ∧
    t.disp.grantSequence = s.disp.grantSequence ∧
    t.disp.attempt = s.disp.attempt ∧
    t.disp.serial = s.disp.serial ∧
    t.line = s.line ∧
    t.recs = s.recs ∧
    t.ctrl.mode = s.ctrl.mode ∧
    t.ctrl.operator = s.ctrl.operator ∧
    t.ctrl.freeze = s.ctrl.freeze ∧
    t.ctrl.modeMark = s.ctrl.modeMark ∧
    t.ctrl.drain = s.ctrl.drain ∧
    t.ctrl.seconds = s.ctrl.seconds ∧
    t.ctrl.day = s.ctrl.day ∧
    t.ctrl.yardDue = s.ctrl.yardDue ∧
    t.store = s.store ∧
    t.freeCount = s.freeCount ∧
    t.pending = s.pending

/-- At most the outbound queue and the STARTED mark differ. -/
abbrev StartedFrame (s t : State) : Prop :=
    t.osc = s.osc ∧
    t.conf = s.conf ∧
    t.evalDue = s.evalDue ∧
    t.port.urgent = s.port.urgent ∧
    t.port.routine = s.port.routine ∧
    t.port.long = s.port.long ∧
    t.port.bus = s.port.bus ∧
    t.port.sent = s.port.sent ∧
    t.meas = s.meas ∧
    t.forecast = s.forecast ∧
    t.beds = s.beds ∧
    t.water = s.water ∧
    t.zones = s.zones ∧
    t.disp = s.disp ∧
    t.line = s.line ∧
    t.recs = s.recs ∧
    t.ctrl = s.ctrl ∧
    t.store.working = s.store.working ∧
    t.store.uncommitted = s.store.uncommitted ∧
    t.store.commit = s.store.commit ∧
    t.store.eeprom = s.store.eeprom ∧
    t.store.resetKind = s.store.resetKind ∧
    t.store.verified = s.store.verified ∧
    t.freeCount = s.freeCount ∧
    t.pending = s.pending

/-- At most the outbound queue and the MODE mark differ. -/
abbrev ModeMarkFrame (s t : State) : Prop :=
    t.osc = s.osc ∧
    t.conf = s.conf ∧
    t.evalDue = s.evalDue ∧
    t.port.urgent = s.port.urgent ∧
    t.port.routine = s.port.routine ∧
    t.port.long = s.port.long ∧
    t.port.bus = s.port.bus ∧
    t.port.sent = s.port.sent ∧
    t.meas = s.meas ∧
    t.forecast = s.forecast ∧
    t.beds = s.beds ∧
    t.water = s.water ∧
    t.zones = s.zones ∧
    t.disp = s.disp ∧
    t.line = s.line ∧
    t.recs = s.recs ∧
    t.ctrl.mode = s.ctrl.mode ∧
    t.ctrl.operator = s.ctrl.operator ∧
    t.ctrl.freeze = s.ctrl.freeze ∧
    t.ctrl.flags = s.ctrl.flags ∧
    t.ctrl.drain = s.ctrl.drain ∧
    t.ctrl.seconds = s.ctrl.seconds ∧
    t.ctrl.day = s.ctrl.day ∧
    t.ctrl.yardDue = s.ctrl.yardDue ∧
    t.store = s.store ∧
    t.freeCount = s.freeCount ∧
    t.pending = s.pending

/-- At most the outbound queue and the cannon records differ. -/
abbrev CannonsFrame (s t : State) : Prop :=
    t.osc = s.osc ∧
    t.conf = s.conf ∧
    t.evalDue = s.evalDue ∧
    t.port.urgent = s.port.urgent ∧
    t.port.routine = s.port.routine ∧
    t.port.long = s.port.long ∧
    t.port.bus = s.port.bus ∧
    t.port.sent = s.port.sent ∧
    t.meas = s.meas ∧
    t.forecast = s.forecast ∧
    t.beds = s.beds ∧
    t.water = s.water ∧
    t.zones = s.zones ∧
    t.disp = s.disp ∧
    t.line.state = s.line.state ∧
    t.line.transaction = s.line.transaction ∧
    t.line.allStopDue = s.line.allStopDue ∧
    t.line.lastPolled = s.line.lastPolled ∧
    t.line.lastPinged = s.line.lastPinged ∧
    t.line.heldSerial = s.line.heldSerial ∧
    t.recs = s.recs ∧
    t.ctrl = s.ctrl ∧
    t.store = s.store ∧
    t.freeCount = s.freeCount ∧
    t.pending = s.pending

/-- At most the outbound queue and the two source records differ. -/
abbrev SourcesFrame (s t : State) : Prop :=
    t.osc = s.osc ∧
    t.conf = s.conf ∧
    t.evalDue = s.evalDue ∧
    t.port.urgent = s.port.urgent ∧
    t.port.routine = s.port.routine ∧
    t.port.long = s.port.long ∧
    t.port.bus = s.port.bus ∧
    t.port.sent = s.port.sent ∧
    t.meas = s.meas ∧
    t.forecast = s.forecast ∧
    t.beds = s.beds ∧
    t.water.gate = s.water.gate ∧
    t.water.turbidity = s.water.turbidity ∧
    t.water.freshToday = s.water.freshToday ∧
    t.water.usageDue = s.water.usageDue ∧
    t.water.demandMark = s.water.demandMark ∧
    t.water.pumps = s.water.pumps ∧
    t.water.flowLimit = s.water.flowLimit ∧
    t.water.slotCapacity = s.water.slotCapacity ∧
    t.water.flowCapacity = s.water.flowCapacity ∧
    t.zones = s.zones ∧
    t.disp = s.disp ∧
    t.line = s.line ∧
    t.recs = s.recs ∧
    t.ctrl = s.ctrl ∧
    t.store = s.store ∧
    t.freeCount = s.freeCount ∧
    t.pending = s.pending

/-- At most the outbound queue, the Record Queue and the sticky flags differ. -/
abbrev RecordsFrame (s t : State) : Prop :=
    t.osc = s.osc ∧
    t.conf = s.conf ∧
    t.evalDue = s.evalDue ∧
    t.port.urgent = s.port.urgent ∧
    t.port.routine = s.port.routine ∧
    t.port.long = s.port.long ∧
    t.port.bus = s.port.bus ∧
    t.port.sent = s.port.sent ∧
    t.meas = s.meas ∧
    t.forecast = s.forecast ∧
    t.beds = s.beds ∧
    t.water = s.water ∧
    t.zones = s.zones ∧
    t.disp = s.disp ∧
    t.line = s.line ∧
    t.ctrl.mode = s.ctrl.mode ∧
    t.ctrl.operator = s.ctrl.operator ∧
    t.ctrl.freeze = s.ctrl.freeze ∧
    t.ctrl.modeMark = s.ctrl.modeMark ∧
    t.ctrl.drain = s.ctrl.drain ∧
    t.ctrl.seconds = s.ctrl.seconds ∧
    t.ctrl.day = s.ctrl.day ∧
    t.ctrl.yardDue = s.ctrl.yardDue ∧
    t.store = s.store ∧
    t.freeCount = s.freeCount ∧
    t.pending = s.pending

/-- At most the outbound queue and what the producers hold pending differ. -/
abbrev OfferFrame (s t : State) : Prop :=
    t.osc = s.osc ∧
    t.conf = s.conf ∧
    t.evalDue = s.evalDue ∧
    t.port.urgent = s.port.urgent ∧
    t.port.routine = s.port.routine ∧
    t.port.long = s.port.long ∧
    t.port.bus = s.port.bus ∧
    t.port.sent = s.port.sent ∧
    t.meas = s.meas ∧
    t.forecast = s.forecast ∧
    t.beds.records = s.beds.records ∧
    t.beds.holdSerial = s.beds.holdSerial ∧
    t.water.gate = s.water.gate ∧
    t.water.turbidity = s.water.turbidity ∧
    t.water.freshToday = s.water.freshToday ∧
    t.water.usageDue = s.water.usageDue ∧
    t.water.demandMark = s.water.demandMark ∧
    t.water.pumps = s.water.pumps ∧
    t.water.flowLimit = s.water.flowLimit ∧
    t.water.slotCapacity = s.water.slotCapacity ∧
    t.water.flowCapacity = s.water.flowCapacity ∧
    t.zones.entries = s.zones.entries ∧
    t.disp.orders = s.disp.orders ∧
    t.disp.nextId = s.disp.nextId ∧
    t.disp.grantSequence = s.disp.grantSequence ∧
    t.disp.attempt = s.disp.attempt ∧
    t.disp.serial = s.disp.serial ∧
    t.line.state = s.line.state ∧
    t.line.transaction = s.line.transaction ∧
    t.line.allStopDue = s.line.allStopDue ∧
    t.line.lastPolled = s.line.lastPolled ∧
    t.line.lastPinged = s.line.lastPinged ∧
    t.line.heldSerial = s.line.heldSerial ∧
    t.ctrl.mode = s.ctrl.mode ∧
    t.ctrl.operator = s.ctrl.operator ∧
    t.ctrl.freeze = s.ctrl.freeze ∧
    t.ctrl.flags = s.ctrl.flags ∧
    t.ctrl.drain = s.ctrl.drain ∧
    t.ctrl.seconds = s.ctrl.seconds ∧
    t.ctrl.day = s.ctrl.day ∧
    t.ctrl.yardDue = s.ctrl.yardDue ∧
    t.store.working = s.store.working ∧
    t.store.uncommitted = s.store.uncommitted ∧
    t.store.commit = s.store.commit ∧
    t.store.eeprom = s.store.eeprom ∧
    t.store.resetKind = s.store.resetKind ∧
    t.store.verified = s.store.verified ∧
    t.freeCount = s.freeCount ∧
    t.pending = s.pending

/-- At most the bed records and what a record makes differ. -/
abbrev BedsFrame (s t : State) : Prop :=
    t.osc = s.osc ∧
    t.conf = s.conf ∧
    t.evalDue = s.evalDue ∧
    t.port.urgent = s.port.urgent ∧
    t.port.routine = s.port.routine ∧
    t.port.long = s.port.long ∧
    t.port.bus = s.port.bus ∧
    t.port.sent = s.port.sent ∧
    t.meas = s.meas ∧
    t.forecast = s.forecast ∧
    t.beds.pending = s.beds.pending ∧
    t.beds.holdSerial = s.beds.holdSerial ∧
    t.water = s.water ∧
    t.zones = s.zones ∧
    t.disp = s.disp ∧
    t.line = s.line ∧
    t.ctrl.mode = s.ctrl.mode ∧
    t.ctrl.operator = s.ctrl.operator ∧
    t.ctrl.freeze = s.ctrl.freeze ∧
    t.ctrl.modeMark = s.ctrl.modeMark ∧
    t.ctrl.drain = s.ctrl.drain ∧
    t.ctrl.seconds = s.ctrl.seconds ∧
    t.ctrl.day = s.ctrl.day ∧
    t.ctrl.yardDue = s.ctrl.yardDue ∧
    t.store = s.store ∧
    t.freeCount = s.freeCount ∧
    t.pending = s.pending

/-- At most the orders and the attempt mark differ. -/
abbrev OrdersFrame (s t : State) : Prop :=
    t.osc = s.osc ∧
    t.conf = s.conf ∧
    t.evalDue = s.evalDue ∧
    t.port = s.port ∧
    t.meas = s.meas ∧
    t.forecast = s.forecast ∧
    t.beds = s.beds ∧
    t.water = s.water ∧
    t.zones = s.zones ∧
    t.disp.nextId = s.disp.nextId ∧
    t.disp.grantSequence = s.disp.grantSequence ∧
    t.disp.pending = s.disp.pending ∧
    t.disp.serial = s.disp.serial ∧
    t.line = s.line ∧
    t.recs = s.recs ∧
    t.ctrl = s.ctrl ∧
    t.store = s.store ∧
    t.freeCount = s.freeCount ∧
    t.pending = s.pending

/-- At most the Bed Table, the orders and what a HOLD_ENDED notice makes differ. -/
abbrev HoldFrame (s t : State) : Prop :=
    t.osc = s.osc ∧
    t.conf = s.conf ∧
    t.evalDue = s.evalDue ∧
    t.port.urgent = s.port.urgent ∧
    t.port.routine = s.port.routine ∧
    t.port.long = s.port.long ∧
    t.port.bus = s.port.bus ∧
    t.port.sent = s.port.sent ∧
    t.meas = s.meas ∧
    t.forecast = s.forecast ∧
    t.water = s.water ∧
    t.zones = s.zones ∧
    t.disp.nextId = s.disp.nextId ∧
    t.disp.grantSequence = s.disp.grantSequence ∧
    t.disp.pending = s.disp.pending ∧
    t.disp.serial = s.disp.serial ∧
    t.line = s.line ∧
    t.recs = s.recs ∧
    t.ctrl.mode = s.ctrl.mode ∧
    t.ctrl.operator = s.ctrl.operator ∧
    t.ctrl.freeze = s.ctrl.freeze ∧
    t.ctrl.modeMark = s.ctrl.modeMark ∧
    t.ctrl.drain = s.ctrl.drain ∧
    t.ctrl.seconds = s.ctrl.seconds ∧
    t.ctrl.day = s.ctrl.day ∧
    t.ctrl.yardDue = s.ctrl.yardDue ∧
    t.store = s.store ∧
    t.freeCount = s.freeCount ∧
    t.pending = s.pending

/-- At most the drain, the long request and the outbound queue differ. -/
abbrev DrainFrame (s t : State) : Prop :=
    t.osc = s.osc ∧
    t.conf = s.conf ∧
    t.evalDue = s.evalDue ∧
    t.port.urgent = s.port.urgent ∧
    t.port.routine = s.port.routine ∧
    t.port.bus = s.port.bus ∧
    t.port.sent = s.port.sent ∧
    t.meas = s.meas ∧
    t.forecast = s.forecast ∧
    t.beds = s.beds ∧
    t.water = s.water ∧
    t.zones = s.zones ∧
    t.disp = s.disp ∧
    t.line = s.line ∧
    t.recs = s.recs ∧
    t.ctrl.mode = s.ctrl.mode ∧
    t.ctrl.operator = s.ctrl.operator ∧
    t.ctrl.freeze = s.ctrl.freeze ∧
    t.ctrl.flags = s.ctrl.flags ∧
    t.ctrl.modeMark = s.ctrl.modeMark ∧
    t.ctrl.seconds = s.ctrl.seconds ∧
    t.ctrl.day = s.ctrl.day ∧
    t.ctrl.yardDue = s.ctrl.yardDue ∧
    t.store = s.store ∧
    t.freeCount = s.freeCount ∧
    t.pending = s.pending

/-- At most what the end of a start or a stop can reach differ. -/
abbrev SprayFrame (s t : State) : Prop :=
    t.osc = s.osc ∧
    t.conf = s.conf ∧
    t.evalDue = s.evalDue ∧
    t.port.urgent = s.port.urgent ∧
    t.port.routine = s.port.routine ∧
    t.port.bus = s.port.bus ∧
    t.port.sent = s.port.sent ∧
    t.meas = s.meas ∧
    t.forecast = s.forecast ∧
    t.beds.pending = s.beds.pending ∧
    t.beds.holdSerial = s.beds.holdSerial ∧
    t.water.gate = s.water.gate ∧
    t.water.turbidity = s.water.turbidity ∧
    t.water.usageDue = s.water.usageDue ∧
    t.water.demandMark = s.water.demandMark ∧
    t.water.pumps = s.water.pumps ∧
    t.water.flowLimit = s.water.flowLimit ∧
    t.water.slotCapacity = s.water.slotCapacity ∧
    t.water.flowCapacity = s.water.flowCapacity ∧
    t.zones = s.zones ∧
    t.disp.nextId = s.disp.nextId ∧
    t.disp.grantSequence = s.disp.grantSequence ∧
    t.disp.serial = s.disp.serial ∧
    t.line.state = s.line.state ∧
    t.line.transaction = s.line.transaction ∧
    t.line.allStopDue = s.line.allStopDue ∧
    t.line.lastPolled = s.line.lastPolled ∧
    t.line.lastPinged = s.line.lastPinged ∧
    t.ctrl.mode = s.ctrl.mode ∧
    t.ctrl.operator = s.ctrl.operator ∧
    t.ctrl.freeze = s.ctrl.freeze ∧
    t.ctrl.modeMark = s.ctrl.modeMark ∧
    t.ctrl.seconds = s.ctrl.seconds ∧
    t.ctrl.day = s.ctrl.day ∧
    t.ctrl.yardDue = s.ctrl.yardDue ∧
    t.store = s.store ∧
    t.pending = s.pending

/-- At most what a change of mode or of the hold reasons can reach differ. -/
abbrev ModeFrame (s t : State) : Prop :=
    t.osc = s.osc ∧
    t.conf = s.conf ∧
    t.evalDue = s.evalDue ∧
    t.port.urgent = s.port.urgent ∧
    t.port.routine = s.port.routine ∧
    t.port.bus = s.port.bus ∧
    t.port.sent = s.port.sent ∧
    t.meas = s.meas ∧
    t.forecast = s.forecast ∧
    t.beds.pending = s.beds.pending ∧
    t.beds.holdSerial = s.beds.holdSerial ∧
    t.water.gate = s.water.gate ∧
    t.water.turbidity = s.water.turbidity ∧
    t.water.usageDue = s.water.usageDue ∧
    t.water.demandMark = s.water.demandMark ∧
    t.water.pumps = s.water.pumps ∧
    t.water.flowLimit = s.water.flowLimit ∧
    t.water.slotCapacity = s.water.slotCapacity ∧
    t.water.flowCapacity = s.water.flowCapacity ∧
    t.zones = s.zones ∧
    t.disp.nextId = s.disp.nextId ∧
    t.disp.grantSequence = s.disp.grantSequence ∧
    t.disp.serial = s.disp.serial ∧
    t.line.state = s.line.state ∧
    t.line.transaction = s.line.transaction ∧
    t.line.lastPolled = s.line.lastPolled ∧
    t.line.lastPinged = s.line.lastPinged ∧
    t.ctrl.seconds = s.ctrl.seconds ∧
    t.ctrl.day = s.ctrl.day ∧
    t.ctrl.yardDue = s.ctrl.yardDue ∧
    t.store = s.store ∧
    t.pending = s.pending

/-- At most what a change of the now hour can reach differ. -/
abbrev HourFrame (s t : State) : Prop :=
    t.osc = s.osc ∧
    t.conf = s.conf ∧
    t.evalDue = s.evalDue ∧
    t.port.urgent = s.port.urgent ∧
    t.port.routine = s.port.routine ∧
    t.port.bus = s.port.bus ∧
    t.port.sent = s.port.sent ∧
    t.meas = s.meas ∧
    t.beds.pending = s.beds.pending ∧
    t.beds.holdSerial = s.beds.holdSerial ∧
    t.water.gate = s.water.gate ∧
    t.water.turbidity = s.water.turbidity ∧
    t.water.usageDue = s.water.usageDue ∧
    t.water.demandMark = s.water.demandMark ∧
    t.water.pumps = s.water.pumps ∧
    t.water.flowLimit = s.water.flowLimit ∧
    t.water.slotCapacity = s.water.slotCapacity ∧
    t.water.flowCapacity = s.water.flowCapacity ∧
    t.zones = s.zones ∧
    t.disp.nextId = s.disp.nextId ∧
    t.disp.grantSequence = s.disp.grantSequence ∧
    t.disp.serial = s.disp.serial ∧
    t.line.state = s.line.state ∧
    t.line.transaction = s.line.transaction ∧
    t.line.lastPolled = s.line.lastPolled ∧
    t.line.lastPinged = s.line.lastPinged ∧
    t.ctrl.seconds = s.ctrl.seconds ∧
    t.ctrl.day = s.ctrl.day ∧
    t.ctrl.yardDue = s.ctrl.yardDue ∧
    t.store = s.store ∧
    t.pending = s.pending

/-- At most the Yard Bus Port differ. -/
abbrev PortFrame (s t : State) : Prop :=
    t.osc = s.osc ∧
    t.conf = s.conf ∧
    t.evalDue = s.evalDue ∧
    t.meas = s.meas ∧
    t.forecast = s.forecast ∧
    t.beds = s.beds ∧
    t.water = s.water ∧
    t.zones = s.zones ∧
    t.disp = s.disp ∧
    t.line = s.line ∧
    t.recs = s.recs ∧
    t.ctrl = s.ctrl ∧
    t.store = s.store ∧
    t.freeCount = s.freeCount ∧
    t.pending = s.pending

/-- At most what a demand or a removal of an order can reach differ. -/
abbrev QueueFrame (s t : State) : Prop :=
    t.osc = s.osc ∧
    t.conf = s.conf ∧
    t.evalDue = s.evalDue ∧
    t.port.urgent = s.port.urgent ∧
    t.port.routine = s.port.routine ∧
    t.port.long = s.port.long ∧
    t.port.bus = s.port.bus ∧
    t.port.sent = s.port.sent ∧
    t.meas = s.meas ∧
    t.forecast = s.forecast ∧
    t.beds.pending = s.beds.pending ∧
    t.beds.holdSerial = s.beds.holdSerial ∧
    t.water = s.water ∧
    t.zones = s.zones ∧
    t.disp.grantSequence = s.disp.grantSequence ∧
    t.line = s.line ∧
    t.recs = s.recs ∧
    t.ctrl.mode = s.ctrl.mode ∧
    t.ctrl.operator = s.ctrl.operator ∧
    t.ctrl.freeze = s.ctrl.freeze ∧
    t.ctrl.modeMark = s.ctrl.modeMark ∧
    t.ctrl.drain = s.ctrl.drain ∧
    t.ctrl.seconds = s.ctrl.seconds ∧
    t.ctrl.day = s.ctrl.day ∧
    t.ctrl.yardDue = s.ctrl.yardDue ∧
    t.store = s.store ∧
    t.freeCount = s.freeCount ∧
    t.pending = s.pending

/-- At most what a dispatch attempt can reach differ. -/
abbrev AttemptFrame (s t : State) : Prop :=
    t.osc = s.osc ∧
    t.conf = s.conf ∧
    t.evalDue = s.evalDue ∧
    t.port.urgent = s.port.urgent ∧
    t.port.routine = s.port.routine ∧
    t.port.long = s.port.long ∧
    t.port.bus = s.port.bus ∧
    t.port.sent = s.port.sent ∧
    t.meas = s.meas ∧
    t.forecast = s.forecast ∧
    t.beds.pending = s.beds.pending ∧
    t.beds.holdSerial = s.beds.holdSerial ∧
    t.water.gate = s.water.gate ∧
    t.water.turbidity = s.water.turbidity ∧
    t.water.freshToday = s.water.freshToday ∧
    t.water.usageDue = s.water.usageDue ∧
    t.water.pumps = s.water.pumps ∧
    t.water.flowLimit = s.water.flowLimit ∧
    t.water.slotCapacity = s.water.slotCapacity ∧
    t.water.flowCapacity = s.water.flowCapacity ∧
    t.zones = s.zones ∧
    t.disp.nextId = s.disp.nextId ∧
    t.disp.pending = s.disp.pending ∧
    t.disp.serial = s.disp.serial ∧
    t.line.state = s.line.state ∧
    t.line.transaction = s.line.transaction ∧
    t.line.allStopDue = s.line.allStopDue ∧
    t.line.lastPolled = s.line.lastPolled ∧
    t.line.lastPinged = s.line.lastPinged ∧
    t.ctrl.mode = s.ctrl.mode ∧
    t.ctrl.operator = s.ctrl.operator ∧
    t.ctrl.freeze = s.ctrl.freeze ∧
    t.ctrl.modeMark = s.ctrl.modeMark ∧
    t.ctrl.drain = s.ctrl.drain ∧
    t.ctrl.seconds = s.ctrl.seconds ∧
    t.ctrl.day = s.ctrl.day ∧
    t.ctrl.yardDue = s.ctrl.yardDue ∧
    t.store = s.store ∧
    t.freeCount = s.freeCount ∧
    t.pending = s.pending

/-- At most what a claim, a release or an expiry can reach differ. -/
abbrev ZoneFrame (s t : State) : Prop :=
    t.osc = s.osc ∧
    t.conf = s.conf ∧
    t.evalDue = s.evalDue ∧
    t.port.urgent = s.port.urgent ∧
    t.port.routine = s.port.routine ∧
    t.port.bus = s.port.bus ∧
    t.port.sent = s.port.sent ∧
    t.meas = s.meas ∧
    t.forecast = s.forecast ∧
    t.water.gate = s.water.gate ∧
    t.water.turbidity = s.water.turbidity ∧
    t.water.usageDue = s.water.usageDue ∧
    t.water.demandMark = s.water.demandMark ∧
    t.water.pumps = s.water.pumps ∧
    t.water.flowLimit = s.water.flowLimit ∧
    t.water.slotCapacity = s.water.slotCapacity ∧
    t.water.flowCapacity = s.water.flowCapacity ∧
    t.disp.nextId = s.disp.nextId ∧
    t.disp.grantSequence = s.disp.grantSequence ∧
    t.disp.serial = s.disp.serial ∧
    t.line.state = s.line.state ∧
    t.line.transaction = s.line.transaction ∧
    t.line.allStopDue = s.line.allStopDue ∧
    t.line.lastPolled = s.line.lastPolled ∧
    t.line.lastPinged = s.line.lastPinged ∧
    t.ctrl.mode = s.ctrl.mode ∧
    t.ctrl.operator = s.ctrl.operator ∧
    t.ctrl.freeze = s.ctrl.freeze ∧
    t.ctrl.modeMark = s.ctrl.modeMark ∧
    t.ctrl.seconds = s.ctrl.seconds ∧
    t.ctrl.day = s.ctrl.day ∧
    t.ctrl.yardDue = s.ctrl.yardDue ∧
    t.store = s.store ∧
    t.pending = s.pending

/-- At most what a moisture hold request can reach differ. -/
abbrev HoldSetFrame (s t : State) : Prop :=
    t.osc = s.osc ∧
    t.conf = s.conf ∧
    t.evalDue = s.evalDue ∧
    t.port.urgent = s.port.urgent ∧
    t.port.routine = s.port.routine ∧
    t.port.bus = s.port.bus ∧
    t.port.sent = s.port.sent ∧
    t.meas = s.meas ∧
    t.forecast = s.forecast ∧
    t.water.gate = s.water.gate ∧
    t.water.turbidity = s.water.turbidity ∧
    t.water.usageDue = s.water.usageDue ∧
    t.water.demandMark = s.water.demandMark ∧
    t.water.pumps = s.water.pumps ∧
    t.water.flowLimit = s.water.flowLimit ∧
    t.water.slotCapacity = s.water.slotCapacity ∧
    t.water.flowCapacity = s.water.flowCapacity ∧
    t.zones = s.zones ∧
    t.disp.nextId = s.disp.nextId ∧
    t.disp.grantSequence = s.disp.grantSequence ∧
    t.disp.serial = s.disp.serial ∧
    t.line.state = s.line.state ∧
    t.line.transaction = s.line.transaction ∧
    t.line.allStopDue = s.line.allStopDue ∧
    t.line.lastPolled = s.line.lastPolled ∧
    t.line.lastPinged = s.line.lastPinged ∧
    t.ctrl.mode = s.ctrl.mode ∧
    t.ctrl.operator = s.ctrl.operator ∧
    t.ctrl.freeze = s.ctrl.freeze ∧
    t.ctrl.modeMark = s.ctrl.modeMark ∧
    t.ctrl.seconds = s.ctrl.seconds ∧
    t.ctrl.day = s.ctrl.day ∧
    t.ctrl.yardDue = s.ctrl.yardDue ∧
    t.store = s.store ∧
    t.pending = s.pending

/-- At most what the evaluation of a bed can reach differ. -/
abbrev RiskFrame (s t : State) : Prop :=
    t.osc = s.osc ∧
    t.conf = s.conf ∧
    t.evalDue = s.evalDue ∧
    t.port.urgent = s.port.urgent ∧
    t.port.routine = s.port.routine ∧
    t.port.bus = s.port.bus ∧
    t.port.sent = s.port.sent ∧
    t.meas = s.meas ∧
    t.forecast = s.forecast ∧
    t.beds.pending = s.beds.pending ∧
    t.beds.holdSerial = s.beds.holdSerial ∧
    t.water.gate = s.water.gate ∧
    t.water.turbidity = s.water.turbidity ∧
    t.water.usageDue = s.water.usageDue ∧
    t.water.demandMark = s.water.demandMark ∧
    t.water.pumps = s.water.pumps ∧
    t.water.flowLimit = s.water.flowLimit ∧
    t.water.slotCapacity = s.water.slotCapacity ∧
    t.water.flowCapacity = s.water.flowCapacity ∧
    t.zones = s.zones ∧
    t.disp.grantSequence = s.disp.grantSequence ∧
    t.line.state = s.line.state ∧
    t.line.transaction = s.line.transaction ∧
    t.line.allStopDue = s.line.allStopDue ∧
    t.line.lastPolled = s.line.lastPolled ∧
    t.line.lastPinged = s.line.lastPinged ∧
    t.ctrl.mode = s.ctrl.mode ∧
    t.ctrl.operator = s.ctrl.operator ∧
    t.ctrl.freeze = s.ctrl.freeze ∧
    t.ctrl.modeMark = s.ctrl.modeMark ∧
    t.ctrl.seconds = s.ctrl.seconds ∧
    t.ctrl.day = s.ctrl.day ∧
    t.ctrl.yardDue = s.ctrl.yardDue ∧
    t.store = s.store ∧
    t.pending = s.pending

/-- At most the Measurement Unit and what a record makes differ. -/
abbrev SecondFrame (s t : State) : Prop :=
    t.osc = s.osc ∧
    t.conf = s.conf ∧
    t.evalDue = s.evalDue ∧
    t.port.urgent = s.port.urgent ∧
    t.port.routine = s.port.routine ∧
    t.port.long = s.port.long ∧
    t.port.bus = s.port.bus ∧
    t.port.sent = s.port.sent ∧
    t.forecast = s.forecast ∧
    t.beds = s.beds ∧
    t.water = s.water ∧
    t.zones = s.zones ∧
    t.disp = s.disp ∧
    t.line = s.line ∧
    t.ctrl.mode = s.ctrl.mode ∧
    t.ctrl.operator = s.ctrl.operator ∧
    t.ctrl.freeze = s.ctrl.freeze ∧
    t.ctrl.modeMark = s.ctrl.modeMark ∧
    t.ctrl.drain = s.ctrl.drain ∧
    t.ctrl.seconds = s.ctrl.seconds ∧
    t.ctrl.day = s.ctrl.day ∧
    t.ctrl.yardDue = s.ctrl.yardDue ∧
    t.store = s.store ∧
    t.freeCount = s.freeCount ∧
    t.pending = s.pending

/-- A relation between states that is reflexive and transitive holds through a fold whose steps keep it. -/
theorem foldl_keeps {α : Type} (R : State → State → Prop) (refl : ∀ s, R s s)
    (trans : ∀ s t u, R s t → R t u → R s u) (f : State → α → State) (step : ∀ s x, R s (f s x)) (l : List α) :
    ∀ s, R s (l.foldl f s) := by
  induction l with
  | nil => exact refl
  | cons x rest ih => exact fun s => trans _ _ _ (step s x) (ih (f s x))

@[simp] theorem sendWhileRoom_frame (k : NoticeKind) (l : List (List Byte)) : ∀ s : State,
    OutboundFrame s (sendWhileRoom k l s).1 := by
  induction l with
  | nil => simp [sendWhileRoom, OutboundFrame]
  | cons d rest ih =>
    intro s
    unfold sendWhileRoom
    split <;> simp [ih, OutboundFrame]

@[simp] theorem State.overflowIf_frame (s : State) (b : Bool) : RecordsFrame s (s.overflowIf b) := by
  unfold State.overflowIf; (try dsimp only); (repeat' split) <;> simp [RecordsFrame]

@[simp] theorem State.overflowIf_port (s : State) (b : Bool) : (s.overflowIf b).port = s.port := by
  unfold State.overflowIf; split <;> rfl

@[simp] theorem State.overflowIf_recs (s : State) (b : Bool) : (s.overflowIf b).recs = s.recs := by
  unfold State.overflowIf; split <;> rfl

@[simp] theorem State.flushHoldEnded_frame (s : State)  : HoldEndedFrame s (s.flushHoldEnded) := by
  unfold State.flushHoldEnded; (try dsimp only); (repeat' split) <;> simp [HoldEndedFrame]

@[simp] theorem State.flushClaimExpired_frame (s : State)  : ClaimExpiredFrame s (s.flushClaimExpired) := by
  unfold State.flushClaimExpired; (try dsimp only); (repeat' split) <;> simp [ClaimExpiredFrame]

@[simp] theorem State.flushSprayDone_frame (s : State)  : SprayDoneFrame s (s.flushSprayDone) := by
  unfold State.flushSprayDone; (try dsimp only); (repeat' split) <;> simp [SprayDoneFrame]

@[simp] theorem State.flushHoldEnded_flags (s : State) : s.flushHoldEnded.ctrl.flags = s.ctrl.flags := by
  simp [State.flushHoldEnded]

@[simp] theorem State.flushClaimExpired_flags (s : State) : s.flushClaimExpired.ctrl.flags = s.ctrl.flags := by
  simp [State.flushClaimExpired]

@[simp] theorem State.flushSprayDone_flags (s : State) : s.flushSprayDone.ctrl.flags = s.ctrl.flags := by
  simp [State.flushSprayDone]

@[simp] theorem State.makeHoldEnded_frame (s : State) (h : HoldEnded) : HoldEndedFrame s (s.makeHoldEnded h) := by
  unfold State.makeHoldEnded; (try dsimp only); (repeat' split) <;> simp [HoldEndedFrame]

@[simp] theorem State.makeClaimExpired_frame (s : State) (m : Nat) : ClaimExpiredFrame s (s.makeClaimExpired m) := by
  unfold State.makeClaimExpired; (try dsimp only); (repeat' split) <;> simp [ClaimExpiredFrame]

@[simp] theorem State.makeSprayDone_frame (s : State) (d : SprayDone) : SprayDoneFrame s (s.makeSprayDone d) := by
  unfold State.makeSprayDone; (try dsimp only); (repeat' split) <;> simp [SprayDoneFrame]

@[simp] theorem State.flushStarted_frame (s : State)  : StartedFrame s (s.flushStarted) := by
  unfold State.flushStarted; (try dsimp only); (repeat' split) <;> simp [StartedFrame]

@[simp] theorem State.flushMode_frame (s : State)  : ModeMarkFrame s (s.flushMode) := by
  unfold State.flushMode; (try dsimp only); (repeat' split) <;> simp [ModeMarkFrame]

@[simp] theorem State.makeMode_frame (s : State)  : ModeMarkFrame s (s.makeMode) := by
  unfold State.makeMode; (try dsimp only); (repeat' split) <;> simp [ModeMarkFrame]

@[simp] theorem flushCannon_frame (s : State) (c : Nat) : CannonsFrame s (flushCannon s c) := by
  unfold flushCannon; (try dsimp only); (repeat' split) <;> simp [CannonsFrame]

@[simp] theorem State.flushCannons_frame (s : State)  : CannonsFrame s (s.flushCannons) := by
  unfold State.flushCannons; exact foldl_keeps CannonsFrame (by simp [CannonsFrame]) (by simp_all [CannonsFrame]) _ flushCannon_frame _ s

@[simp] theorem flushUse_frame (s : State) (w : WaterSource) : SourcesFrame s (flushUse s w) := by
  unfold flushUse; (try dsimp only); (repeat' split) <;> simp [SourcesFrame]

@[simp] theorem State.flushWaterUse_frame (s : State)  : SourcesFrame s (s.flushWaterUse) := by
  unfold State.flushWaterUse; (try dsimp only); (repeat' split) <;> simp [SourcesFrame]

@[simp] theorem flushReader_frame (s : State) (c : ReaderClass) : RecordsFrame s (flushReader s c) := by
  unfold flushReader; (try dsimp only); (repeat' split) <;> simp [RecordsFrame]

@[simp] theorem State.flushRecords_frame (s : State)  : RecordsFrame s (s.flushRecords) := by
  unfold State.flushRecords; exact foldl_keeps RecordsFrame (by simp [RecordsFrame]) (by simp_all [RecordsFrame]) _ flushReader_frame _ s

@[simp] theorem flushReader_queue (s : State) (c : ReaderClass) : (flushReader s c).recs.queue = s.recs.queue ∧
    (flushReader s c).recs.readDue = s.recs.readDue ∧ (flushReader s c).ctrl = s.ctrl := by
  unfold flushReader; dsimp only; (repeat' split) <;> simp

@[simp] theorem State.flushRecords_queue (s : State) : s.flushRecords.recs.queue = s.recs.queue ∧
    s.flushRecords.recs.readDue = s.recs.readDue ∧ s.flushRecords.ctrl = s.ctrl := by
  simp [State.flushRecords, readerClasses]

@[simp] theorem State.askRecord_frame (s : State) (k : RecordKind) (a v : Nat) (b : Option Band) : RecordsFrame s (s.askRecord k a v b) := by
  unfold State.askRecord; (try dsimp only); (repeat' split) <;> simp [RecordsFrame]

theorem offer_cases (turn : State → State) (s : State) : offer turn s = s ∨ (s.room = true ∧ offer turn s = turn s) := by
  unfold offer; split <;> simp_all

@[simp] theorem State.offerRoom_frame (s : State) : OfferFrame s s.offerRoom := by
  have one : ∀ (turn : State → State), (∀ u, OfferFrame u (turn u)) → ∀ u, OfferFrame u (offer turn u) := by
    intro turn h u
    rcases offer_cases turn u with e | ⟨_, e⟩
    · rw [e]; simp [OfferFrame]
    · rw [e]; exact h u
  have tr : ∀ a b c : State, OfferFrame a b → OfferFrame b c → OfferFrame a c := by simp_all [OfferFrame]
  unfold State.offerRoom
  refine tr _ _ _ ?_ (one _ (by simp [OfferFrame]) _)
  refine tr _ _ _ ?_ (one _ (by simp [OfferFrame]) _)
  refine tr _ _ _ ?_ (one _ (by simp [OfferFrame]) _)
  refine tr _ _ _ ?_ (one _ (by simp [OfferFrame]) _)
  refine tr _ _ _ ?_ (one _ (by simp [OfferFrame]) _)
  refine tr _ _ _ ?_ (one _ (by simp [OfferFrame]) _)
  exact tr _ _ _ (one _ (by simp [OfferFrame]) _) (one _ (by simp [OfferFrame]) _)

@[simp] theorem State.judgeAtRisk_frame (s : State) (b : Nat) : BedsFrame s (s.judgeAtRisk b) := by
  unfold State.judgeAtRisk; (try dsimp only); (repeat' split) <;> simp [BedsFrame]

@[simp] theorem uncountStart_frame (s : State) (b : Nat) : OrdersFrame s (uncountStart s b) := by
  unfold uncountStart; (try dsimp only); (repeat' split) <;> simp [OrdersFrame]

@[simp] theorem State.removeHold_frame (s : State) (b : Nat) : HoldFrame s (s.removeHold b) := by
  unfold State.removeHold; (try dsimp only); (repeat' split) <;> simp [HoldFrame]

@[simp] theorem State.endHold_frame (s : State) (b : Nat) : HoldFrame s (s.endHold b) := by
  unfold State.endHold; (try dsimp only); (repeat' split) <;> simp [HoldFrame]

@[simp] theorem State.endDrain_frame (s : State) (f : Bool) : DrainFrame s (s.endDrain f) := by
  unfold State.endDrain; (try dsimp only); (repeat' split) <;> simp [DrainFrame]

@[simp] theorem State.checkDrained_frame (s : State)  : DrainFrame s (s.checkDrained) := by
  unfold State.checkDrained; (try dsimp only); (repeat' split) <;> simp [DrainFrame]

@[simp] theorem State.removeOrder_frame (s : State) (o : Order) (k : OrderOutcome) : RemoveFrame s (s.removeOrder o k) := by
  unfold State.removeOrder; (try dsimp only); (repeat' split) <;> simp [RemoveFrame]

@[simp] theorem State.chargeSource_frame (s : State) (w : WaterSource) (v d : Nat) : SprayFrame s (s.chargeSource w v d) := by
  unfold State.chargeSource; (try dsimp only); (repeat' split) <;> simp [SprayFrame]

@[simp] theorem State.releaseWater_frame (s : State) (w : WaterSource) (v : Nat) : SprayFrame s (s.releaseWater w v) := by
  unfold State.releaseWater; (try dsimp only); (repeat' split) <;> simp [SprayFrame]

@[simp] theorem State.chargeBed_frame (s : State) (b d : Nat) : SprayFrame s (s.chargeBed b d) := by
  unfold State.chargeBed; (try dsimp only); (repeat' split) <;> simp [SprayFrame]

@[simp] theorem State.chargeTally_frame (s : State) (b d : Nat) : SprayFrame s (s.chargeTally b d) := by
  unfold State.chargeTally; (try dsimp only); (repeat' split) <;> simp [SprayFrame]

@[simp] theorem State.freeCannon_frame (s : State) (c : Nat) : SprayFrame s (s.freeCannon c) := by
  unfold State.freeCannon; (try dsimp only); (repeat' split) <;> simp [SprayFrame]

@[simp] theorem State.settleEnded_frame (s : State) (o : Order) : SprayFrame s (s.settleEnded o) := by
  unfold State.settleEnded; (try dsimp only); (repeat' split) <;> simp [SprayFrame]

@[simp] theorem State.settleRefused_frame (s : State) (o : Order) : SprayFrame s (s.settleRefused o) := by
  unfold State.settleRefused; (try dsimp only); (repeat' split) <;> simp [SprayFrame]

@[simp] theorem State.endStart_frame (s : State) (b d : Nat) : SprayFrame s (s.endStart b d) := by
  unfold State.endStart; (try dsimp only); (repeat' split) <;> simp [SprayFrame]

@[simp] theorem State.refuseStart_frame (s : State) (b : Nat) : SprayFrame s (s.refuseStart b) := by
  unfold State.refuseStart; (try dsimp only); (repeat' split) <;> simp [SprayFrame]

@[simp] theorem State.acknowledgeStart_frame (s : State) (b : Nat) : SprayFrame s (s.acknowledgeStart b) := by
  unfold State.acknowledgeStart; (try dsimp only); (repeat' split) <;> simp [SprayFrame]

@[simp] theorem State.setDelivered_frame (s : State) (b d : Nat) : SprayFrame s (s.setDelivered b d) := by
  unfold State.setDelivered; (try dsimp only); (repeat' split) <;> simp [SprayFrame]

@[simp] theorem State.takeTrim_frame (s : State) (b dt l n : Nat) : SprayFrame s (s.takeTrim b dt l n) := by
  unfold State.takeTrim; (try dsimp only); (repeat' split) <;> simp [SprayFrame]

@[simp] theorem State.endTest_frame (s : State) (c d : Nat) : SprayFrame s (s.endTest c d) := by
  unfold State.endTest; (try dsimp only); (repeat' split) <;> simp [SprayFrame]

@[simp] theorem State.refuseOn_frame (s : State) (c : Nat) : SprayFrame s (s.refuseOn c) := by
  unfold State.refuseOn; (try dsimp only); (repeat' split) <;> simp [SprayFrame]

@[simp] theorem State.askStop_frame (s : State) (c : Nat) : SprayFrame s (s.askStop c) := by
  unfold State.askStop; (try dsimp only); (repeat' split) <;> simp [SprayFrame]

@[simp] theorem State.askTrim_frame (s : State) (b c l n : Nat) : SprayFrame s (s.askTrim b c l n) := by
  unfold State.askTrim; (try dsimp only); (repeat' split) <;> simp [SprayFrame]

@[simp] theorem State.stopOrder_frame (s : State) (b : Nat) (e : Option OrderOutcome) : SprayFrame s (s.stopOrder b e) := by
  unfold State.stopOrder; (try dsimp only); (repeat' split) <;> simp [SprayFrame]

@[simp] theorem State.stopWhere_frame (s : State) (p : Order → Bool) : SprayFrame s (s.stopWhere p) := by
  unfold State.stopWhere; exact foldl_keeps SprayFrame (by simp [SprayFrame]) (by simp_all [SprayFrame]) _ (fun t b => State.stopOrder_frame t b none) _ s

@[simp] theorem State.setActivity_frame (s : State) (c : Nat) (a : CannonActivity) : SprayFrame s (s.setActivity c a) := by
  unfold State.setActivity; (try dsimp only); (repeat' split) <;> simp [SprayFrame]

@[simp] theorem State.showActivity_frame (s : State) (c : Nat) (a : CannonActivity) : SprayFrame s (s.showActivity c a) := by
  unfold State.showActivity; (try dsimp only); (repeat' split) <;> simp [SprayFrame]

@[simp] theorem State.goodTransaction_frame (s : State) (c : Nat) : SprayFrame s (s.goodTransaction c) := by
  unfold State.goodTransaction; (try dsimp only); (repeat' split) <;> simp [SprayFrame]

@[simp] theorem State.noteGoodReply_frame (s : State) (c : Nat) : SprayFrame s (s.noteGoodReply c) := by
  unfold State.noteGoodReply; (try dsimp only); (repeat' split) <;> simp [SprayFrame]

@[simp] theorem State.dropHeld_frame (s : State) (c : Nat) : SprayFrame s (s.dropHeld c) := by
  unfold State.dropHeld; (try dsimp only); (repeat' split) <;> simp [SprayFrame]

@[simp] theorem State.estimateStart_frame (s : State) (c t : Nat) : SprayFrame s (s.estimateStart c t) := by
  unfold State.estimateStart; (try dsimp only); (repeat' split) <;> simp [SprayFrame]

@[simp] theorem State.estimateTest_frame (s : State) (c : Nat) : SprayFrame s (s.estimateTest c) := by
  unfold State.estimateTest; (try dsimp only); (repeat' split) <;> simp [SprayFrame]

@[simp] theorem State.closeEstimate_frame (s : State) (c : Nat) : SprayFrame s (s.closeEstimate c) := by
  unfold State.closeEstimate; (try dsimp only); (repeat' split) <;> simp [SprayFrame]

@[simp] theorem State.endByEstimate_frame (s : State) (c t : Nat) : SprayFrame s (s.endByEstimate c t) := by
  unfold State.endByEstimate; (try dsimp only); (repeat' split) <;> simp [SprayFrame]

@[simp] theorem State.goOut_frame (s : State) (c : Nat) : SprayFrame s (s.goOut c) := by
  unfold State.goOut; (try dsimp only); (repeat' split) <;> simp [SprayFrame]

@[simp] theorem State.scoreEvent_frame (s : State) (c : Nat) (f : CannonFault) (n : Nat) : SprayFrame s (s.scoreEvent c f n) := by
  unfold State.scoreEvent; (try dsimp only); (repeat' split) <;> simp [SprayFrame]

@[simp] theorem State.scoreBadState_frame (s : State) (c : Nat) : SprayFrame s (s.scoreBadState c) := by
  unfold State.scoreBadState; (try dsimp only); (repeat' split) <;> simp [SprayFrame]

@[simp] theorem State.scoreMiss_frame (s : State) (c : Nat) (f : CannonFault) : SprayFrame s (s.scoreMiss c f) := by
  unfold State.scoreMiss; (try dsimp only); (repeat' split) <;> simp [SprayFrame]

@[simp] theorem State.goLocal_frame (s : State) (c : Nat) : SprayFrame s (s.goLocal c) := by
  unfold State.goLocal; (try dsimp only); (repeat' split) <;> simp [SprayFrame]

@[simp] theorem State.refuseArrival_frame (s : State) (n : Node) (c : Nat) (r : Result) : PortFrame s (s.refuseArrival n c r) := by
  unfold State.refuseArrival; (try dsimp only); (repeat' split) <;> simp [PortFrame]

@[simp] theorem State.queueRequest_frame (s : State) (r : Request) : PortFrame s (s.queueRequest r) := by
  unfold State.queueRequest; (try dsimp only); (repeat' split) <;> simp [PortFrame]

@[simp] theorem State.arrive_frame (s : State) (n : Node) (c : Nat) (d : List Byte) : PortFrame s (s.arrive n c d) := by
  unfold State.arrive; (try dsimp only); (repeat' split) <;> simp [PortFrame]

@[simp] theorem State.popFrame_frame (s : State) (f : Frame) (l : List Frame) : PortFrame s (s.popFrame f l) := by
  unfold State.popFrame; (try dsimp only); (repeat' split) <;> simp [PortFrame]

@[simp] theorem State.judgeForecast_frame (s : State)  : HourFrame s (s.judgeForecast) := by
  unfold State.judgeForecast; (try dsimp only); (repeat' split) <;> simp [HourFrame]

@[simp] theorem State.askAllStop_frame (s : State)  : ModeFrame s (s.askAllStop) := by
  unfold State.askAllStop; (try dsimp only); (repeat' split) <;> simp [ModeFrame]

@[simp] theorem State.stopSprays_frame (s : State)  : ModeFrame s (s.stopSprays) := by
  unfold State.stopSprays; (try dsimp only); (repeat' split) <;> simp [ModeFrame]

@[simp] theorem State.enterMode_frame (s : State) (m : Mode) : ModeFrame s (s.enterMode m) := by
  unfold State.enterMode; (try dsimp only); (repeat' split) <;> simp [ModeFrame]

@[simp] theorem State.judgeBasis_frame (s : State)  : ModeFrame s (s.judgeBasis) := by
  unfold State.judgeBasis; (try dsimp only); (repeat' split) <;> simp [ModeFrame]

@[simp] theorem State.setReasons_frame (s : State) (a b : Bool) : ModeFrame s (s.setReasons a b) := by
  unfold State.setReasons; (try dsimp only); (repeat' split) <;> simp [ModeFrame]

@[simp] theorem State.judgeFreeze_frame (s : State)  : ModeFrame s (s.judgeFreeze) := by
  unfold State.judgeFreeze; (try dsimp only); (repeat' split) <;> simp [ModeFrame]

@[simp] theorem State.changeDay_frame (s : State)  : HourFrame s (s.changeDay) := by
  unfold State.changeDay; (try dsimp only); (repeat' split) <;> simp [HourFrame]

@[simp] theorem State.changeHour_frame (s : State)  : HourFrame s (s.changeHour) := by
  unfold State.changeHour; (try dsimp only); (repeat' split) <;> simp [HourFrame]

@[simp] theorem forceStart_frame (s : State) (t c : Nat) : SprayFrame s (forceStart t s c) := by
  unfold forceStart; (try dsimp only); (repeat' split) <;> simp [SprayFrame]

@[simp] theorem State.setBasis_frame (s : State) (b : Basis) (n : Nat) : SecondFrame s (s.setBasis b n) := by
  unfold State.setBasis; (try dsimp only); (repeat' split) <;> simp [SecondFrame]

@[simp] theorem State.takeSample_frame (s : State) (x : Option Sample) : SecondFrame s (s.takeSample x) := by
  unfold State.takeSample; (try dsimp only); (repeat' split) <;> simp [SecondFrame]

@[simp] theorem State.endSecond_frame (s : State) (a b : Nat) : SecondFrame s (s.endSecond a b) := by
  unfold State.endSecond; (try dsimp only); (repeat' split) <;> simp [SecondFrame]

@[simp] theorem State.takeConcentration_frame (s : State) (ch v : Nat) (b : Bool) : SecondFrame s (s.takeConcentration ch v b) := by
  unfold State.takeConcentration; (try dsimp only); (repeat' split) <;> simp [SecondFrame]

@[simp] theorem State.endWindow_frame (s : State) (ch : Nat) (b : Bool) (d : Nat) : SecondFrame s (s.endWindow ch b d) := by
  unfold State.endWindow; (try dsimp only); (repeat' split) <;> simp [SecondFrame]

@[simp] theorem State.createOrder_frame (s : State) (b : Nat) (o : Origin) (v : Nat) (m : Bool) (p : Preference) : QueueFrame s (s.createOrder b o v m p) := by
  unfold State.createOrder; (try dsimp only); (repeat' split) <;> simp [QueueFrame]

@[simp] theorem State.mergeOrder_frame (s : State) (o p : Order) : QueueFrame s (s.mergeOrder o p) := by
  unfold State.mergeOrder; (try dsimp only); (repeat' split) <;> simp [QueueFrame]

@[simp] theorem State.takeDemand_frame (s : State) (b : Nat) (o : Origin) (v : Nat) : QueueFrame s (s.takeDemand b o v) := by
  unfold State.takeDemand; (try dsimp only); (repeat' split) <;> simp [QueueFrame]

@[simp] theorem State.takeShort_frame (s : State) (b : Nat) (o : Origin) : QueueFrame s (s.takeShort b o) := by
  unfold State.takeShort; (try dsimp only); (repeat' split) <;> simp [QueueFrame]

@[simp] theorem State.handDemand_frame (s : State) (b : Nat) (o : Origin) (v : Nat) : QueueFrame s (s.handDemand b o v) := by
  unfold State.handDemand; (try dsimp only); (repeat' split) <;> simp [QueueFrame]

@[simp] theorem State.takeManual_frame (s : State) (b v : Nat) (p : Preference) : QueueFrame s (s.takeManual b v p) := by
  unfold State.takeManual; (try dsimp only); (repeat' split) <;> simp [QueueFrame]

@[simp] theorem State.cancelOrder_frame (s : State) (o : Order) : SprayFrame s (s.cancelOrder o) := by
  unfold State.cancelOrder; (try dsimp only); (repeat' split) <;> simp [SprayFrame]

@[simp] theorem State.reserveWater_frame (s : State) (w : WaterSource) (v : Nat) : SourcesFrame s (s.reserveWater w v) := by
  unfold State.reserveWater; (try dsimp only); (repeat' split) <;> simp [SourcesFrame]

@[simp] theorem State.grant_frame (s : State) (o : Order) (a : Award) : AttemptFrame s (s.grant o a) := by
  unfold State.grant; (try dsimp only); (repeat' split) <;> simp [AttemptFrame]

@[simp] theorem State.writeBlock_frame (s : State) (o : Order) (k : Block) : AttemptFrame s (s.writeBlock o k) := by
  unfold State.writeBlock; (try dsimp only); (repeat' split) <;> simp [AttemptFrame]

@[simp] theorem scan_frame (l : List Nat) : ∀ s : State, AttemptFrame s (scan l s).1 := by
  induction l with
  | nil => simp [scan, AttemptFrame]
  | cons b rest ih =>
    intro s
    unfold scan
    (repeat' split) <;> simp_all [AttemptFrame]

@[simp] theorem scans_frame (n : Nat) : ∀ s : State, AttemptFrame s (scans n s) := by
  induction n with
  | zero => simp [scans, AttemptFrame]
  | succ n ih =>
    intro s
    unfold scans
    dsimp only
    split <;> simp [ih, AttemptFrame]

@[simp] theorem judgeShort_frame (s : State) (b : Nat) : AttemptFrame s (judgeShort s b) := by
  unfold judgeShort; (try dsimp only); (repeat' split) <;> simp [AttemptFrame]

@[simp] theorem State.makeDemand_frame (s : State)  : AttemptFrame s (s.makeDemand) := by
  unfold State.makeDemand; (try dsimp only); (repeat' split) <;> simp [AttemptFrame]

@[simp] theorem State.endAttempt_frame (s : State) : AttemptFrame s s.endAttempt := by
  unfold State.endAttempt
  have h := foldl_keeps AttemptFrame (by simp [AttemptFrame]) (by simp_all [AttemptFrame]) judgeShort judgeShort_frame
    (s.disp.orders.map Order.bed) s.makeDemand
  simpa [AttemptFrame] using h

@[simp] theorem dropCapacity_frame (n : Nat) : ∀ s : State, SprayFrame s (dropCapacity n s) := by
  induction n with
  | zero => simp [dropCapacity, SprayFrame]
  | succ n ih =>
    intro s
    unfold dropCapacity
    (repeat' split) <;> simp [ih, SprayFrame]

@[simp] theorem State.setSurface_frame (s : State) (b : Nat) (f : Surface) : BedsFrame s (s.setSurface b f) := by
  unfold State.setSurface; (try dsimp only); (repeat' split) <;> simp [BedsFrame]

@[simp] theorem State.stackReset_frame (s : State) (b : Nat) : BedsFrame s (s.stackReset b) := by
  unfold State.stackReset; (try dsimp only); (repeat' split) <;> simp [BedsFrame]

@[simp] theorem State.satisfyOrder_frame (s : State) (b : Nat) : RemoveFrame s (s.satisfyOrder b) := by
  unfold State.satisfyOrder; (try dsimp only); (repeat' split) <;> simp [RemoveFrame]

@[simp] theorem State.becomeEmpty_frame (s : State) (b : Nat) : ZoneFrame s (s.becomeEmpty b) := by
  unfold State.becomeEmpty; (try dsimp only); (repeat' split) <;> simp [ZoneFrame]

@[simp] theorem State.writePrior_frame (s : State) (m b : Nat) (p : Surface) : ZoneFrame s (s.writePrior m b p) := by
  unfold State.writePrior; (try dsimp only); (repeat' split) <;> simp [ZoneFrame]

@[simp] theorem State.sharePrior_frame (s : State) (b : Nat) (p : Surface) : ZoneFrame s (s.sharePrior b p) := by
  unfold State.sharePrior; (try dsimp only); (repeat' split) <;> simp [ZoneFrame]

@[simp] theorem State.applyActivity_frame (s : State) (b : Nat) (a : ZoneActivity) (p : Surface) : ZoneFrame s (s.applyActivity b a p) := by
  unfold State.applyActivity; (try dsimp only); (repeat' split) <;> simp [ZoneFrame]

@[simp] theorem State.enterRange_frame (s : State) (m : Nat) (a : ZoneActivity) (b : Nat) : ZoneFrame s (s.enterRange m a b) := by
  unfold State.enterRange; (try dsimp only); (repeat' split) <;> simp [ZoneFrame]

@[simp] theorem State.releaseUncovered_frame (s : State) (b : Nat) (o : ReleaseOutcome) (p : Surface) : ZoneFrame s (s.releaseUncovered b o p) := by
  unfold State.releaseUncovered; (try dsimp only); (repeat' split) <;> simp [ZoneFrame]

@[simp] theorem State.foldOutcome_frame (s : State) (b : Nat) (o : ReleaseOutcome) (p : Surface) : ZoneFrame s (s.foldOutcome b o p) := by
  unfold State.foldOutcome; (try dsimp only); (repeat' split) <;> simp [ZoneFrame]

@[simp] theorem State.releaseBed_frame (s : State) (b : Nat) (o : ReleaseOutcome) (p : Surface) : ZoneFrame s (s.releaseBed b o p) := by
  unfold State.releaseBed; (try dsimp only); (repeat' split) <;> simp [ZoneFrame]

@[simp] theorem State.releaseRange_frame (s : State) (e : Claim) (o : ReleaseOutcome) : ZoneFrame s (s.releaseRange e o) := by
  unfold State.releaseRange; exact foldl_keeps ZoneFrame (by simp [ZoneFrame]) (by simp_all [ZoneFrame]) _ (fun t b => State.releaseBed_frame t b o (e.priorOf b)) _ s

@[simp] theorem State.removeClaim_frame (s : State) (e : Claim) (o : ReleaseOutcome) : ZoneFrame s (s.removeClaim e o) := by
  unfold State.removeClaim; (try dsimp only); (repeat' split) <;> simp [ZoneFrame]

@[simp] theorem State.causeIfUncovered_frame (s : State) (t : State) : OrdersFrame s (s.causeIfUncovered t) := by
  unfold State.causeIfUncovered; (try dsimp only); (repeat' split) <;> simp [OrdersFrame]

@[simp] theorem replaceBed_frame (s : State) (m : Nat) (e : Claim) (a : ZoneActivity) (b : Nat) : ZoneFrame s (replaceBed m e a s b) := by
  unfold replaceBed; (try dsimp only); (repeat' split) <;> simp [ZoneFrame]

theorem foldl_replaceBed_frame (m : Nat) (e : Claim) (a : ZoneActivity) (l : List Nat) (s : State) :
    ZoneFrame s (l.foldl (replaceBed m e a) s) :=
  foldl_keeps ZoneFrame (by simp [ZoneFrame]) (by simp_all [ZoneFrame]) _ (fun s b => replaceBed_frame s m e a b) l s

theorem foldl_enterRange_frame (m : Nat) (a : ZoneActivity) (l : List Nat) (s : State) :
    ZoneFrame s (l.foldl (fun t b => t.enterRange m a b) s) :=
  foldl_keeps ZoneFrame (by simp [ZoneFrame]) (by simp_all [ZoneFrame]) _ (fun s b => State.enterRange_frame s m a b) l s

theorem foldl_releaseBed_frame (e : Claim) (o : ReleaseOutcome) (l : List Nat) (s : State) :
    ZoneFrame s (l.foldl (fun t b => t.releaseBed b o (e.priorOf b)) s) :=
  foldl_keeps ZoneFrame (by simp [ZoneFrame]) (by simp_all [ZoneFrame]) _ (fun s b => State.releaseBed_frame s b o (e.priorOf b)) l s

@[simp] theorem State.replaceClaim_frame (s : State) (e : Claim) (a : ZoneActivity) (f l : Nat) :
    ZoneFrame s (s.replaceClaim e a f l) := by
  unfold State.replaceClaim
  dsimp only
  split
  · simp [ZoneFrame]
  · simp [ZoneFrame, foldl_replaceBed_frame, foldl_releaseBed_frame]

@[simp] theorem State.newClaim_frame (s : State) (m : Nat) (a : ZoneActivity) (f l : Nat) :
    ZoneFrame s (s.newClaim m a f l) := by
  unfold State.newClaim
  simp [ZoneFrame, foldl_enterRange_frame]

@[simp] theorem State.expireClaim_frame (s : State) (e : Claim) : ZoneFrame s (s.expireClaim e) := by
  unfold State.expireClaim
  simp [ZoneFrame]

@[simp] theorem State.countFromHere_frame (s : State) (b c : Nat) : OrdersFrame s (s.countFromHere b c) := by
  unfold State.countFromHere; (try dsimp only); (repeat' split) <;> simp [OrdersFrame]

@[simp] theorem State.trimOrder_frame (s : State) (b c n : Nat) : SprayFrame s (s.trimOrder b c n) := by
  unfold State.trimOrder; (try dsimp only); (repeat' split) <;> simp [SprayFrame]

@[simp] theorem State.createHold_frame (s : State) (b c t : Nat) : HoldSetFrame s (s.createHold b c t) := by
  unfold State.createHold; (try dsimp only); (repeat' split) <;> simp [HoldSetFrame]

@[simp] theorem State.changeCap_frame (s : State) (b : Nat) (h : Hold) (c : Nat) : HoldSetFrame s (s.changeCap b h c) := by
  unfold State.changeCap; (try dsimp only); (repeat' split) <;> simp [HoldSetFrame]

@[simp] theorem State.settle_frame (s : State) (b : Nat) : BedsFrame s (s.settle b) := by
  unfold State.settle; (try dsimp only); (repeat' split) <;> simp [BedsFrame]

@[simp] theorem rainOn_frame (s : State) (r b : Nat) : BedsFrame s (rainOn r s b) := by
  unfold rainOn; (try dsimp only); (repeat' split) <;> simp [BedsFrame]

theorem foldl_rainOn_frame (r : Nat) (l : List Nat) (s : State) : BedsFrame s (l.foldl (rainOn r) s) :=
  foldl_keeps BedsFrame (by simp [BedsFrame]) (by simp_all [BedsFrame]) _ (fun s b => rainOn_frame s r b) l s

@[simp] theorem State.writeRisk_frame (s : State) (b r : Nat) (k : Band) : BedsFrame s (s.writeRisk b r k) := by
  unfold State.writeRisk; (try dsimp only); (repeat' split) <;> simp [BedsFrame]

@[simp] theorem State.handFor_frame (s : State) (b w : Nat) (d : Option (Nat × Origin)) : RiskFrame s (s.handFor b w d) := by
  unfold State.handFor; (try dsimp only); (repeat' split) <;> simp [RiskFrame]

@[simp] theorem State.evaluateFull_frame (s : State) (b : Nat) : RiskFrame s (s.evaluateFull b) := by
  unfold State.evaluateFull; (try dsimp only); (repeat' split) <;> simp [RiskFrame]

@[simp] theorem State.evaluateFallback_frame (s : State) (b : Nat) : RiskFrame s (s.evaluateFallback b) := by
  unfold State.evaluateFallback; (try dsimp only); (repeat' split) <;> simp [RiskFrame]

@[simp] theorem evaluateBed_frame (s : State) (f : Bool) (b : Nat) : RiskFrame s (evaluateBed f s b) := by
  unfold evaluateBed; (try dsimp only); (repeat' split) <;> simp [RiskFrame]

end Sys2Proof.Machine
end

