-- ==== Sys2Proof/Laws/Tables.lean ====
section
/-! SUPPORT. The numbered tables: what reading an entry after a write gives, and the entries of beds, cannons and
channels as the operations of Machine/Ops.lean read them. -/

namespace Sys2Proof.Machine

theorem nth_setNth_same {α : Type} {n : Nat} (v : Vector α n) (d x : α) {k : Nat} (h1 : 1 ≤ k) (h2 : k ≤ n) :
    nth (setNth v k x) d k = x := by
  have hk : k ≠ 0 := by omega
  have hlt : k - 1 < n := by omega
  simp [nth, setNth, hk, hlt]

theorem nth_setNth_ne {α : Type} {n : Nat} (v : Vector α n) (d x : α) {j k : Nat} (h : j ≠ k) :
    nth (setNth v k x) d j = nth v d j := by
  by_cases hj : j = 0
  · simp [nth, hj]
  · by_cases hk : k = 0
    · simp [nth, setNth, hk]
    · have hne : k - 1 ≠ j - 1 := by omega
      simp [nth, setNth, hj, hk, Vector.getElem?_setIfInBounds_ne hne]

/-- An entry of a table after a write. -/
theorem nth_setNth {α : Type} {n : Nat} (v : Vector α n) (d x : α) (j k : Nat) :
    nth (setNth v k x) d j = if j = k ∧ 1 ≤ k ∧ k ≤ n then x else nth v d j := by
  by_cases h : j = k
  · subst h
    by_cases h1 : 1 ≤ j ∧ j ≤ n
    · simp [h1, nth_setNth_same v d x h1.1 h1.2]
    · have h2 : ¬(j = j ∧ 1 ≤ j ∧ j ≤ n) := by simpa using h1
      rw [if_neg h2]
      by_cases h0 : j = 0
      · simp [nth, h0]
      · have hn : n ≤ j - 1 := by omega
        simp [nth, setNth, h0, Vector.setIfInBounds_eq_of_size_le hn]
  · simp [h, nth_setNth_ne v d x h]

/-- A property of every entry is kept by a write of an entry that has it. -/
theorem forall_nth_setNth {α : Type} {n : Nat} {P : α → Prop} (v : Vector α n) (d x : α) (k : Nat)
    (h : ∀ j, P (nth v d j)) (hx : P x) (j : Nat) : P (nth (setNth v k x) d j) := by
  rw [nth_setNth]
  split
  · exact hx
  · exact h j

theorem nth_replicate {α : Type} (n : Nat) (x : α) (k : Nat) : nth (Vector.replicate n x) x k = x := by
  unfold nth
  split
  · rfl
  · cases h : (Vector.replicate n x)[k - 1]? with
    | none => rfl
    | some y =>
      simp [Vector.getElem?_replicate] at h
      simpa using h.2.symm

/-- An entry is the default outside the table. -/
theorem nth_outside {α : Type} {n : Nat} (v : Vector α n) (d : α) {k : Nat} (h : k = 0 ∨ n < k) : nth v d k = d := by
  unfold nth
  split
  · rfl
  · have hn : n ≤ k - 1 := by omega
    simp [hn]

theorem nth_map {α β : Type} {n : Nat} (f : α → β) (v : Vector α n) (d : α) (e : β) {k : Nat} (h1 : 1 ≤ k) (h2 : k ≤ n) :
    nth (v.map f) e k = f (nth v d k) := by
  have hk : k ≠ 0 := by omega
  have hlt : k - 1 < n := by omega
  simp [nth, hk, hlt]

/-! ### Beds -/

theorem State.bed_congr {s t : State} (h : t.beds.records = s.beds.records) (b : Nat) : t.bed b = s.bed b := by
  unfold State.bed; rw [h]

theorem State.bed_setBed_same (s : State) (r : Bed) {b : Nat} (h1 : 1 ≤ b) (h2 : b ≤ 32) : (s.setBed b r).bed b = r :=
  nth_setNth_same _ _ _ h1 h2

theorem State.bed_setBed_ne (s : State) (r : Bed) {a b : Nat} (h : a ≠ b) : (s.setBed b r).bed a = s.bed a :=
  nth_setNth_ne _ _ _ h

theorem State.bed_setBed (s : State) (r : Bed) (a b : Nat) :
    (s.setBed b r).bed a = if a = b ∧ 1 ≤ b ∧ b ≤ 32 then r else s.bed a := nth_setNth _ _ _ _ _

/-! ### Cannons -/

theorem State.cannon_congr {s t : State} (h : t.line.cannons = s.line.cannons) (c : Nat) : t.cannon c = s.cannon c := by
  unfold State.cannon; rw [h]

theorem State.cannon_setCannon_same (s : State) (r : Cannon) {c : Nat} (h1 : 1 ≤ c) (h2 : c ≤ 24) :
    (s.setCannon c r).cannon c = r := nth_setNth_same _ _ _ h1 h2

theorem State.cannon_setCannon_ne (s : State) (r : Cannon) {a c : Nat} (h : a ≠ c) :
    (s.setCannon c r).cannon a = s.cannon a := nth_setNth_ne _ _ _ h

theorem State.cannon_setCannon (s : State) (r : Cannon) (a c : Nat) :
    (s.setCannon c r).cannon a = if a = c ∧ 1 ≤ c ∧ c ≤ 24 then r else s.cannon a := nth_setNth _ _ _ _ _

/-! ### Dust channels -/

theorem State.channel_congr {s t : State} (h : t.meas.channels = s.meas.channels) (c : Nat) : t.channel c = s.channel c := by
  unfold State.channel; rw [h]

theorem State.channel_setChannel_same (s : State) (r : Channel) {c : Nat} (h1 : 1 ≤ c) (h2 : c ≤ 8) :
    (s.setChannel c r).channel c = r := nth_setNth_same _ _ _ h1 h2

theorem State.channel_setChannel_ne (s : State) (r : Channel) {a c : Nat} (h : a ≠ c) :
    (s.setChannel c r).channel a = s.channel a := nth_setNth_ne _ _ _ h

/-! ### Lists of numbers -/

theorem mem_numbersFrom (n : Nat) : ∀ lo k, k ∈ numbersFrom lo n ↔ lo ≤ k ∧ k < lo + n := by
  induction n with
  | zero =>
    intro lo k
    simp only [numbersFrom, List.not_mem_nil, false_iff]
    omega
  | succ n ih =>
    intro lo k
    simp only [numbersFrom, List.mem_cons, ih]
    omega

theorem mem_bedNumbers (b : Nat) : b ∈ bedNumbers ↔ 1 ≤ b ∧ b ≤ 32 := by
  unfold bedNumbers; rw [mem_numbersFrom]; omega

theorem mem_cannonNumbers (c : Nat) : c ∈ cannonNumbers ↔ 1 ≤ c ∧ c ≤ 24 := by
  unfold cannonNumbers; rw [mem_numbersFrom]; omega

theorem nodup_numbersFrom (n : Nat) : ∀ lo, (numbersFrom lo n).Nodup := by
  induction n with
  | zero => simp [numbersFrom]
  | succ n ih =>
    intro lo
    simp only [numbersFrom, List.nodup_cons, mem_numbersFrom, ih, and_true]
    omega

end Sys2Proof.Machine
end

