-- ==== Sys2Proof/Laws/Handler.lean ====
section
/-! SUPPORT. What the request handler's take can do, said once (R193, R194): which of its four outcomes it has, and what the
taking of a request leaves as it was. -/

namespace Sys2Proof.Machine

/-- A ready request is handed to its owner. -/
theorem State.serve_ready {s : State} {node : Node} {code : Nat} {data : List Byte} (owner : State → State)
    (h : s.ready node code data) : s.serve node code data owner = owner s.takeRequest := by
  obtain ⟨h1, h2, h3⟩ := h
  unfold State.serve
  rw [h1, h2]
  cases hl : isLong code <;> simp_all

/-- A request that cannot be taken waits. -/
theorem State.serve_waits {s : State} {node : Node} {code : Nat} {data : List Byte} (owner : State → State)
    (h : s.takes node code data = false) : s.serve node code data owner = s := by
  unfold State.serve
  simp [h]

/-- Everything the handler's take can do: the request waits, is answered STALE, is answered BUSY, or reaches its owner. -/
theorem State.serve_cases (s : State) (node : Node) (code : Nat) (data : List Byte) (owner : State → State) :
    (s.takes node code data = false ∧ s.serve node code data owner = s) ∨
    (s.takes node code data = true ∧ s.nextStale = true ∧
      s.serve node code data owner = s.takeRequest.reply node code .stale []) ∨
    (s.takes node code data = true ∧ s.nextStale = false ∧ isLong code = true ∧ s.port.long.isSome = true ∧
      s.serve node code data owner = s.takeRequest.reply node code .busy []) ∨
    (s.ready node code data ∧ s.serve node code data owner = owner s.takeRequest) := by
  cases ht : s.takes node code data
  · exact .inl ⟨rfl, s.serve_waits owner ht⟩
  · cases hs : s.nextStale
    · by_cases hl : isLong code = true ∧ s.port.long.isSome = true
      · refine .inr (.inr (.inl ⟨rfl, rfl, hl.1, hl.2, ?_⟩))
        simp [State.serve, ht, hs, hl.1, hl.2]
      · have hr : s.ready node code data := ⟨ht, hs, fun h => by
          cases hp : s.port.long
          · rfl
          · exact absurd ⟨h, by simp [hp]⟩ hl⟩
        exact .inr (.inr (.inr ⟨hr, s.serve_ready owner hr⟩))
    · refine .inr (.inl ⟨rfl, rfl, ?_⟩)
      simp [State.serve, ht, hs]

/-- A request that can be taken is the next one, has room for its reply, and finds a mode that takes requests. -/
theorem State.takes_cases {s : State} {node : Node} {code : Nat} {data : List Byte} (h : s.takes node code data = true) :
    ∃ r, s.nextRequest = some r ∧ r.node = node ∧ r.code = code ∧ r.data = data ∧ 1 ≤ s.free ∧ s.ctrl.mode ≠ .starting := by
  unfold State.takes at h
  split at h
  · rename_i r hr
    exact ⟨r, hr, of_decide_eq_true h⟩
  · cases h

@[simp] theorem State.bed_takeRequest (s : State) (b : Nat) : s.takeRequest.bed b = s.bed b := by simp [State.bed]

@[simp] theorem State.cannon_takeRequest (s : State) (c : Nat) : s.takeRequest.cannon c = s.cannon c := by
  simp [State.cannon]

@[simp] theorem State.channel_takeRequest (s : State) (c : Nat) : s.takeRequest.channel c = s.channel c := by
  simp [State.channel]

@[simp] theorem State.order_takeRequest (s : State) (b : Nat) : s.takeRequest.order b = s.order b := by
  simp [State.order]

@[simp] theorem State.startOn_takeRequest (s : State) (c : Nat) : s.takeRequest.startOn c = s.startOn c := by
  simp [State.startOn]

@[simp] theorem State.claimed_takeRequest (s : State) (b : Nat) : s.takeRequest.claimed b = s.claimed b := by
  simp [State.claimed]

@[simp] theorem State.capped_takeRequest (s : State) (b : Nat) : s.takeRequest.capped b = s.capped b := by
  simp [State.capped]

@[simp] theorem State.free_takeRequest (s : State) : s.takeRequest.free = s.free := by simp [State.free]

@[simp] theorem State.room_takeRequest (s : State) : s.takeRequest.room = s.room := by simp [State.room]

@[simp] theorem State.classOf_takeRequest (s : State) (node : Node) : s.takeRequest.classOf node = s.classOf node := by
  simp [State.classOf]

end Sys2Proof.Machine
end

