-- ==== Sys2Proof/Laws/Memory.lean ====
section
/-! SUPPORT. The sparse maps that hold the EEPROM and the settings: reading after a write, and the canonical form that
every write keeps. -/

namespace Sys2Proof.Machine

variable {α : Type}

theorem sparseFind_erase_ne {j k : Nat} (h : j ≠ k) (m : List (Nat × α)) : sparseFind j (sparseErase k m) = sparseFind j m := by
  induction m with
  | nil => rfl
  | cons e rest ih =>
    obtain ⟨i, v⟩ := e
    simp only [sparseErase]
    split
    · next hi => subst hi; simp [sparseFind, Ne.symm h]
    · simp only [sparseFind, ih]

theorem sparseFind_insert_same (k : Nat) (v : α) (m : List (Nat × α)) : sparseFind k (sparseInsert k v m) = some v := by
  induction m with
  | nil => simp [sparseInsert, sparseFind]
  | cons e rest ih =>
    obtain ⟨i, w⟩ := e
    simp only [sparseInsert]
    split
    · simp [sparseFind]
    · split
      · simp [sparseFind]
      · next h1 h2 => simp [sparseFind, Ne.symm h2, ih]

theorem sparseFind_insert_ne {j k : Nat} (h : j ≠ k) (v : α) (m : List (Nat × α)) :
    sparseFind j (sparseInsert k v m) = sparseFind j m := by
  induction m with
  | nil => simp [sparseInsert, sparseFind, Ne.symm h]
  | cons e rest ih =>
    obtain ⟨i, w⟩ := e
    simp only [sparseInsert]
    split
    · simp [sparseFind, Ne.symm h]
    · split
      · next h2 => subst h2; simp [sparseFind, Ne.symm h]
      · simp only [sparseFind, ih]

/-- Every key of a sparse map lies above a bound. -/
def keysAbove (k : Nat) (m : List (Nat × α)) : Prop := ∀ e ∈ m, k < e.1

variable [DecidableEq α] {u : Nat → α}

/-- The canonical form, one entry at a time. -/
theorem sparseWf_cons (k : Nat) (v : α) (rest : List (Nat × α)) :
    sparseWf u ((k, v) :: rest) = true ↔ v ≠ u k ∧ keysAbove k rest ∧ sparseWf u rest = true := by
  induction rest generalizing k v with
  | nil => simp [sparseWf, keysAbove]
  | cons e rest ih =>
    obtain ⟨j, w⟩ := e
    have h := ih j w
    simp only [sparseWf, Bool.and_eq_true, decide_eq_true_eq, keysAbove, List.mem_cons, forall_eq_or_imp] at h ⊢
    constructor
    · rintro ⟨⟨h1, h2⟩, h3⟩
      exact ⟨h1, ⟨h2, fun e he => by have := (h.mp h3).2.1 e he; omega⟩, h3⟩
    · rintro ⟨h1, h2, h3⟩
      exact ⟨⟨h1, h2.1⟩, h3⟩

omit [DecidableEq α] in
theorem sparseFind_above {k : Nat} (m : List (Nat × α)) (h : keysAbove k m) : sparseFind k m = none := by
  induction m with
  | nil => rfl
  | cons e rest ih =>
    obtain ⟨i, v⟩ := e
    have h1 : k < i := h (i, v) (by simp)
    have h2 : keysAbove k rest := fun e he => h e (by simp [he])
    have h3 : i ≠ k := by omega
    simp [sparseFind, h3, ih h2]

omit [DecidableEq α] in
theorem keysAbove_erase {k j : Nat} (m : List (Nat × α)) (h : keysAbove k m) : keysAbove k (sparseErase j m) := by
  induction m with
  | nil => exact h
  | cons e rest ih =>
    obtain ⟨i, v⟩ := e
    have h2 : keysAbove k rest := fun e he => h e (by simp [he])
    simp only [sparseErase]
    split
    · exact h2
    · intro e he
      rcases List.mem_cons.mp he with rfl | he
      · exact h (i, v) (by simp)
      · exact ih h2 e he

omit [DecidableEq α] in
theorem keysAbove_insert {k j : Nat} (v : α) (m : List (Nat × α)) (h : keysAbove k m) (hj : k < j) :
    keysAbove k (sparseInsert j v m) := by
  induction m with
  | nil => intro e he; simp [sparseInsert] at he; subst he; exact hj
  | cons e rest ih =>
    obtain ⟨i, w⟩ := e
    have h1 : k < i := h (i, w) (by simp)
    have h2 : keysAbove k rest := fun e he => h e (by simp [he])
    simp only [sparseInsert]
    split
    · intro e he
      rcases List.mem_cons.mp he with rfl | he
      · exact hj
      · exact h e he
    · split
      · intro e he
        rcases List.mem_cons.mp he with rfl | he
        · exact hj
        · exact h2 e he
      · intro e he
        rcases List.mem_cons.mp he with rfl | he
        · exact h1
        · exact ih h2 e he

theorem sparseWf_erase (k : Nat) (m : List (Nat × α)) (h : sparseWf u m = true) : sparseWf u (sparseErase k m) = true := by
  induction m with
  | nil => exact h
  | cons e rest ih =>
    obtain ⟨i, v⟩ := e
    obtain ⟨h1, h2, h3⟩ := (sparseWf_cons i v rest).mp h
    simp only [sparseErase]
    split
    · exact h3
    · exact (sparseWf_cons _ _ _).mpr ⟨h1, keysAbove_erase rest h2, ih h3⟩

theorem sparseFind_erase_same (k : Nat) (m : List (Nat × α)) (h : sparseWf u m = true) :
    sparseFind k (sparseErase k m) = none := by
  induction m with
  | nil => rfl
  | cons e rest ih =>
    obtain ⟨i, v⟩ := e
    obtain ⟨_, h2, h3⟩ := (sparseWf_cons i v rest).mp h
    simp only [sparseErase]
    split
    · next hi => subst hi; exact sparseFind_above rest h2
    · next hi => simp [sparseFind, hi, ih h3]

theorem sparseWf_insert (k : Nat) (v : α) (m : List (Nat × α)) (h : sparseWf u m = true) (hv : v ≠ u k) :
    sparseWf u (sparseInsert k v m) = true := by
  induction m with
  | nil => simp [sparseInsert, sparseWf, hv]
  | cons e rest ih =>
    obtain ⟨i, w⟩ := e
    obtain ⟨h1, h2, h3⟩ := (sparseWf_cons i w rest).mp h
    simp only [sparseInsert]
    split
    · next hk =>
      refine (sparseWf_cons _ _ _).mpr ⟨hv, ?_, h⟩
      intro e he
      rcases List.mem_cons.mp he with rfl | he
      · exact hk
      · have := h2 e he; omega
    · split
      · next hk => subst hk; exact (sparseWf_cons _ _ _).mpr ⟨hv, h2, h3⟩
      · next hk1 hk2 => exact (sparseWf_cons _ _ _).mpr ⟨h1, keysAbove_insert v rest h2 (by omega), ih h3⟩

/-- A write keeps the canonical form. -/
theorem sparseWf_put (k : Nat) (v : α) (m : List (Nat × α)) (h : sparseWf u m = true) :
    sparseWf u (sparsePut (u k) k v m) = true := by
  unfold sparsePut
  split
  · exact sparseWf_erase k m h
  · next hv => exact sparseWf_insert k v m h hv

/-- A read after a write to the same key gives the value written. -/
theorem sparseGet_put_same (k : Nat) (v : α) (m : List (Nat × α)) (h : sparseWf u m = true) :
    sparseGet (u k) k (sparsePut (u k) k v m) = v := by
  unfold sparsePut sparseGet
  split
  · next hv => rw [sparseFind_erase_same k m h]; exact hv.symm
  · rw [sparseFind_insert_same]; rfl

/-- A write leaves every other key alone. -/
theorem sparseGet_put_ne {j k : Nat} (h : j ≠ k) (d w v : α) (m : List (Nat × α)) :
    sparseGet d j (sparsePut w k v m) = sparseGet d j m := by
  unfold sparsePut sparseGet
  split
  · rw [sparseFind_erase_ne h]
  · rw [sparseFind_insert_ne h]

/-! ### The EEPROM -/

theorem eepromWrite_wf (mem : List Host.Cell) (a : Nat) (b : Byte) (h : Memory.wf mem) : Memory.wf (eepromWrite mem a b) := by
  unfold eepromWrite
  split
  · exact sparseWf_put (u := fun _ => eepromUnlisted) a b mem h
  · exact h

theorem eepromWriteBlock_wf (bytes : List Byte) : ∀ (mem : List Host.Cell) (a : Nat), Memory.wf mem →
    Memory.wf (eepromWriteBlock mem a bytes) := by
  induction bytes with
  | nil => exact fun _ _ h => h
  | cons b rest ih => exact fun mem a h => ih _ _ (eepromWrite_wf mem a b h)

theorem withDiffering_wf (differ : List Host.Cell) : ∀ mem : List Host.Cell, Memory.wf mem →
    Memory.wf (withDiffering mem differ) := by
  induction differ with
  | nil => exact fun _ h => h
  | cons d rest ih => exact fun mem h => ih _ (eepromWrite_wf mem d.1 d.2 h)

theorem eepromRead_write_same (mem : List Host.Cell) (a : Nat) (b : Byte) (h : Memory.wf mem) (ha : a < 8192) :
    eepromRead (eepromWrite mem a b) a = b := by
  unfold eepromRead eepromWrite
  rw [if_pos ha]
  exact sparseGet_put_same (u := fun _ => eepromUnlisted) a b mem h

theorem eepromRead_write_ne (mem : List Host.Cell) {a i : Nat} (b : Byte) (h : i ≠ a) :
    eepromRead (eepromWrite mem a b) i = eepromRead mem i := by
  unfold eepromRead eepromWrite
  split
  · exact sparseGet_put_ne h _ _ _ _
  · rfl

/-- A block write leaves every address outside the block alone. -/
theorem eepromRead_writeBlock_outside (bytes : List Byte) : ∀ (mem : List Host.Cell) (a i : Nat),
    i < a ∨ a + bytes.length ≤ i → eepromRead (eepromWriteBlock mem a bytes) i = eepromRead mem i := by
  induction bytes with
  | nil => intros; rfl
  | cons b rest ih =>
    intro mem a i h
    simp only [List.length_cons] at h
    simp only [eepromWriteBlock]
    rw [ih _ _ _ (by omega), eepromRead_write_ne _ _ (by omega)]

/-- The memory of the machine right after reset has the canonical form. -/
theorem reset_eeprom_wf : Memory.wf State.reset.store.eeprom := by decide

/-! ### The settings -/


theorem Settings.put_wf (S : Settings) (code index : Nat) (v : Int) (h : S.wf) : (S.put code index v).wf :=
  sparseWf_put (u := settingDefault) (settingKey code index) v S.entries h

theorem Settings.get_put_same (S : Settings) (code index : Nat) (v : Int) (h : S.wf) :
    (S.put code index v).get code index = v :=
  sparseGet_put_same (u := settingDefault) (settingKey code index) v S.entries h

theorem Settings.get_put_ne (S : Settings) {c i code index : Nat} (v : Int) (h : settingKey c i ≠ settingKey code index) :
    (S.put code index v).get c i = S.get c i := sparseGet_put_ne h _ _ _ _

theorem defaults_wf (version : Nat) : (Settings.defaults version).wf := rfl

theorem builtIn_wf : Settings.builtIn.wf := Settings.put_wf _ _ _ _ (defaults_wf 0)

theorem settingsOf_wf (version : Nat) (entries : List (Nat × Nat × BitVec 32)) : (settingsOf version entries).wf := by
  unfold settingsOf
  have key : ∀ (l : List (Nat × Nat × BitVec 32)) (S : Settings), S.wf →
      (l.foldl (fun S e => S.put e.1 e.2.1 (settingOfWord e.1 e.2.1 e.2.2)) S).wf := by
    intro l
    induction l with
    | nil => exact fun _ h => h
    | cons e rest ih => exact fun S h => ih _ (Settings.put_wf _ _ _ _ h)
  exact key entries _ (defaults_wf version)

end Sys2Proof.Machine
end

