-- ==== Sys2Proof/Tests/Slice0.lean ====
section
/-! SUPPORT. The model's own tests: ill-formed terms that WellFormed refuses, worked values of the manual, and for every
statement with hypotheses states and operands that meet them. Expected values are the manual's or are worked out by hand
from its rules; the source stands in each docstring. The theorems are elaborated one after another, which keeps the
memory of the build small. -/

set_option Elab.async false

namespace Sys2Proof.Tests

open Sys2Proof.Machine

/-! ### Small states -/

/-- The state after a command. -/
def ran (c : Instr) (s : State) : State :=
  match exec c s with
  | .next t => t
  | _ => s

/-- Node 2 OPS, 3 WTR, 4 MET, 31 SVC; beds 1 and 2 defined with area 4; bed 1 has cannons 1 and 2, bed 2 cannon 2; channel 1
in use for bed 1. -/
def conf : Settings :=
  ⟨7, [(770, 1), (771, 2), (772, 3), (799, 4), (4097, 1), (4098, 1), (4353, 4), (4354, 4), (4609, 65535), (5121, 1),
    (5376, 1), (5377, 2), (5380, 2), (10240, 1)]⟩

/-- AUTOMATIC on the bus, with these settings. -/
def base : State :=
  { State.reset with
    conf := conf
    evalDue := some 60000
    port := { State.reset.port with bus := .joined }
    ctrl := { State.reset.ctrl with mode := .automatic }
    store := { State.reset.store with working := conf } }

/-- A request of a node waits in its inbound queue since time 0. -/
def asked (s : State) (node : Node) (code : Nat) (data : List Byte) : State :=
  if isUrgent code then { s with port := { s.port with urgent := [⟨node, code, data, 0⟩] } }
  else { s with port := { s.port with urgent := [], routine := [⟨node, code, data, 0⟩] } }

/-- Frames in the outbound queue. -/
def holding (s : State) (frames : Nat) : State :=
  { s with port := { s.port with outbound := List.replicate frames (.notice 1 .demand []) } }

/-- The state in another mode. -/
def inMode (s : State) (m : Mode) : State := { s with ctrl := { s.ctrl with mode := m } }

/-- The state at another time. -/
def atTime (s : State) (now : Nat) : State := { s with osc := now }

/-- A long request of node 31 is in progress. -/
def longFor (s : State) (code : Nat) : State := { s with port := { s.port with long := some ⟨31, code⟩ } }

/-- Commands wait in the queue. -/
def waiting (s : State) (commands : List Instr) : State := { s with pending := commands }

/-- A start on cannon 1 for bed 1: RECYCLED, 1000 L, acknowledged, 100 L polled. -/
def startOne : Start := ⟨1, .recycled, 1000, true, some 100, 1, .uncounted⟩

/-- An order of bed 1 with 3000 L remaining. -/
def orderOne (state : OrderState) (start : Option Start) : Order :=
  ⟨9, 1, .autoAct, 3000, 0, false, .any, state, none, start, none, 0, 0, 0⟩

/-- The queue holds these orders. -/
def withOrders (s : State) (orders : List Order) : State := { s with disp := { s.disp with orders := orders } }

/-- Both sources hold 50,000 L; RECYCLED has 1000 L reserved. -/
def withWater (s : State) : State :=
  { s with water := { s.water with
      recycled := ⟨50000, 1000, 0, 0⟩, fresh := ⟨50000, 0, 0, 0⟩, pumps := 2, flowLimit := 6000, slotCapacity := 4,
      flowCapacity := 6000 } }

/-- A cannon record with this activity and last transaction end 0. -/
def cannonIn (s : State) (c : Nat) (a : CannonActivity) : State :=
  s.setCannon c { Cannon.initial with activity := a, lastEnd := some 0 }

/-- Bed 1 is being sprayed by cannon 1. -/
def spraying : State := cannonIn (withOrders (withWater base) [orderOne .spraying (some startOne)]) 1 .spraying

/-- Bed 1's START to cannon 1 is on its way. -/
def granted : State :=
  cannonIn (withOrders (withWater base) [orderOne .granted (some { startOne with acknowledged := false, delivered := none })])
    1 .idle

/-- The transaction in flight, its request sent at time 0. -/
def flight (c : Nat) (k : LineCommand) (sequence : Option Nat) : Transaction :=
  ⟨c, k, lineFrame c k.code k.arguments, sequence, some 0⟩

/-- That transaction is in flight. -/
def flying (s : State) (t : Transaction) : State := { s with line := { s.line with transaction := some t } }

/-- The bytes of a reply with a state and a meter of three bytes. -/
def meterReply (c : Nat) (k : LineCommand) (state : Byte) (meter : Nat) : List Byte :=
  lineFrame c k.code (state :: be24 meter)

/-- The bytes of a reply with a state alone. -/
def stateReply (c : Nat) (k : LineCommand) (state : Byte) : List Byte := lineFrame c k.code [state]

/-! ### Ill-formed commands -/

/-- Every check of WellFormed refuses a term beyond its range (R1, R36, R92, R137, R139, R188, R201). -/
theorem test_ill_formed_refused :
    (Instr.dustPulse 9).wellFormed = false ∧ (Instr.dustPulse 0).wellFormed = false ∧
    (Instr.windowEnd 9 true).wellFormed = false ∧ (Instr.settleTimerExpiry 33).wellFormed = false ∧
    (Instr.claimExpiry 16).wellFormed = false ∧ (Instr.orderExpiry 33).wellFormed = false ∧
    (Instr.pollDue 25).wellFormed = false ∧ (Instr.pingDue 25).wellFormed = false ∧
    (Instr.ping (List.replicate 8 0)).wellFormed = false ∧ (Instr.start (List.replicate 5 0)).wellFormed = false ∧
    (Instr.poll (List.replicate 8 0)).wellFormed = false ∧ (Instr.trim (List.replicate 8 0)).wellFormed = false ∧
    (Instr.stop (List.replicate 8 0)).wellFormed = false ∧ (Instr.test (List.replicate 5 0)).wellFormed = false ∧
    (Instr.requestArrival 0 (List.replicate 9 0)).wellFormed = false ∧
    (Instr.readBack [(8192, 0)]).wellFormed = false := by decide

/-- The same terms at the last value of their range are well-formed. -/
theorem test_boundaries_well_formed :
    (Instr.dustPulse 8).wellFormed = true ∧ (Instr.windowEnd 1 true).wellFormed = true ∧
    (Instr.settleTimerExpiry 32).wellFormed = true ∧ (Instr.claimExpiry 15).wellFormed = true ∧
    (Instr.orderExpiry 1).wellFormed = true ∧ (Instr.pollDue 24).wellFormed = true ∧
    (Instr.ping (List.replicate 9 0)).wellFormed = true ∧ (Instr.start (List.replicate 6 0)).wellFormed = true ∧
    (Instr.requestArrival 0 (List.replicate 8 0)).wellFormed = true ∧
    (Instr.readBack [(8191, 0)]).wellFormed = true := by decide

/-! ### Worked values of the manual -/

/-- R138's example: a POLL to cannon 5 is 7E 05 03 00 FF. -/
theorem test_poll_frame : lineFrame 5 0x03 [] = [0x7E#8, 0x05#8, 0x03#8, 0x00#8, 0xFF#8] := by decide +kernel

/-- R23's example: 150 pulses at 75 read 112; 1000 pulses are clamped to 600. -/
theorem test_mast_speed : mastSpeed 150 75 = 112 ∧ mastSpeed 1000 75 = 600 := by decide

/-- R24's table: Gray 0000 is sector 0, 0001 is 1, 0011 is 2, 1000 is 15. -/
theorem test_gray_sector : graySector 0 = 0 ∧ graySector 1 = 1 ∧ graySector 3 = 2 ∧ graySector 8 = 15 := by decide

/-- R27's example: speeds 100, 120, 140, 90, 95. -/
theorem test_ring_mean_gust : meanOf [100, 120, 140, 90, 95] = 109 ∧ gustOf [100, 120, 140, 90, 95] = 120 := by decide

/-- R28's example, newest first. -/
theorem test_dominant_sector :
    dominantOf [10, 11, 9, 11, 11, 10, 10] = 10 ∧ dominantOf [11, 10, 11, 9, 11, 11, 10, 10] = 11 := by decide

/-- R32's example. -/
theorem test_restore_tolerance :
    agrees 160 200 = true ∧ agrees 140 200 = false ∧ agrees 10 20 = true ∧ agrees 31 20 = false ∧ agrees 0 5 = false := by
  decide

/-- R37's example: n 6000, C 30,000, K 77, baseline 12. -/
theorem test_concentration : grossFigure 30000 77 6000 = 150 ∧ concentrationOf 30000 77 6000 12 = 138 := by decide

/-- R60's example over six evaluations. -/
theorem test_band_steps :
    conf.nextBand .low 13000 = .severe ∧ conf.nextBand .severe 11800 = .severe ∧ conf.nextBand .severe 11400 = .act ∧
    conf.nextBand .act 3600 = .act ∧ conf.nextBand .act 3400 = .watch ∧ conf.nextBand .watch 600 = .watch := by decide

/-- R63's example: A 40, W 830, target 850. -/
theorem test_demand_volume : demandVolume 850 830 40 200 = 160 := by decide

/-- R47's example, with issue 250 held: 3 is new, 200 older, 250 the same. -/
theorem test_issue_age :
    let slots := setNth base.forecast.slots 1 { Slot.empty with hour := some 5 }
    let s : State := { base with forecast := { base.forecast with issue := 250, slots := slots } }
    s.issueAge 3 = .new ∧ s.issueAge 200 = .older ∧ s.issueAge 250 = .same := by decide +kernel

/-- R16's examples: 6000 L on A 100, S 200 raises W by 300; 150 L by 7. -/
theorem test_delivery_wets :
    ((({ base with conf := conf.put 0x11 1 100 } : State).chargeBed 1 6000).bed 1).wetness = 800 ∧
    ((({ base with conf := conf.put 0x11 1 100 } : State).chargeBed 1 150).bed 1).wetness = 507 := by decide

/-- R82's table, with Kslot 2, Nslot 4, Fhead 6000. -/
theorem test_header_table :
    (let w := (ran (.pumpState 3 1 8000) (asked base 3 0x1B [1, 0x1F, 0x40])).water
     (w.slotCapacity, w.flowCapacity) = (2, 6000)) ∧
    (let w := (ran (.pumpState 3 2 4500) (asked base 3 0x1B [2, 0x11, 0x94])).water
     (w.slotCapacity, w.flowCapacity) = (4, 4500)) := by decide +kernel

/-- R87's example: 1200 L/min has an allowance of 200 L, and 204 delivered is charged 200. -/
theorem test_test_charge :
    ({ withWater base with conf := conf.put 0x20 1 1200 } : State).testCharge 1 204 = 200 := by decide

/-- R69's example: 50,000 onto 99,990,000 is CLAMPED at 10,000. -/
theorem test_grant_clamped :
    (ran (.waterGrant 3 0 50000) (asked ({ base with water := { base.water with
      recycled := ⟨99990000, 0, 0, 0⟩ } } : State) 3 0x18 [0, 0, 0, 0xC3, 0x50])).port.outbound =
      [.reply 3 0x18 .clamped [0, 0, 0x27, 0x10]] := by decide +kernel

/-- R79's example with Qlim 40. -/
theorem test_gate_gap :
    gateAfter 40 41 .isOpen = .gated ∧ gateAfter 40 40 .isOpen = .isOpen ∧ gateAfter 40 30 .gated = .isOpen ∧
    gateAfter 40 31 .gated = .gated ∧ gateAfter 40 35 .isOpen = .isOpen := by decide

/-- R121's example: of four starts the later granted are stopped until 2 slots and 4500 L/min fit. -/
theorem test_capacity_drop :
    let S : Settings := ⟨7, conf.entries ++ [(0x2001, 1500), (0x2002, 1200), (0x2003, 1800), (0x2004, 1400)]⟩
    let start (c : Nat) : Start := ⟨c, .recycled, 500, true, none, c, .uncounted⟩
    let order (b c : Nat) : Order := ⟨c, b, .autoAct, 500, 0, false, .any, .spraying, none, some (start c), none, 0, 0, c⟩
    let s : State := { withOrders (withWater base) [order 2 1, order 9 2, order 15 3, order 21 4] with conf := S }
    (ran (.pumpState 3 1 4500) (asked s 3 0x1B [1, 0x11, 0x94])).runningOrders.map Order.bed = [2, 9] := by
  decide +kernel

/-- R104's example: tag 4821, cap 5000, tally 3900, share 800: a cap of 4000 is taken as 4700 and CLAMPED. -/
theorem test_hold_cap_clamped :
    let o := orderOne .spraying (some { startOne with volume := 800, count := .granted })
    let s := (withOrders base [o]).setBed 1 { base.bed 1 with hold := some ⟨5000, 4821, 3900, 0⟩ }
    (ran (.moistureHoldSet 2 1 4000 4821) (asked s 2 0x10 [1, 0, 0x0F, 0xA0, 0x12, 0xD5])).port.outbound =
      [.reply 2 0x10 .clamped [0, 0x12, 0x5C, 0, 39]] := by decide +kernel

/-- R107's example: 3000 L trimmed at 1100 delivered with a hold of 800 leaves 1900. -/
theorem test_trim_volume :
    let s := (withOrders (withWater base) [orderOne .spraying (some { startOne with volume := 3000 })])
    (((s.takeTrim 1 1100 800 0).order 1).bind Order.start).map Start.volume = some 1900 := by decide +kernel

/-- R187's example: day 811, 86,350 s becomes day 812, 120 s: the now hour goes to 19,488 and the day's use to 0. -/
theorem test_time_set :
    let s : State := { base with ctrl := { base.ctrl with day := 811, seconds := 86350 }, water := { base.water with freshToday := 9 } }
    let t := ran (.timeSet 4 812 120) (asked s 4 0x22 [0x03, 0x2C, 0, 0, 120])
    s.nowHour = 19487 ∧ t.nowHour = 19488 ∧ t.water.freshToday = 0 := by decide +kernel

/-- R191's examples: a WTR node's ZONE_CLAIM is REFUSED_CLASS, a short one of an OPS node BAD_LENGTH, and extra bytes are
ignored. -/
theorem test_arrivals :
    (ran (.requestArrival 0x083 [1]) base).port.outbound = [.reply 3 0x04 .refusedClass []] ∧
    (ran (.requestArrival 0x082 [1, 1, 1]) base).port.outbound = [.reply 2 0x04 .badLength []] ∧
    (ran (.requestArrival 0x082 [1, 1, 1, 2, 9, 9]) base).port.urgent = [⟨2, 0x04, [1, 1, 1, 2], 0⟩] := by decide +kernel

/-- The worked example of the Risk Engine, bed 7: R 7039, band ACT, W 295, a PREWET demand of 6000 L. -/
theorem test_evaluation_of_bed_seven :
    let S : Settings := ⟨0, [(0x1007, 1), (0x1107, 100), (0x1207, 1024), (0x1307, 30), (0x1407, 5)]⟩
    let slot (hour mean gust sector : Nat) : Slot := ⟨some hour, some mean, some gust, some sector, none, none, none⟩
    let s0 : State := { base with
      conf := S, osc := 420000
      ctrl := { base.ctrl with day := 812, seconds := 50400 }
      meas := { base.meas with live := some ⟨112, 168, 10⟩ }
      forecast := ⟨41, true, setNth (setNth (setNth (setNth base.forecast.slots 1 (slot 19502 120 170 10))
        2 (slot 19503 170 240 10)) 3 (slot 19504 150 220 4)) 4 (slot 19505 130 190 9), some (40, 0), some (24, 0)⟩ }
    let s := (s0.setBed 7 { s0.bed 7 with wetness := 300 }).setChannel 5
      { s0.channel 5 with state := .measuring, held := some 90 }
    let t := ran .evaluation s
    ((t.bed 7).risk, (t.bed 7).band, (t.bed 7).wetness) = (7039, .act, 295) ∧
      (t.order 7).map (fun o => (o.remaining, o.origin)) = some (6000, .prewet) := by decide +kernel

/-- The worked example of a mast that seizes: its 60th second of 0 against 188 fails it, and the ring starts again. -/
theorem test_mast_seizes :
    let s : State := { base with meas := { base.meas with
      secondDue := some 60000, mastA := { base.meas.mastA with zeroRun := 59 }
      mastB := { base.meas.mastB with pulses := 251 }, ring := [⟨180, 10⟩] } }
    let m := (ran (.endOfSecond 0xF 0xF) s).meas
    (m.mastA.health, m.mastA.zeroRun, m.basis, m.ring) = (.failed, 0, .liveB, [⟨188, 10⟩]) := by decide +kernel

/-- The worked example of two machines over one row: machine 5's RECLAIMED is folded into machine 2's kept state for the bed
they share, and makes the other bed FRESH. -/
theorem test_release_folded :
    let S : Settings := ⟨0, [(770, 1), (0x1004, 1), (0x1005, 1), (0x1006, 1)]⟩
    let s0 : State := { base with conf := S, zones := ⟨[⟨5, .reclaim, 5, 6, 0, [(5, .settled), (6, .settled)]⟩,
      ⟨2, .stack, 4, 5, 0, [(4, .settled), (5, .settled)]⟩], []⟩ }
    let s := ((s0.setBed 4 { s0.bed 4 with surface := .worked, wetness := 420 }).setBed 5
      { s0.bed 5 with surface := .worked, wetness := 420 }).setBed 6 { s0.bed 6 with surface := .worked, wetness := 420 }
    let t := ran (.zoneRelease 2 5 2) (asked s 2 0x05 [5, 2])
    ((t.bed 5).surface, (t.bed 6).surface, (t.bed 6).wetness, (t.claimOf 2).map Claim.prior) =
      (.worked, .fresh, 420, some [(4, .settled), (5, .fresh)]) := by decide +kernel

/-- The end of that example: machine 2 releases STACKED, and its beds are FRESH at W 120. -/
theorem test_release_stacked :
    let S : Settings := ⟨0, [(770, 1), (0x1004, 1), (0x1005, 1)]⟩
    let s0 : State := { base with conf := S, zones := ⟨[⟨2, .stack, 4, 5, 0, [(4, .settled), (5, .fresh)]⟩], []⟩ }
    let s := (s0.setBed 4 { s0.bed 4 with surface := .worked, wetness := 420 }).setBed 5 { s0.bed 5 with surface := .worked }
    let t := ran (.zoneRelease 2 2 1) (asked s 2 0x05 [2, 1])
    ((t.bed 4).surface, (t.bed 4).wetness, (t.bed 5).surface, t.zones.entries) = (.fresh, 120, .fresh, []) := by
  decide +kernel

/-! ### States and operands that meet the hypotheses of the statements, clause by clause -/

/-- A table with every entry equal reads that entry at a number or its default. -/
theorem nth_replicate_or {α : Type} {n : Nat} (x d : α) (k : Nat) :
    nth (Vector.replicate n x) d k = x ∨ nth (Vector.replicate n x) d k = d := by
  unfold nth
  by_cases hk : k = 0
  · simp [hk]
  · by_cases h : k - 1 < n
    · simp [hk, h]
    · simp [hk, h]

/-- A queue with a command in front, and an empty one. -/
theorem witness_StepRunsFrontCommand :
    (waiting base [.frameSent, .evaluation]).pending = .frameSent :: [.evaluation] ∧ base.pending = [] := ⟨rfl, rfl⟩

theorem witness_CommandsLeaveTheQueue :
    exec .busOff base = .next { base with port := { base.port with bus := .busOff } } := rfl

/-- The last second of the last day, and the step that ends it. -/
theorem witness_ClockStaysInRange :
    let s := waiting { base with ctrl := { base.ctrl with seconds := 86399, day := 65535 } } [.yardSecond]
    s.clockLaw ∧ ∃ t, step s = .next t ∧ t.ctrl.seconds = 0 ∧ t.ctrl.day = 0 := by
  refine ⟨by decide, _, rfl, by decide +kernel, by decide +kernel⟩

/-- Every queue full, and a request arriving. -/
theorem witness_BusQueuesStayBounded :
    let r : Request := ⟨2, 0x04, [], 0⟩
    let s : State := { holding base 24 with port := { (holding base 24).port with
      urgent := List.replicate 8 r, routine := List.replicate 32 r }, pending := [.requestArrival 0x082 [1, 0, 1, 2]] }
    s.queueLaw ∧ ∃ t, step s = .next t ∧ t.port.urgent.length = 8 := by
  refine ⟨by decide, _, rfl, by decide +kernel⟩

/-- 32 records, the newest an OVERFLOW. -/
theorem witness_RecordQueueStaysBounded :
    let r (k : RecordKind) : Record := ⟨k, 1, 0, 0, 0, none, ⟨true, false, false⟩⟩
    let s := waiting { base with recs := { base.recs with queue := List.replicate 31 (r .overrun) ++ [r .overflow] } }
      [.lineFault]
    recordLaw s.recs.queue ∧ ∃ t, step s = .next t ∧ t.recs.queue.length = 32 := by
  refine ⟨by decide, _, rfl, by decide +kernel⟩

/-- Every bed at W 1000, and rain. -/
theorem witness_WetnessStaysInRange :
    let s := waiting (asked { base with beds := { base.beds with records := Vector.replicate 32 (Bed.initial 1000) } }
      4 0x21 [0, 24, 255, 128]) [.weatherNow 4 24 255 128]
    s.wetnessLaw ∧ ∃ t, step s = .next t ∧ (t.bed 1).wetness = 1000 := by
  refine ⟨⟨fun b => ?_, by decide, by decide⟩, _, rfl, by decide +kernel⟩
  rcases nth_replicate_or (n := 32) (Bed.initial 1000) (Bed.initial 0) b with h | h <;>
    · show (nth (Vector.replicate 32 (Bed.initial 1000)) (Bed.initial 0) b).wetness ≤ 1000
      rw [h]; decide

/-- Orders in every state but GRANTED, on the first and last bed and cannon, and an attempt. -/
theorem witness_OrdersStayLawful :
    let s := waiting (withOrders spraying [orderOne .spraying (some startOne),
      { orderOne .stopping (some { startOne with cannon := 24 }) with bed := 32 }, { orderOne .waiting none with bed := 2 }])
      [.dispatchAttempt]
    s.orderLaw ∧ ∃ t, step s = .next t := by
  refine ⟨by decide, _, rfl⟩

/-- Every cannon at 199, and a good PING reply. -/
theorem witness_ScoresStayBounded :
    let s := waiting { base with line := { base.line with cannons := Vector.replicate 24 { Cannon.initial with score := 199 } } }
      [.lineReturn]
    s.scoreLaw ∧ ∃ t, step s = .next t := by
  refine ⟨fun c => ?_, _, rfl⟩
  rcases nth_replicate_or (n := 24) { Cannon.initial with score := 199 } Cannon.initial c with h | h <;>
    · show (nth (Vector.replicate 24 { Cannon.initial with score := 199 }) Cannon.initial c).score ≤ 199
      rw [h] <;> decide

/-- Bytes at both ends of the EEPROM, and a page written. -/
theorem witness_EepromStaysCanonical :
    let s := waiting { base with store := { base.store with eeprom := [(0, 1), (8191, 2)], commit := some ⟨[5, 255], 0, 0⟩ } }
      [.pageWriteDone]
    Memory.wf s.store.eeprom ∧ ∃ t, step s = .next t ∧ t.store.eeprom = [(0, 5), (8191, 2)] := by
  refine ⟨by decide, _, rfl, by decide +kernel⟩

/-- Each mode with what it may hold. -/
theorem witness_ModesKeepTheirLaw :
    let drain : State := longFor (inMode { spraying with ctrl := { base.ctrl with drain := some 30000 } } .maintenance) 0x33
    let held := inMode { spraying with ctrl := { base.ctrl with operator := true } } .hold
    let commit := longFor (inMode { base with store := { base.store with commit := some ⟨[1], 0, 0⟩ } } .maintenance) 0x32
    (spraying.orderLaw ∧ spraying.modeLaw ∧ ∃ t, step spraying = .next t) ∧
    drain.modeLaw ∧
    held.modeLaw ∧ commit.modeLaw ∧ (inMode base .fallback).modeLaw := by
  refine ⟨⟨by decide, by decide, _, rfl⟩, by decide, by decide, by decide, by decide⟩

/-- A RECYCLED start in progress, whose limit is reserved. -/
theorem witness_ReservationsMatchTheStarts :
    let s := waiting spraying [.lineFault]
    s.orderLaw ∧ s.modeLaw ∧ s.reservedLaw ∧ ∃ t, step s = .next t := by
  refine ⟨by decide, by decide, fun w => ?_, _, rfl⟩
  cases w <;> decide

/-- A spray running as ALL_HOLD comes, and as a claim comes over its bed. -/
theorem witness_RunningOrdersKeepClear :
    let s := waiting (asked spraying 4 0x01 []) [.allHold 4]
    let u := waiting (asked spraying 2 0x04 [1, 0, 1, 2]) [.zoneClaim 2 1 0 1 2]
    (s.orderLaw ∧ s.modeLaw ∧ s.runLaw ∧ ∃ t, step s = .next t ∧ t.runningOrders = []) ∧
    (u.orderLaw ∧ u.modeLaw ∧ u.runLaw ∧ ∃ t, step u = .next t ∧ t.runningOrders = []) := by
  refine ⟨⟨by decide, by decide, by decide, _, rfl, by decide +kernel⟩, by decide, by decide, by decide, _, rfl,
    by decide +kernel⟩

/-- A FRESH start that has reserved the last litre under the cap, and its end. -/
theorem witness_FreshUseStaysWithinTheCap :
    let start : Start := { startOne with source := .fresh }
    let order := orderOne .spraying (some start)
    let s0 : State := { spraying with water := { spraying.water with
      recycled := ⟨50000, 0, 0, 0⟩, fresh := ⟨50000, 1000, 0, 0⟩, freshToday := 149000 } }
    let s := waiting (flying (withOrders s0 [order]) (flight 1 .poll (some 1))) [.poll (meterReply 1 .poll 0 1000)]
    s.orderLaw ∧ s.modeLaw ∧ s.reservedLaw ∧ s.freshLaw ∧ ∃ t, step s = .next t ∧ t.water.freshToday = 150000 := by
  refine ⟨by decide, by decide, fun w => ?_, ⟨by decide, fun c => ?_⟩, _, rfl, by decide +kernel⟩
  · cases w <;> decide
  · have key : ∀ c ∈ cannonNumbers, (spraying.cannon c).test = .none := by decide +kernel
    by_cases h : 1 ≤ c ∧ c ≤ 24
    · exact fun hc => absurd (key c ((mem_cannonNumbers c).2 h)) hc
    · exact fun hc => absurd (congrArg Cannon.test (nth_outside _ _ (by omega))) hc

/-- ALL_HOLD moves AUTOMATIC to HOLD. -/
theorem witness_ModeMovesByTheTable :
    ∃ t, exec (.allHold 4) (asked base 4 0x01 []) = .next t ∧ t.ctrl.mode = .hold :=
  ⟨_, rfl, by decide +kernel⟩

/-! #### The Yard Bus Port -/

/-- An urgent and a routine request at the head; one that waits for room, one 5 s old, and a second long one. -/
theorem witness_RequestsAreTakenInOrder :
    (asked base 2 0x04 []).port.urgent = [⟨2, 0x04, [], 0⟩] ∧
    ((asked base 3 0x18 []).port.urgent = [] ∧ (asked base 3 0x18 []).port.routine = [⟨3, 0x18, [], 0⟩]) ∧
    requestOf (.settingCommit 31) = some (31, 0x32, []) ∧
    (holding (asked base 31 0x32 []) 24).takes 31 0x32 [] = false ∧
    ((atTime (asked base 31 0x32 []) 5000).takes 31 0x32 [] = true ∧
      (atTime (asked base 31 0x32 []) 5000).nextStale = true) ∧
    ((longFor (atTime (asked base 31 0x32 []) 4999) 0x33).takes 31 0x32 [] = true ∧
      (longFor (atTime (asked base 31 0x32 []) 4999) 0x33).nextStale = false ∧ isLong 0x32 = true ∧
      (longFor (atTime (asked base 31 0x32 []) 4999) 0x33).port.long.isSome = true) := by decide

/-- Identifiers of a code that is no request, and of a request from a node of no class, a wrong class and a right class; the
last places of both inbound queues, and a full one. -/
theorem witness_ArrivingRequests :
    let r : Request := ⟨2, 0x04, [], 0⟩
    let urgent (n : Nat) : State := { base with port := { base.port with urgent := List.replicate n r } }
    let routine (n : Nat) : State := { base with port := { base.port with routine := List.replicate n r } }
    (base.port.bus = .joined ∧ base.ctrl.mode ≠ .starting) ∧ (inMode base .starting).ctrl.mode = .starting ∧
    requestInfo (identifierCode 0x7A2) = none ∧ requestInfo (identifierCode 0x082) = some ([.ops], 4) ∧
    base.classOf (identifierNode 0x089) = .none ∧
    (base.classOf (identifierNode 0x083) ≠ .none ∧ base.classOf (identifierNode 0x083) ∉ [NodeClass.ops]) ∧
    (base.classOf (identifierNode 0x082) ≠ .none ∧ base.classOf (identifierNode 0x082) ∈ [NodeClass.ops]) ∧
    ([1, 1, 1] : List Byte).length < 4 ∧ 4 ≤ ([1, 1, 1, 2] : List Byte).length ∧
    (identifierCode 0x082 < 16 ∧ (urgent 7).port.urgent.length < 8 ∧ 8 ≤ (urgent 8).port.urgent.length) ∧
    (16 ≤ identifierCode 0x202 ∧ (routine 31).port.routine.length < 32 ∧ 32 ≤ (routine 32).port.routine.length) := by
  decide

theorem witness_FrameSentFreesAnEntry :
    ((base.port.bus ≠ .joined ∨ base.port.outbound = []) ∧
      (holding base 24).port.bus = .joined ∧
      (holding base 24).port.outbound = .notice 1 .demand [] :: List.replicate 23 (.notice 1 .demand [])) ∧
    (24 < (List.replicate 20 (Frame.notice 1 .demand [])).length + 5 + (if (holding base 21).port.long.isSome then 1 else 0)) := by
  decide

theorem witness_BusOffAndRecovery :
    base.port.bus = .joined ∧ ({ base.port with bus := .busOff } : Port).bus = .busOff ∧
      State.reset.port.bus ≠ .joined ∧ State.reset.port.bus ≠ .busOff := by decide

/-! #### Resets and the load -/

/-- A reset that cuts a page write, and one that cuts none; an address before, and one behind, the page in doubt. -/
theorem witness_ResetsReturnToTheResetState :
    let s : State := { base with store := { base.store with commit := some ⟨List.replicate 100 1, 1, 0⟩ } }
    (Instr.externalReset = .powerOnReset ∧ ResetKind.external = .powerOn ∨
      Instr.externalReset = .externalReset ∧ ResetKind.external = .external) ∧
    s.store.commit = some ⟨List.replicate 100 1, 1, 0⟩ ∧ base.store.commit = none ∧ 31 < 1 * 32 ∧ 1 * 32 + 32 ≤ 64 := by decide

/-- A load in STARTING with no valid image, with one that holds no item, and one after a settings restart. -/
theorem witness_LoadTakesTheImage :
    let image : List Byte := [0, 6, 0, 9, 0xFF, 0xFF]
    let restart : State := { State.reset with store := { State.reset.store with
      resetKind := .settingsRestart, verified := some image } }
    (base.ctrl.mode ≠ .starting ∧ State.reset.ctrl.mode = .starting ∧ State.reset.disp.orders = []) ∧
    judgeImage (State.reset.loadImage false) = none ∧
    (restart.ctrl.mode = .starting ∧ restart.disp.orders = [] ∧ restart.loadImage true = image ∧
      (judgeImage image).isSome = true) ∧
    State.reset.store.resetKind ≠ .settingsRestart := by decide +kernel

/-! #### Masts, channels, forecast and risk -/

/-- A dust channel whose window is due at 60 s. -/
def channelWith (ch : Nat) (r : Channel) : State := base.setChannel ch r

/-- A measuring channel that has counted `count` pulses. -/
def measuring (count : Nat) : Channel :=
  { Channel.initial with state := .measuring, windowDue := some 60000, count := count }

theorem witness_PulsesAreCounted :
    (base.channel 1).windowDue = none ∧ ((channelWith 8 (measuring 65535)).channel 8).windowDue.isSome = true := by decide

/-- No second running; and the last second of a calm mast A's run, and the one before it. -/
theorem witness_SecondsEnd :
    let s (run : Nat) : State := { base with meas := { base.meas with
      secondDue := some 1000, mastA := { base.meas.mastA with zeroRun := run }, mastB := { base.meas.mastB with pulses := 40 } } }
    base.meas.secondDue = none ∧ (s 59).meas.secondDue = some 1000 ∧
    ((s 59).meas.mastA.health = .healthy ∧ (s 59).meas.mastB.health = .healthy ∧
      min 600 ((s 59).meas.mastA.pulses * (s 59).conf.kAn .a / 100) = 0 ∧
      30 ≤ min 600 ((s 59).meas.mastB.pulses * (s 59).conf.kAn .b / 100)) ∧
    (s 58).meas.mastA.zeroRun + 1 < 60 ∧ 60 ≤ (s 59).meas.mastA.zeroRun + 1 ∧
    (ran (.endOfSecond 0 0) (s 58)).meas.basis = .liveA ∧ (ran (.endOfSecond 0 0) (s 59)).meas.basis = .liveB := by decide +kernel

theorem witness_LiveFiguresOfTheRing :
    ([⟨10, 1⟩, ⟨20, 2⟩] : List Sample) ≠ [] ∧ ([⟨10, 1⟩, ⟨20, 2⟩] : List Sample).length ≤ 2 ∧
    2 < ([⟨10, 1⟩, ⟨20, 2⟩, ⟨30, 2⟩] : List Sample).length := by decide

/-- Windows of every kind: none; ordinary with a count at and below the last; zero windows clean and dirty; an unlatched
channel at the last window of its run and before it; a latched one likewise. -/
theorem witness_DustWindowsEnd :
    let due (r : Channel) : Bool := ((channelWith 1 r).channel 1).windowDue == some 60000
    let zero (count : Nat) : Channel := { measuring count with state := .zeroing, zeroWindow := true }
    let q (r : Channel) (ready : Bool) : Channel := (ran (.windowEnd 1 ready) (channelWith 1 r)).channel 1
    (base.channel 1).windowDue = none ∧
    (due (measuring 65535) ∧ due (zero 65534) ∧ (zero 65534).zeroWindow = true) ∧
    ((q { measuring 60000 with baseline := 10 } true).held = some 290 ∧ (q (measuring 60000) true).aboveRun = 0) ∧
    ((q (measuring 65535) true).aboveRun = 1 ∧ (q { measuring 65535 with aboveRun := 2 } true).latched = true) ∧
    ((q { measuring 39000 with latched := true } true).belowRun = 1 ∧
      (q { measuring 39000 with latched := true, belowRun := 2 } true).latched = false ∧
      (q { measuring 50000 with latched := true, belowRun := 2 } true).belowRun = 0) ∧
    ((q (zero 65534) true).baseline = 328 ∧ (q (zero 65535) true).dirty = true) ∧
    ((q (measuring 5) false).state = .faultNotReady ∧ (q { measuring 5 with held := some 9 } false).held = none) ∧
    (q { zero 5 with held := some 9 } true).held = some 9 := by decide +kernel

/-- Slot 0, an older issue, a newer one 127 ahead, and the one held. -/
theorem witness_ForecastSlots :
    let slots := setNth base.forecast.slots 1 { Slot.empty with hour := some 5 }
    let s (i slot part : Byte) : State := asked { base with forecast := { base.forecast with issue := 250, slots := slots } }
      4 0x20 (i :: slot :: part :: be40 1)
    (s 3 0 2).ready 4 0x20 (3 :: 0 :: 2 :: be40 (1#40).toNat) ∧
    ((s 200 12 2).ready 4 0x20 (200 :: 12 :: 2 :: be40 (1#40).toNat) ∧ (s 200 12 2).tableEmpty = false ∧
      (200 + 256 - 250) % 256 = 206) ∧
    ((s 121 12 2).ready 4 0x20 (121 :: 12 :: 2 :: be40 (1#40).toNat) ∧ (121 + 256 - 250) % 256 = 127) ∧
    ((s 250 1 0).ready 4 0x20 (250 :: 1 :: 0 :: be40 (1#40).toNat) ∧ (250 + 256 - 250) % 256 = 0) := by decide

/-- Readings absent; readings present, with a temperature at, one above and two above the freeze limit of 2. -/
theorem witness_WeatherReports :
    (asked base 4 0x21 [0xFF, 0xFF, 255, 128]).ready 4 0x21 (be16 (0xFFFF#16).toNat ++ [255, 128]) ∧
    (asked base 4 0x21 [0, 24, 101, 2]).ready 4 0x21 (be16 (24#16).toNat ++ [101, 2]) ∧
    base.conf.tFreeze = 2 ∧ (max (-40) (min 60 (2#8).toInt) : Int) ≤ 2 ∧ (2 + 2 : Int) ≤ max (-40) (min 60 (4#8).toInt) ∧
    (base.conf.bedDefined 2 = true ∧ (base.bed 2).surface ≠ .empty ∧ base.conf.bedDefined 3 = false) := by decide

/-- An evaluation due; beds defined, undefined and EMPTY; both computations. -/
theorem witness_EvaluationWritesEveryBed :
    let s := base.setBed 1 { base.bed 1 with surface := .empty }
    State.reset.evalDue = none ∧ s.evalDue = some 60000 ∧
    (s.conf.bedDefined 1 = true ∧ (s.bed 1).surface = .empty) ∧
    (s.conf.bedDefined 2 = true ∧ (s.bed 2).surface ≠ .empty) ∧ s.conf.bedDefined 32 = false ∧
    s.meas.basis ≠ .none ∧
    (let blind : State := { base with meas := { base.meas with basis := .none } }
     blind.ctrl.mode = .automatic ∧ blind.meas.basis = .none ∧ blind.forecast.live = false) := by decide

/-- The built-in thresholds rise; risks at each clause's end. -/
theorem witness_BandsMoveByRisk :
    (0 < conf.tWatch ∧ conf.tWatch < conf.tAct ∧ conf.tAct < conf.tSev) ∧
    Band.low.code < (conf.riskBand 12000).code ∧
    ((conf.riskBand 11499).code ≤ Band.severe.code ∧ 11499 + conf.hysteresis < conf.entryOf .severe) ∧
    ((conf.riskBand 11500).code ≤ Band.severe.code ∧ conf.entryOf .severe ≤ 11500 + conf.hysteresis) ∧
    conf.entryOf .low ≤ conf.hysteresis := by decide

/-! #### The Water Account -/

theorem witness_GrantsAndWithdrawals :
    (asked base 3 0x18 (2 :: be32 5)).ready 3 0x18 (2#8 :: be32 (5#32).toNat) ∧
    (asked base 3 0x19 (2 :: be32 5)).ready 3 0x19 (2#8 :: be32 (5#32).toNat) ∧
    (asked base 3 0x18 (0 :: be32 4294967295)).ready 3 0x18 (0#8 :: be32 (4294967295#32).toNat) ∧
    (asked base 3 0x18 (1 :: be32 0)).ready 3 0x18 (1#8 :: be32 (0#32).toNat) ∧
    (asked spraying 3 0x19 (0 :: be32 49001)).ready 3 0x19 (0#8 :: be32 (49001#32).toNat) ∧
    (asked base 3 0x19 (1 :: be32 1)).ready 3 0x19 (1#8 :: be32 (1#32).toNat) := by decide

/-- A closing at 41 with a RECYCLED start running, an opening at 30, and a reading that moves nothing. -/
theorem witness_QualityGate :
    let s := asked spraying 3 0x1A [0, 41]
    let u := asked { base with water := { base.water with gate := .gated } } 3 0x1A [0, 30]
    (s.ready 3 0x1A (be16 (41#16).toNat) ∧ s.orderLaw ∧ s.water.gate = .isOpen ∧
      (ran (.waterQuality 3 41) s).water.gate = .gated) ∧
    (u.ready 3 0x1A (be16 (30#16).toNat) ∧ u.water.gate = .gated ∧ (ran (.waterQuality 3 30) u).water.gate = .isOpen) ∧
    (let v := asked base 3 0x1A [0x0F, 0xA1]
     v.ready 3 0x1A (be16 (4001#16).toNat) ∧ (asked base 3 0x1A [0, 40]).ready 3 0x1A (be16 (40#16).toNat)) := by decide +kernel

/-- A drop to no pump with a start running, and a rise. -/
theorem witness_PumpStates :
    let s := asked spraying 3 0x1B [0, 0, 0]
    let u := asked base 3 0x1B [9, 0xFF, 0xFF]
    (s.ready 3 0x1B (0 :: be16 (0#16).toNat) ∧ s.orderLaw ∧
      (ran (.pumpState 3 0 0) s).water.slotCapacity < s.water.slotCapacity) ∧
    (u.ready 3 0x1B (9 :: be16 (65535#16).toNat) ∧
      u.water.slotCapacity < (ran (.pumpState 3 9 65535) u).water.slotCapacity) := by decide +kernel

/-- No timer; a timer, with room for both notices, and with none. -/
theorem witness_UsagePeriodsEnd :
    let s : State := { base with water := { base.water with
      usageDue := some 900000, recycled := ⟨0, 0, 500, 0⟩, fresh := ⟨0, 0, 4294967295, 1⟩ } }
    base.water.usageDue = none ∧ s.water.usageDue = some 900000 ∧ s.classes .waterUse ≠ 0 ∧
    6 ≤ (holding s 18).free ∧ (holding s 20).free < 5 := by decide

/-- A query of each kind, with parts at and past the last. -/
theorem witness_QueriesChangeNothing :
    let held : State := base.setBed 1 { base.bed 1 with hold := some ⟨5000, 4821, 3900, 0⟩, lastSprayEnd := some 0 }
    (asked base 2 0x29 [0, 5]).ready 2 0x29 [0, 5] ∧ base.conf.bedDefined (0#8).toNat = false ∧
    ((asked base 2 0x29 [2, 6]).ready 2 0x29 [2, 6] ∧ base.conf.bedDefined (2#8).toNat = true) ∧
    ((asked base 2 0x29 [1, 1]).ready 2 0x29 [1, 1] ∧ (base.bed 1).lastSprayEnd = none ∧ (base.bed 1).hold = none) ∧
    ((asked held 2 0x29 [1, 3]).ready 2 0x29 [1, 3] ∧ (held.bed 1).lastSprayEnd = some 0 ∧
      (held.bed 1).hold = some ⟨5000, 4821, 3900, 0⟩) ∧
    ((asked base 3 0x2A [6]).ready 3 0x2A [6] ∧ (asked base 3 0x2A [7]).ready 3 0x2A [7]) ∧
    ((asked base 2 0x2B [25, 0]).ready 2 0x2B [25, 0] ∧ (asked base 2 0x2B [24, 3]).ready 2 0x2B [24, 3] ∧
      (asked base 2 0x2B [1, 2]).ready 2 0x2B [1, 2]) ∧
    ((asked base 31 0x28 [1]).ready 31 0x28 [1] ∧ (asked base 31 0x28 [2]).ready 31 0x28 [2]) ∧
    ((asked base 31 0x31 [0x50, 3]).ready 31 0x31 [0x50, 3] ∧ base.store.commit = none ∧
      (itemRange (0x50#8).toNat (3#8).toNat).isSome = true ∧ itemRange (0x50#8).toNat (6#8).toNat = none) := by decide

/-! #### Zones and moisture holds -/

/-- A claim of machine 3 over beds 1 and 2, in force since time 0. -/
def claimed (a : ZoneActivity) : State :=
  { base with zones := ⟨[⟨3, a, 1, 2, 0, [(1, .settled), (2, .settled)]⟩], []⟩ }

/-- A bad value, an undefined bed, a full table, a new claim over a spray, and the same claim again. -/
theorem witness_ZoneClaims :
    let full : State := { base with zones := ⟨(numbersFrom 1 8).map (fun m => ⟨m, .travel, 1, 1, 0, []⟩), []⟩ }
    let ask (s : State) (m a f l : Byte) : State := asked s 2 0x04 [m, a, f, l]
    ((ask base 16 0 1 2).ready 2 0x04 [16, 0, 1, 2] ∧ 15 < (16#8).toNat) ∧
    ((ask base 15 3 1 3).ready 2 0x04 [15, 3, 1, 3] ∧ base.conf.bedDefined (3#8).toNat = false) ∧
    ((ask full 9 0 1 2).ready 2 0x04 [9, 0, 1, 2] ∧ full.claimOf (9#8).toNat = none ∧ 8 ≤ full.zones.entries.length) ∧
    ((ask spraying 1 1 1 2).ready 2 0x04 [1, 1, 1, 2] ∧ activityOf 1#8 = some .stack ∧
      (ask spraying 1 1 1 2).claimOf (1#8).toNat = none ∧ (ask spraying 1 1 1 2).zones.entries.length < 8 ∧
      (ask spraying 1 1 1 2).conf.bedDefined (1#8).toNat = true ∧ (ask spraying 1 1 1 2).conf.bedDefined (2#8).toNat = true ∧
      (ask spraying 1 1 1 2).orderLaw) ∧
    ((ask (claimed .load) 3 3 1 2).ready 2 0x04 [3, 3, 1, 2] ∧
      (claimed .load).claimOf (3#8).toNat = some ⟨3, .load, 1, 2, 0, [(1, .settled), (2, .settled)]⟩ ∧
      activityOf 3#8 = some .load) := by decide

/-- A release by each outcome and an expiry, on beds left without cover and on one still covered. -/
theorem witness_ReleasesAndClaimExpiries :
    let e : Claim := ⟨3, .stack, 1, 2, 0, [(1, .settled), (2, .settled)]⟩
    let s0 : State := { base with zones := ⟨[e, ⟨4, .reclaim, 2, 2, 0, [(2, .settled)]⟩], []⟩ }
    let s := (s0.setBed 1 { s0.bed 1 with surface := .worked }).setBed 2 { s0.bed 2 with surface := .worked }
    let others := s.zones.entries.filter (fun x => x.machine != 3)
    s.claimOf e.machine = some e ∧
    ((asked s 2 0x05 [3, 0]).ready 2 0x05 [3, 0] ∧ (asked s 2 0x05 [3, 3]).ready 2 0x05 [3, 3]) ∧
    (others.any (fun x => decide (x.first ≤ 1 ∧ 1 ≤ x.last) && x.activity.touches) = false ∧
      others.any (fun x => decide (x.first ≤ 2 ∧ 2 ≤ x.last) && x.activity.touches) = true) ∧
    (s.bed 1).surface = .worked := by decide

/-- A hold on no bed, on a bed without one, with the same tag, with another. -/
theorem witness_MoistureHolds :
    let held : State := base.setBed 1 { base.bed 1 with hold := some ⟨5000, 4821, 3900, 0⟩ }
    let put (s : State) (b : Byte) : State := asked s 2 0x10 (b :: (be24 16000001 ++ be16 4821))
    let drop (s : State) (b : Byte) : State := asked s 2 0x11 (b :: be16 4821)
    ((put base 33).ready 2 0x10 (33#8 :: be24 (16000001#24).toNat ++ be16 (4821#16).toNat) ∧
      base.conf.bedDefined (33#8).toNat = false) ∧
    ((put base 1).ready 2 0x10 (1#8 :: be24 (16000001#24).toNat ++ be16 (4821#16).toNat) ∧ (base.bed 1).hold = none ∧
      base.conf.bedDefined (1#8).toNat = true) ∧
    ((put held 1).ready 2 0x10 (1#8 :: be24 (16000001#24).toNat ++ be16 (4821#16).toNat) ∧
      (held.bed 1).hold = some ⟨5000, 4821, 3900, 0⟩) ∧
    ((drop base 33).ready 2 0x11 (33#8 :: be16 (4821#16).toNat) ∧ (drop base 1).ready 2 0x11 (1#8 :: be16 (4821#16).toNat) ∧
      (drop held 1).ready 2 0x11 (1#8 :: be16 (4821#16).toNat)) := by decide

/-! #### Spray orders -/

/-- No such bed, a bad preference, a new order, and a merge into a waiting and into a spraying one. -/
theorem witness_ManualOrders :
    let ask (s : State) (b p : Byte) : State := asked s 2 0x12 (b :: (be24 100001 ++ [p]))
    let ready (s : State) (b p : Byte) : Prop := (ask s b p).ready 2 0x12 (b :: be24 (100001#24).toNat ++ [p])
    ready base 0 0 ∧ (ready base 1 3 ∧ 2 < (3#8).toNat) ∧
    (ready base 1 2 ∧ base.conf.bedDefined (1#8).toNat = true ∧ preferenceOf 2#8 = some .fresh ∧ base.order (1#8).toNat = none) ∧
    (ready spraying 1 0 ∧ spraying.order (1#8).toNat = some (orderOne .spraying (some startOne))) ∧
    (ready (withOrders base [orderOne .waiting none]) 1 1 ∧
      (withOrders base [orderOne .waiting none]).order (1#8).toNat = some (orderOne .waiting none)) := by decide

/-- A request that changes the preference alone is a cause of an attempt, and the same request again is none. -/
theorem witness_ManualOrders_repeated :
    let o : Order := { orderOne .waiting none with origin := .manual, manual := true, remaining := 100000 }
    let t (p : Byte) : State := ran (.manualSpray 2 1 100001 p) (asked (withOrders base [o]) 2 0x12 (1 :: (be24 100001 ++ [p])))
    (t 0).order 1 = some o ∧ (t 0).disp.attempt = false ∧ (t 1).disp.attempt = true := by decide +kernel

/-- No order; a waiting, a spraying and a stopping one; the life of an automatic and of a manual one. -/
theorem witness_CancelsAndExpiries :
    let one (st : OrderState) : State := withOrders spraying [orderOne st (some startOne)]
    let wait (manual : Bool) : State := withOrders base [{ orderOne .waiting none with manual := manual }]
    ((asked base 2 0x13 [3]).ready 2 0x13 [3] ∧ (asked base 2 0x13 [1]).ready 2 0x13 [1] ∧ base.order (1#8).toNat = none) ∧
    ((asked (wait false) 2 0x13 [1]).ready 2 0x13 [1] ∧ (wait false).order (1#8).toNat = some (orderOne .waiting none)) ∧
    ((asked (one .stopping) 2 0x13 [1]).ready 2 0x13 [1] ∧
      (one .stopping).order (1#8).toNat = some (orderOne .stopping (some startOne))) ∧
    ((asked (one .granted) 2 0x13 [1]).ready 2 0x13 [1] ∧ (one .granted).orderLaw ∧
      (orderOne .granted (some startOne)).running = true ∧ ((one .granted).cannon 1).held = none) ∧
    ((wait true).order 1 = some { orderOne .waiting none with manual := true } ∧ (wait true).classes .sprayDone ≠ 0 ∧
      (wait true).disp.pending = [] ∧ 5 ≤ (holding (wait true) 19).free) := by decide

/-- No mark; an attempt that can grant, and one in HOLD. -/
theorem witness_DispatchAttempts :
    let s := (cannonIn (withOrders (withWater base) [orderOne .waiting none]) 1 .idle).cause
    base.disp.attempt = false ∧ (s.disp.attempt = true ∧ s.orderLaw) ∧
    ((ran .dispatchAttempt s).order 1).map Order.state = some .granted ∧
    ((inMode s .hold).ctrl.mode ≠ .automatic ∧ (inMode s .hold).ctrl.mode ≠ .fallback) := by decide +kernel

/-! #### The cannon line -/

/-- A cannon's held command. -/
def holds (s : State) (c : Nat) (k : LineCommand) (serial : Nat) : State :=
  s.setCannon c { s.cannon c with held := some ⟨k, serial⟩ }

/-- A busy line; an ALL_STOP; a held STOP before an older TRIM; a due POLL; a due PING; nothing. -/
theorem witness_TransactionsBegin :
    let two := holds (holds base 24 .stop 7) 1 (.trim 5 0) 3
    let poll := (cannonIn base 2 .spraying).setCannon 2 { (cannonIn base 2 .spraying).cannon 2 with pollDue := true }
    let ping := base.setCannon 2 { Cannon.initial with pingDue := true }
    ((flying base (flight 1 .ping none)).line.transaction.isSome = true) ∧
    (base.line.transaction = none ∧ base.line.state = .ok ∧ base.line.allStopDue = false) ∧
    ({ base.line with allStopDue := true } : Line).allStopDue = true ∧
    ((two.cannon 24).held = some ⟨.stop, 7⟩ ∧ (two.cannon 1).held = some ⟨.trim 5 0, 3⟩) ∧
    (roundRobin poll.line.lastPolled).find? poll.pollIsDue = some 2 ∧
    ((roundRobin ping.line.lastPolled).find? ping.pollIsDue = none ∧
      (roundRobin ping.line.lastPinged).find? ping.pingIsDue = some 2) ∧
    ((roundRobin base.line.lastPolled).find? base.pollIsDue = none ∧
      (roundRobin base.line.lastPinged).find? base.pingIsDue = none) := by decide +kernel

theorem witness_RequestsLeaveTheLine :
    let s := flying base { flight 1 .ping none with sentAt := none }
    base.line.transaction = none ∧ s.line.transaction = some { flight 1 .ping none with sentAt := none } ∧
    (flying base (flight 0 .allStop none)).line.transaction = some (flight 0 .allStop none) := by decide +kernel

/-- A reply of each shape, at the first and the last cannon. -/
theorem witness_RepliesAreJudgedWhole :
    (meterReply 24 .poll 1 16777215).length = replyLength .poll ∧
    judgeReply 24 .poll (meterReply 24 .poll 1 16777215) = some ⟨.spraying, 16777215⟩ ∧
    (stateReply 1 (.start 1 0 0) 0).length = replyLength (.start 1 0 0) ∧
    judgeReply 1 (.start 1 0 0) (stateReply 1 (.start 1 0 0) 0) = some ⟨.idle, 0⟩ ∧
    judgeReply 2 (.start 1 0 0) (stateReply 1 (.start 1 0 0) 0) = none ∧
    judgeReply 1 (.start 1 0 0) (stateReply 1 (.start 1 0 0) 4) = none := by decide +kernel

/-- A PING reply of each state from an OFFLINE cannon, and a good one from an OUT_OF_SERVICE one with 10 and 11 before it. -/
theorem witness_PingReplies :
    let s (a : CannonActivity) (streak score : Nat) : State :=
      flying (base.setCannon 1 { Cannon.initial with activity := a, streak := streak, score := score }) (flight 1 .ping none)
    let x := flight 1 .ping none
    (s .offline 0 199).replyTaken x (meterReply 1 .ping 0 0) ⟨.idle, 0⟩ ∧ ((s .offline 0 199).cannon 1).score ≤ 199 ∧
    (s .offline 0 0).replyTaken x (meterReply 1 .ping 2 0) ⟨.locked, 0⟩ ∧
    ((s .offline 0 194).replyTaken x (meterReply 1 .ping 3 0) ⟨.fault, 0⟩ ∧ ((s .offline 0 194).cannon 1).score + 5 < 200) ∧
    (s .offline 0 194).replyTaken x (meterReply 1 .ping 1 0) ⟨.spraying, 0⟩ ∧
    ((s .outOfService 10 199).replyTaken x (meterReply 1 .ping 0 0) ⟨.idle, 0⟩ ∧
      ((s .outOfService 10 199).cannon 1).streak + 1 < 12 ∧ 12 ≤ ((s .outOfService 11 199).cannon 1).streak + 1 ∧
      (let r := (ran (.ping (meterReply 1 .ping 0 0)) (s .outOfService 11 199)).cannon 1
       (r.activity, r.score, r.lastEnd) = (.idle, 0, some 0))) := by decide +kernel

/-- A START answered for a GRANTED order, and a TEST. -/
theorem witness_StartsAndTestsAnswered :
    let k : LineCommand := .start 1000 0 90
    let s := flying granted (flight 1 k (some 1))
    let o := orderOne .granted (some { startOne with acknowledged := false, delivered := none })
    let st : Start := { startOne with acknowledged := false, delivered := none }
    let u := flying ((cannonIn base 2 .idle).setCannon 2 { (cannonIn base 2 .idle).cannon 2 with test := .placed }) (flight 2 .test none)
    (s.replyTaken (flight 1 k (some 1)) (stateReply 1 k 1) ⟨.spraying, 0⟩ ∧ (s.cannon 1).activity ≠ .outOfService ∧
      s.serves (flight 1 k (some 1)) o st) ∧
    (u.replyTaken (flight 2 .test none) (stateReply 2 .test 1) ⟨.spraying, 0⟩ ∧ (u.cannon 2).activity ≠ .outOfService ∧
      (u.cannon 2).test = .placed) := by decide +kernel

/-- Polled and trimmed at the limit itself, with the hold that asked standing and without it. -/
theorem witness_PollAndTrimFigures :
    let o := orderOne .spraying (some startOne)
    let trim : LineCommand := .trim 800 5
    let held := spraying.setBed 1 { spraying.bed 1 with hold := some ⟨800, 4821, 0, 5⟩ }
    ((flying spraying (flight 1 .poll (some 1))).replyTaken (flight 1 .poll (some 1)) (meterReply 1 .poll 1 1000)
        ⟨.spraying, 1000⟩ ∧
      (flying spraying (flight 1 .poll (some 1))).serves (flight 1 .poll (some 1)) o startOne ∧ 1000 ≤ startOne.volume) ∧
    ((flying held (flight 1 trim (some 1))).replyTaken (flight 1 trim (some 1)) (meterReply 1 trim 1 200) ⟨.spraying, 200⟩ ∧
      (flying held (flight 1 trim (some 1))).serves (flight 1 trim (some 1)) o startOne ∧ (held.bed 1).holdIs 5 = true ∧
      (spraying.bed 1).holdIs 5 = false) := by decide +kernel

/-- A STOP answered SPRAYING at 194 points, with nothing and with a STOP held; and at 195, where R148's estimate is 100 L last
polled and 10 s of 600 L/min, however long ago the last POLL was. -/
theorem witness_PollAndTrimFigures_stop :
    let x := flight 1 .stop (some 1)
    let o := orderOne .stopping (some startOne)
    let s0 : State := { withOrders spraying [o] with conf := conf.put 0x20 1 600, osc := 9000 }
    let s (score : Nat) : State :=
      flying (s0.setCannon 1 { s0.cannon 1 with score := score, lastGood := some 1000 }) x
    let t (s : State) : State := ran (.stop (meterReply 1 .stop 1 700)) s
    ((s 194).replyTaken x (meterReply 1 .stop 1 700) ⟨.spraying, 700⟩ ∧ (s 194).serves x o startOne ∧
      700 ≤ startOne.volume ∧ ((s 194).cannon 1).held = none ∧ ((s 195).cannon 1).activity ≠ .outOfService ∧
      ((s 195).cannon 1).test = .none ∧ startOne.acknowledged = true) ∧
    (((t (s 194)).cannon 1).lastGood = some 9000 ∧ ((t (s 194)).cannon 1).score = 199 ∧
      ((t (holds (s 194) 1 .stop 4)).cannon 1).held = some ⟨.stop, 4⟩) ∧
    (((t (s 195)).cannon 1).activity = .outOfService ∧ (t (s 195)).water.recycled.charged = 200) := by decide +kernel

/-- A POLL that finds the cannon IDLE, and a confirmed STOP of an order with an ending. -/
theorem witness_EndedStartsAreCharged :
    let s := flying spraying (flight 1 .poll (some 1))
    let o : Order := { orderOne .stopping (some startOne) with ending := some .cancelled }
    let u := flying (withOrders spraying [o]) (flight 1 .stop (some 1))
    (s.replyTaken (flight 1 .poll (some 1)) (meterReply 1 .poll 0 1000) ⟨.idle, 1000⟩ ∧
      s.serves (flight 1 .poll (some 1)) (orderOne .spraying (some startOne)) startOne ∧ startOne.acknowledged = true ∧
      (s.bed 1).hold = none ∧ (s.cannon 1).test = .none) ∧
    (u.replyTaken (flight 1 .stop (some 1)) (meterReply 1 .stop 0 0) ⟨.idle, 0⟩ ∧
      u.serves (flight 1 .stop (some 1)) o startOne ∧ o.ending.isSome = true) ∧
    (ran (.poll (meterReply 1 .poll 0 1000)) s).water.recycled = ⟨49000, 0, 1000, 0⟩ := by decide +kernel

/-- A miss at 189 points and at 190, and the PING of an OFFLINE cannon. -/
theorem witness_MissedReplies :
    let s (score : Nat) (k : LineCommand) : State :=
      flying (base.setCannon 24 { Cannon.initial with activity := .idle, score := score }) (flight 24 k none)
    let off := flying base (flight 1 .ping none)
    ((s 189 .stop).line.transaction = some (flight 24 .stop none) ∧ (flight 24 .stop none).sentAt = some 0 ∧
      ((s 189 .stop).cannon 24).score + 10 < 200 ∧ ((s 189 .stop).cannon 24).held = none) ∧
    200 ≤ ((s 190 .poll).cannon 24).score + 10 ∧
    (off.line.transaction = some (flight 1 .ping none) ∧ (off.cannon 1).activity = .offline) ∧
    (((ran .noReply (s 190 .poll)).cannon 24).activity = .outOfService ∧ ((ran .noReply off).cannon 1).score = 0) := by
  decide +kernel

/-- A settle timer, a POLL and a PING to come. -/
theorem witness_TimersFallDue :
    let s := base.setBed 32 { base.bed 32 with surface := .fresh, settleSince := some 0 }
    (s.bed 32).settleSince = some 0 ∧ (base.bed 1).settleSince = none ∧
    (((cannonIn base 24 .spraying).cannon 24).lastEnd = some 0 ∧ (cannonIn base 24 .spraying).addressing 24 = false ∧
      ((cannonIn base 24 .spraying).cannon 24).activity = .spraying ∧ ((cannonIn base 24 .spraying).cannon 24).held = none) ∧
    (((cannonIn base 2 .locked).cannon 2).lastEnd = some 0 ∧ (cannonIn base 2 .locked).addressing 2 = false ∧
      (cannonIn base 2 .locked).conf.inUse 2 = true) ∧
    ((cannonIn base 2 .idle).cannon 2).activity = .idle := by decide +kernel

/-- A good line, a fault whose ends are to come, and one whose ends are made. -/
theorem witness_LineFaultsAndReturns :
    let f (made : Bool) : State := { spraying with line := { spraying.line with state := .fault 0 made } }
    spraying.line.state = .ok ∧ ((f false).line.state = .fault 0 false ∧ (f false).orderLaw) ∧
    (f true).line.state = .fault 0 true ∧ (f false).line.state ≠ .ok ∧
    (ran .lineFaultEndOfStarts (f false)).disp.orders.filterMap Order.start = [] := by decide +kernel

theorem witness_LineFaultsAndReturns_other :
    (∀ since, base.line.state ≠ .fault since false) ∧ (∀ since, base.line.state ≠ .fault since true) :=
  ⟨fun _ => nofun, fun _ => nofun⟩

/-- CANNON_RESTORE and TEST_SPRAY, turned away for each reason and taken. -/
theorem witness_CannonRequests :
    let ask (s : State) (code : Nat) (c : Byte) : State := asked s 31 code [c]
    let m := cannonIn (inMode (withWater base) .maintenance) 2 .idle
    (ask base 0x35 24).ready 31 0x35 [24] ∧ base.conf.inUse (24#8).toNat = false ∧
    ((ask spraying 0x35 1).ready 31 0x35 [1] ∧ (spraying.startOn (1#8).toNat).isSome = true) ∧
    ((ask base 0x35 2).ready 31 0x35 [2] ∧ base.conf.inUse (2#8).toNat = true ∧ (base.startOn 2) = none ∧
      (base.cannon 2).test = .none) ∧
    ((ask base 0x36 2).ready 31 0x36 [2] ∧ base.ctrl.mode ≠ .maintenance) ∧
    ((ask m 0x36 2).ready 31 0x36 [2] ∧ m.ctrl.mode = .maintenance ∧ m.ctrl.drain = none ∧ m.line.state = .ok ∧
      (m.cannon 2).activity = .idle ∧ (m.cannon 2).held = none ∧
      (m.conf.ratedFlow 2 * 10 + 59) / 60 ≤ m.water.fresh.balance - m.water.fresh.reserved ∧
      m.water.freshToday + m.water.fresh.reserved + (m.conf.ratedFlow 2 * 10 + 59) / 60 ≤ m.conf.fCap) ∧
    (∀ d ∈ cannonNumbers, (m.cannon d).test = .none) ∧ (m.cannon 1).activity ≠ .idle ∧
    ({ m with ctrl := { m.ctrl with drain := some 5 } } : State).ctrl.drain.isSome = true ∧
    ((m.setCannon 1 { m.cannon 1 with test := .spraying }).cannon 1).test ≠ .none := by decide +kernel

/-! #### Records, modes and the clock -/

/-- No room; nothing unread; a record unread behind one already read. -/
theorem witness_RecordsAreRead :
    let r (ops : Bool) : Record := ⟨.overrun, 1, 5, 0, 0, none, ⟨ops, true, false⟩⟩
    let s : State := { base with recs := ⟨[r false, r true], Readers.none, some 600000⟩ }
    ((asked (holding base 20) 2 0x24 []).ready 2 0x24 [] ∧ (asked (holding base 20) 2 0x24 []).free < 5 ∧
      (base.classOf 2).reader = some .ops) ∧
    ((asked (holding base 19) 2 0x24 []).ready 2 0x24 [] ∧ 5 ≤ (asked (holding base 19) 2 0x24 []).free ∧
      ∀ r ∈ base.recs.queue, r.unread.has .ops = false) ∧
    ((asked s 2 0x24 []).ready 2 0x24 [] ∧ s.recs.queue = [r false] ++ r true :: [] ∧
      (∀ q ∈ [r false], q.unread.has .ops = false) ∧ (r true).unread.has .ops = true) ∧
    (base.recs.readDue = none ∧ s.recs.readDue = some 600000 ∧ (s.classes .recordsWaiting).testBit 0 = true ∧
      0 < unreadCount s.recs.queue .ops ∧ 5 ≤ s.free ∧ (holding s 20).free < 5) := by decide

/-- ALL_HOLD with a spray running and in MAINTENANCE; HOLD_RELEASE out of HOLD, and in it with each set of reasons. -/
theorem witness_HoldsAndReleases :
    let held (operator freeze : Bool) : State :=
      inMode { base with ctrl := { base.ctrl with operator := operator, freeze := freeze } } .hold
    ((asked spraying 4 0x01 []).ready 4 0x01 [] ∧ spraying.orderLaw ∧ (ran (.allHold 4) (asked spraying 4 0x01 [])).ctrl.mode ≠ .automatic) ∧
    (asked (inMode base .maintenance) 4 0x01 []).ready 4 0x01 [] ∧
    ((asked base 2 0x02 []).ready 2 0x02 [] ∧ base.ctrl.mode ≠ .hold) ∧
    ((asked (held true false) 2 0x02 []).ready 2 0x02 [] ∧ (held true false).ctrl.mode = .hold) ∧
    (asked (held true true) 2 0x02 []).ready 2 0x02 [] ∧ (asked (held false true) 2 0x02 []).ready 2 0x02 [] := by
  decide +kernel

/-- MAINT_ENTER in MAINTENANCE, with no start, with one; the deadline with none, and with a start left. -/
theorem witness_MaintenanceDrains :
    let draining : State := longFor (inMode { spraying with ctrl := { base.ctrl with drain := some 30000 } } .maintenance) 0x33
    ((asked (inMode base .maintenance) 31 0x33 []).ready 31 0x33 [] ∧ (inMode base .maintenance).ctrl.mode = .maintenance) ∧
    ((asked base 31 0x33 []).ready 31 0x33 [] ∧ base.ctrl.mode ≠ .maintenance ∧ base.ctrl.drain = none ∧
      (ran (.maintEnter 31) (asked base 31 0x33 [])).drained = true) ∧
    ((asked spraying 31 0x33 []).ready 31 0x33 [] ∧ (ran (.maintEnter 31) (asked spraying 31 0x33 [])).drained = false) ∧
    (draining.ctrl.drain = some 30000 ∧ draining.port.long = some ⟨31, 0x33⟩ ∧ draining.orderLaw) := by decide +kernel

/-- MAINT_EXIT turned away and taken; a commit whose two bytes read back as written. -/
theorem witness_SettingsRestartsBegin :
    let m := inMode base .maintenance
    let c : State := { m with store := { m.store with commit := some ⟨[5, 255], 1, 0⟩, eeprom := [(0, 5)] } }
    ((asked base 31 0x34 []).ready 31 0x34 [] ∧ base.ctrl.mode ≠ .maintenance) ∧
    ((asked (longFor c 0x32) 31 0x34 []).ready 31 0x34 [] ∧ c.store.commit.isSome = true) ∧
    ((asked m 31 0x34 []).ready 31 0x34 [] ∧ m.ctrl.drain = none ∧ m.store.commit = none) ∧
    (c.store.commit = some ⟨[5, 255], 1, 0⟩ ∧ pageCount [5, 255] ≤ 1 ∧ (longFor c 0x32).port.long = some ⟨31, 0x32⟩ ∧
      eepromReadBlock (withDiffering c.store.eeprom []) 0 2 = [5, 255]) := by decide +kernel

theorem witness_SettingsRestartsBegin_noStarts : ∀ c, base.startOn c = none := fun _ => rfl

theorem witness_FlagsAreCleared : (asked base 31 0x2C [0xFF]).ready 31 0x2C [0xFF] := by decide

/-- The clock inside an hour, at an hour's and at a day's end; TIME_SET to another day, and clamped within the hour. -/
theorem witness_TheClockRunsAndIsSet :
    let at_ (n : Nat) : State := { base with ctrl := { base.ctrl with seconds := n } }
    ((at_ 3598).ctrl.seconds + 1 < 86400 ∧ ((at_ 3598).ctrl.seconds + 1) % 3600 ≠ 0) ∧
    ((at_ 3599).ctrl.seconds + 1) % 3600 = 0 ∧ 86400 ≤ (at_ 86399).ctrl.seconds + 1 ∧
    ((asked base 4 0x22 (be16 1 ++ be24 86400)).ready 4 0x22 (be16 (1#16).toNat ++ be24 (86400#24).toNat) ∧
      (1#16).toNat ≠ base.ctrl.day) ∧
    ((asked base 4 0x22 (be16 0 ++ be24 3599)).ready 4 0x22 (be16 (0#16).toNat ++ be24 (3599#24).toNat) ∧
      (ran (.timeSet 4 0 3599) (asked base 4 0x22 (be16 0 ++ be24 3599))).nowHour = base.nowHour) := by decide +kernel

/-! #### The Settings Store -/

/-- A write in another mode, during a commit, of an unknown item, out of range and at both ends of a range; a commit with a
failing entry and one without. -/
theorem witness_SettingsAreWrittenAndCommitted :
    let m := inMode base .maintenance
    let w (s : State) (item index : Byte) (v : Nat) : State := asked s 31 0x30 (item :: index :: be32 v)
    let bad : State := { m with store := { m.store with working := conf.put 0x10 1 5 } }
    ((w base 0x40 0 1).ready 31 0x30 (0x40 :: 0 :: be32 (1#32).toNat) ∧ base.ctrl.mode ≠ .maintenance) ∧
    ((w m 0x60 0 1).ready 31 0x30 (0x60 :: 0 :: be32 (1#32).toNat) ∧ itemRange (0x60#8).toNat (0#8).toNat = none) ∧
    ((w m 0x40 0 1001).ready 31 0x30 (0x40 :: 0 :: be32 (1001#32).toNat) ∧
      itemRange (0x40#8).toNat (0#8).toNat = some ⟨0, 1000, 500⟩ ∧ Settings.wf m.store.working) ∧
    ((w m 0x50 3 0xFFFFFFD8).ready 31 0x30 (0x50 :: 3 :: be32 (0xFFFFFFD8#32).toNat) ∧ (0xFFFFFFD8#32).toInt = -40) ∧
    ((asked m 31 0x32 []).ready 31 0x32 [] ∧ m.ctrl.drain = none ∧ firstFailure m.store.working = none) ∧
    ((asked bad 31 0x32 []).ready 31 0x32 [] ∧ firstFailure bad.store.working = some 0x1001) := by decide +kernel

/-- A page to write, a page failure, and a read-back that differs at its last byte. -/
theorem witness_PagesAreWritten :
    let c (page : Nat) : State := longFor (inMode { base with store := { base.store with
      commit := some ⟨[5, 255], page, 0⟩, eeprom := [(0, 5)] } } .maintenance) 0x32
    ((c 0).store.commit = some ⟨[5, 255], 0, 0⟩ ∧ Memory.wf (c 0).store.eeprom ∧ 0 < pageCount [5, 255] ∧
      (c 0).port.long = some ⟨31, 0x32⟩) ∧
    (pageCount [5, 255] ≤ 1 ∧
      firstMismatch 0 (eepromReadBlock (withDiffering (c 1).store.eeprom [(1, 0)]) 0 2) [5, 255] = some 1) := by decide +kernel

/-! ### Further clauses of the statements, each at a state and operands that meet it -/

/-- The law of moisture holds, decided bed by bed. -/
theorem holdLaw_of (s : State)
    (h : ∀ b ∈ bedNumbers, ((s.bed b).hold.map (fun h => decide (h.tally + s.shareOf b ≤ h.cap))).getD true = true) :
    s.holdLaw := by
  intro b q hq
  by_cases hb : 1 ≤ b ∧ b ≤ 32
  · have := h b ((mem_bedNumbers b).2 hb)
    rw [hq] at this
    exact of_decide_eq_true this
  · rw [show s.bed b = Bed.initial 0 from nth_outside _ _ (by omega)] at hq
    exact absurd hq (by simp [Bed.initial])

/-- An order of bed 1 that sprays, and a waiting MANUAL and a waiting AUTO_ACT one behind it, each in its place; the sprayed
one's remaining falls at the end of its start. -/
theorem witness_OrdersStayLawful_queue :
    let o (b serial : Nat) (origin : Origin) (st : Option Start) : Order :=
      { orderOne (if st.isSome then .spraying else .waiting) st with bed := b, serial := serial, origin := origin }
    let s0 := withOrders spraying [o 1 3 .autoSevere (some startOne), o 32 2 .manual none, o 2 1 .autoAct none]
    let s := waiting (flying { s0 with disp := { s0.disp with serial := 4 } } (flight 1 .poll (some 1)))
      [.poll (meterReply 1 .poll 0 1000)]
    s.orderLaw ∧ s.queueOrderLaw ∧ s.modeLaw ∧ s.volumeLaw ∧ (o 1 3 .autoSevere (some startOne)).state ≠ .waiting ∧
      ∃ t, step s = .next t ∧ (t.order 1).map Order.remaining = some 2000 := by
  refine ⟨by decide, by decide, by decide, by decide, by decide, _, rfl, by decide +kernel⟩

/-- The cap met to the litre as a yard day ends, and a use above it. -/
theorem witness_FreshUseStaysWithinTheCap_step :
    let s (n : Nat) : State := { base with water := { base.water with freshToday := n } }
    (∀ answers, Instr.yardSecond ≠ .load answers) ∧ (s 150000).orderLaw ∧ (s 150000).modeLaw ∧
    (s 150000).water.freshToday + (s 150000).water.fresh.reserved ≤ (s 150000).conf.fCap ∧
    (s 150001).conf.fCap < (s 150001).water.freshToday + (s 150001).water.fresh.reserved ∧
    ∃ t, exec .yardSecond (s 150001) = .next t ∧ t.water.freshToday = 150001 := by
  refine ⟨fun _ => nofun, by decide, by decide, by decide, by decide, _, rfl, by decide +kernel⟩

/-- Taken, stale and long in their own words; a node, a code and data that are not the next request's; a code of 0x0F. -/
theorem witness_RequestsAreTakenInOrder_raw :
    let s := atTime (asked base 31 0x32 []) 5000
    (∃ r, s.nextRequest = some r ∧ r.node = 31 ∧ r.code = 0x32 ∧ r.data = [] ∧ r.arrival + 5000 ≤ s.osc) ∧
    1 ≤ 24 - s.port.outbound.length - (if s.port.long.isSome then 1 else 0) ∧ s.ctrl.mode ≠ .starting ∧
    s.takes 30 0x32 [] = false ∧ (inMode s .starting).takes 31 0x32 [] = false ∧
    (atTime (asked base 2 0x0F []) 9000).nextStale = false ∧ isLong 0x33 = true ∧ isLong 0x34 = false := by
  refine ⟨⟨⟨31, 0x32, [], 0⟩, by decide, by decide, by decide, by decide, by decide⟩, by decide, by decide, by decide,
    by decide, by decide, by decide, by decide⟩

/-- A commit of no page yet written, and one whose last page is written. -/
theorem witness_ResetsReturnToTheResetState_whole :
    let s (page : Nat) : State := { base with store := { base.store with
      eeprom := [(0, 5)], commit := some ⟨List.replicate 100 1, page, 0⟩ } }
    (s 0).store.commit = some ⟨List.replicate 100 1, 0, 0⟩ ∧ pageCount (List.replicate 100 1) ≤ 4 ∧
    (ran .externalReset (s 0)).store.eeprom = [(0, 5)] ∧ (ran .powerOnReset (s 4)).store.eeprom = [(0, 5)] := by
  decide +kernel

/-- The image of these entries: item code, index and value (R201). -/
def imageOf (entries : List (Nat × Nat × Nat)) : List Byte :=
  let body := entries.flatMap (fun e => be8 e.1 ++ be8 e.2.1 ++ be32 e.2.2)
  be16 (6 + body.length) ++ be16 9 ++ be16 (crc16 body).toNat ++ body

/-- A settings restart at 90,000 s, before its load of an image. -/
def restarting (old : Settings) (image : List Byte) : State :=
  { State.reset with
    osc := 90000000
    conf := old
    store := { State.reset.store with resetKind := .settingsRestart, verified := some image } }

/-- Bed 1 stays as it is and bed 2 gets another area; channel 1 stays in use, dirty, with zero windows; the gate's reading
lies between the old and the new limit; machine 3's claim is older than the new Tclaim and machine 4's is not. -/
theorem witness_LoadTakesTheImage_restart :
    let s0 := restarting conf (imageOf [(0x03, 31, 4), (0x10, 1, 1), (0x10, 2, 1), (0x11, 1, 4), (0x11, 2, 5), (0x15, 0, 1),
      (0x15, 1, 2), (0x15, 4, 2), (0x28, 0, 1), (0x28, 4, 10), (0x48, 2, 30)])
    let s1 : State := { (s0.setBed 1 { s0.bed 1 with wetness := 7 }).setBed 2 { s0.bed 2 with wetness := 7 } with
      zones := ⟨[⟨3, .load, 1, 2, 0, []⟩, ⟨4, .stack, 2, 2, 89000000, [(2, .settled)]⟩], []⟩ }
    let s2 : State := { s1 with water := { s1.water with turbidity := some 35 } }
    let s := s2.setChannel 1 { s2.channel 1 with dirty := true, baseline := 12, latched := true, held := some 9 }
    s.ctrl.mode = .starting ∧ s.disp.orders = [] ∧ s.store.resetKind = .settingsRestart ∧
    (judgeImage (s.loadImage true)).isSome = true ∧ s.zoneLaw ∧ s.water.gate = .isOpen ∧
    (let t := ran (.load true) s
     (t.bed 1).wetness = 7 ∧ (t.bed 2).wetness = 500 ∧ (t.bed 2).surface = .worked ∧
     (t.channel 1).state = .faultDirty ∧ (t.channel 1).baseline = 12 ∧ (t.channel 1).held = none ∧
     t.water.gate = .gated ∧ t.zones.entries.map Claim.machine = [4]) := by decide +kernel

/-- Mast A alone, calm beside a covering slot of 60, at the last second of its run and before it; a FAILED mast A at the last
second of its restore run, near the other's speed and far from it. -/
theorem witness_SecondsEnd_runs :
    let slots := setNth base.forecast.slots 1 { Slot.empty with hour := some 0, mean := some 60 }
    let s (a b : Mast) : State := { base with
      meas := { base.meas with secondDue := some 1000, mastA := a, mastB := b }
      forecast := { base.forecast with slots := slots } }
    let a (m : Mast) (b : Mast) := (ran (.endOfSecond 0 0) (s m b)).meas.mastA
    let failed : Mast := { Mast.initial with health := .failed }
    ((s Mast.initial failed).meas.mastA.health = .healthy ∧ (s Mast.initial failed).meas.mastB.health = .failed ∧
      (((s Mast.initial failed).covering).bind Slot.mean).getD 0 = 60) ∧
    (a { Mast.initial with loneRun := 598 } failed).loneRun = 599 ∧
    (a { Mast.initial with loneRun := 599 } failed).health = .failed ∧
    (a { failed with pulses := 100, restoreRun := 58 } { Mast.initial with pulses := 100 }).restoreRun = 59 ∧
    (a { failed with pulses := 100, restoreRun := 59 } { Mast.initial with pulses := 100 }).health = .healthy ∧
    (a { failed with pulses := 100, restoreRun := 59 } { Mast.initial with pulses := 400 }).restoreRun = 0 := by
  decide +kernel

/-- Part 0 with the mean's marker and a sector past 15; part 1 with a temperature below -40; part 2 at its marker; and an
hour past. -/
theorem witness_ForecastSlots_parts :
    let slots := setNth base.forecast.slots 2 { Slot.empty with hour := some 0, rain := some 3 }
    let s0 : State := { base with forecast := { base.forecast with slots := slots } }
    let run (part : Byte) (fields : BitVec 40) :=
      ran (.forecastSlot 4 0 2 part fields) (asked s0 4 0x20 (0 :: 2 :: part :: be40 fields.toNat))
    ((asked s0 4 0x20 (0 :: 2 :: 0 :: be40 5)).ready 4 0x20 (0#8 :: 2#8 :: 0#8 :: be40 (5#40).toNat) ∧
      s0.forecast.issue < 256) ∧
    ((run 0 0x0001FFFF10).slot 2 = { Slot.empty with hour := some 1, sector := some 15, rain := some 3 }) ∧
    ((run 1 0x0259FFD700).slot 2 =
      { Slot.empty with hour := some 0, gust := some 600, temperature := some (-40), rain := some 3 }) ∧
    ((run 2 0xFFFF000000).slot 2).rain = none ∧
    (run 0 0x0001FFFF10).forecast.live = true ∧ (run 0 0x9000000000).forecast.live = false := by decide +kernel

/-- Demands of every kind at one evaluation: bed 1 falls from SEVERE to ACT, bed 2 to ACT at a wetness that leaves a demand
below Vmin, with no order, with a WAITING automatic one and with a MANUAL one; and the FALLBACK demand of a bed sprayed Tfall
ago, and a millisecond later. -/
theorem witness_EvaluationWritesEveryBed_demands :
    let s0 : State := { base with conf := (conf.put 0x11 1 100).put 0x11 2 100 }
    let banded (s : State) (b wet : Nat) : State := s.setBed b { s.bed b with band := .severe, wetness := wet }
    let s (orders : List Order) : State := withOrders (banded (banded s0 1 500) 2 850) orders
    let blind (ended : Nat) : State := { atTime s0 20000000 with
      meas := { base.meas with basis := .none }
      beds := (base.setBed 1 { base.bed 1 with lastSprayEnd := some ended }).beds }
    let q (manual : Bool) : Order := { orderOne .waiting none with bed := 2, manual := manual }
    (ran .evaluation (s [])).ctrl.freeze = (s []).ctrl.freeze ∧
    (((ran .evaluation (s [])).bed 1).band = .act ∧ ((ran .evaluation (s [])).order 1).map Order.origin = some .autoAct ∧
      (ran .evaluation (s [])).order 2 = none) ∧
    ((s [q false]).order 2 = some (q false) ∧ (ran .evaluation (s [q false])).order 2 = none) ∧
    (ran .evaluation (s [q true])).order 2 = some (q true) ∧
    ((ran .evaluation (blind (20000000 - s0.conf.tFall * 1000))).order 1).map Order.origin = some .autoAct ∧
    (ran .evaluation (blind (20000001 - s0.conf.tFall * 1000))).order 1 = none := by decide +kernel

/-- Exactly five free entries, with an amount on both sources; and the kind routed to no class. -/
theorem witness_UsagePeriodsEnd_room :
    let s : State := { base with water := { base.water with
      usageDue := some 900000, recycled := ⟨0, 0, 500, 0⟩, fresh := ⟨0, 0, 4294967295, 1⟩ } }
    let t := ran .usagePeriodExpiry (holding s 19)
    let off : State := { s with conf := s.conf.put 0x04 (Sys2Proof.Machine.NoticeKind.waterUse).code 0 }
    (holding s 19).free = 5 ∧ t.port.outbound.length = 20 ∧ t.water.fresh.pendingUse = 4294967295 ∧
    (off.classes .waterUse = 0 ∧ off.water.recycled.pendingUse = 0) := by decide +kernel

/-- A full machine table as a ninth machine asks, and a claim that another range or activity replaces: bed 1 dropped, bed 2
kept under it. -/
theorem witness_ZoneClaims_replacement :
    let e : Claim := ⟨3, .stack, 1, 2, 0, [(1, .fresh), (2, .settled)]⟩
    let s0 : State := { base with zones := ⟨[e], []⟩ }
    let s := (s0.setBed 1 { s0.bed 1 with surface := .worked }).setBed 2 { s0.bed 2 with surface := .worked }
    let ask (a f l : Byte) : State := asked s 2 0x04 [3, a, f, l]
    (s.zoneLaw ∧ s.claimOf (3#8).toNat = some e) ∧
    ((ask 2 2 2).ready 2 0x04 [3, 2, 2, 2] ∧ activityOf 2#8 = some .reclaim ∧ ZoneActivity.reclaim ≠ e.activity ∧
      (2#8).toNat ≠ e.first) ∧
    (let t := ran (.zoneClaim 2 3 2 2 2) (ask 2 2 2)
     (t.bed 1).surface = .fresh ∧ (t.bed 2).surface = .worked ∧ t.zoneLaw ∧
       (t.claimOf 3).map Claim.prior = some [(2, .settled)]) ∧
    ((ran (.zoneClaim 2 3 0 1 2) (ask 0 1 2)).bed 2).surface = .settled := by decide +kernel

/-- A step of a table of eight entries. -/
theorem witness_ZoneClaims_law :
    let s := waiting { base with zones := ⟨(numbersFrom 1 8).map (fun m => ⟨m, .travel, 1, 1, 0, []⟩), []⟩ } [.claimExpiry 8]
    s.zoneLaw ∧ ∃ t, step s = .next t ∧ t.zones.entries.length = 7 := by
  refine ⟨by decide, _, rfl, by decide +kernel⟩

/-- Machines 0 and 16, an outcome of 4, a machine without a claim; a covered WORKED bed with each kept state; and the notice
of an expiry with five free entries, with four, and with its kind routed to no class. -/
theorem witness_ReleasesAndClaimExpiries_folds :
    let e (p : Surface) : Claim := ⟨3, .stack, 1, 2, 0, [(1, p), (2, p)]⟩
    let s0 (p : Surface) : State := { base with zones := ⟨[e p, ⟨4, .reclaim, 2, 2, 0, [(2, p)]⟩], []⟩ }
    let s (p : Surface) : State :=
      ((s0 p).setBed 1 { (s0 p).bed 1 with surface := .worked }).setBed 2 { (s0 p).bed 2 with surface := .worked }
    let priors (o : Byte) (p : Surface) :=
      (ran (.zoneRelease 2 3 o) (asked (s p) 2 0x05 [3, o])).zones.entries.map (fun x => sparseFind 2 x.prior)
    ((asked base 2 0x05 [16, 0]).ready 2 0x05 [16, 0] ∧ 15 < (16#8).toNat ∧ (asked base 2 0x05 [3, 4]).ready 2 0x05 [3, 4]) ∧
    base.claimOf (3#8).toNat = none ∧ (e .empty).priorOf 2 = .empty ∧
    (priors 1 .settled = [some .fresh] ∧ priors 2 .settled = [some .fresh] ∧ priors 2 .empty = [some .empty] ∧
      priors 3 .settled = [some .empty] ∧ priors 0 .settled = [some .settled]) ∧
    ((s .settled).classes .claimExpired ≠ 0 ∧ (s .settled).zones.pending = [] ∧ 5 ≤ (holding (s .settled) 19).free ∧
      (holding (s .settled) 20).free < 5 ∧
      (ran (.claimExpiry 3) (holding (s .settled) 20)).zones.pending = [3]) := by decide +kernel

/-- A cancelled order whose START is still held for its cannon. -/
theorem witness_CancelsAndExpiries_withdrawn :
    let s := granted.setCannon 1 { granted.cannon 1 with held := some ⟨.start 1000 0 90, 1⟩ }
    let st : Start := { startOne with acknowledged := false, delivered := none }
    let o := orderOne .granted (some st)
    (asked s 2 0x13 [1]).ready 2 0x13 [1] ∧ s.orderLaw ∧ s.order (1#8).toNat = some o ∧ o.running = true ∧
    (s.cannon st.cannon).held = some ⟨.start 1000 0 90, 1⟩ ∧
    (let t := ran (.cancelSpray 2 1) (asked s 2 0x13 [1])
     t.order 1 = none ∧ t.water.recycled.reserved = 0) := by decide +kernel

/-- Waiting orders that one of the checks blocks, each alone: a claim, a hold with less than Vmin left, no water, no cannon,
and no slot; and the grant of one of them, from FRESH by a SUSPECT cannon and from RECYCLED. -/
theorem witness_DispatchAttempts_checks :
    let s0 : State := (cannonIn (withOrders (withWater base) [orderOne .waiting none]) 1 .idle).cause
    let s : State := { s0 with water := { s0.water with recycled := ⟨50000, 0, 0, 0⟩ } }
    let w (s : State) : Option Block := ((ran .dispatchAttempt s).order 1).bind Order.blocked
    let source (s : State) := (((ran .dispatchAttempt s).order 1).bind Order.start).map (fun st => (st.source, st.volume))
    let hold (n : Nat) : State := s.setBed 1 { s.bed 1 with hold := some ⟨5000, 1, 5000 - n, 0⟩ }
    (s.disp.attempt = true ∧ s.orderLaw ∧ s.order 1 = some (orderOne .waiting none) ∧
      (s.bed 1).cursor < (s.conf.cannonList 1).length ∧ s.conf.vMin = 200) ∧
    w { s with zones := ⟨[⟨3, .travel, 1, 2, 0, []⟩], []⟩ } = some .zone ∧
    w (hold 199) = some .cap ∧
    w { s with water := { s.water with recycled := ⟨199, 0, 0, 0⟩ } } = some .water ∧
    w (cannonIn s 1 .locked) = some .cannon ∧
    w { s with water := { s.water with slotCapacity := 0 } } = some .capacity ∧
    source s = some (.recycled, 3000) ∧ source (hold 200) = some (.recycled, 200) ∧
    source (cannonIn ({ withOrders s [{ orderOne .waiting none with origin := .manual, manual := true, preference := .fresh }] with
      line := (s.setCannon 1 { s.cannon 1 with suspect := true }).line } : State) 2 .locked) = some (.fresh, 3000) := by
  decide +kernel

/-- Held commands of each class, named by their constructors: a STOP over an older TRIM, a TRIM over an older START, and of two
TESTs the older; each against every other cannon. -/
theorem witness_TransactionsBegin_classes :
    let first (s : State) : Option (Nat × LineCommand) :=
      (ran .transactionBegin s).line.transaction.map (fun x => (x.cannon, x.command))
    let others (s : State) (c : Nat) (held : HeldCommand → Bool) : Bool :=
      cannonNumbers.all (fun d => d == c || ((s.cannon d).held.map held).getD true)
    let stop := holds (holds base 24 .stop 7) 1 (.trim 5 0) 3
    let trim := holds (holds base 24 (.trim 5 0) 7) 1 (.start 200 0 9) 3
    let test := holds (holds base 24 .test 3) 1 .test 7
    (first stop = some (24, .stop) ∧ others stop 24 (fun k => k.command != .stop) = true) ∧
    (first trim = some (24, .trim 5 0) ∧ others trim 24 (fun k => k.command == .start 200 0 9) = true) ∧
    (first test = some (24, .test) ∧ others test 24 (fun k => k.command == .test && decide (3 < k.serial)) = true) := by
  decide +kernel

/-- A good PING reply of a LOCAL cannon, and of an OFFLINE one whose score stays. -/
theorem witness_PingReplies_scores :
    let s (a : CannonActivity) : State :=
      flying (base.setCannon 1 { Cannon.initial with activity := a, score := 64, suspect := true }) (flight 1 .ping none)
    let t (a : CannonActivity) : Cannon := (ran (.ping (meterReply 1 .ping 0 0)) (s a)).cannon 1
    (s .locked).replyTaken (flight 1 .ping none) (meterReply 1 .ping 0 0) ⟨.idle, 0⟩ ∧
    ((t .locked).score = 63 ∧ (t .locked).activity = .idle) ∧
    ((t .offline).score = 64 ∧ (t .offline).suspect = true ∧ (t .offline).activity = .idle) := by decide +kernel

/-- A START and a TEST answered LOCAL, FAULT and IDLE at 194 points; a life that has passed, and one that has not. -/
theorem witness_StartsAndTestsAnswered_refused :
    let k : LineCommand := .start 1000 0 90
    let st : Start := { startOne with acknowledged := false, delivered := none }
    let o := orderOne .granted (some st)
    let s (now : Nat) : State := flying (atTime (granted.setCannon 1 { granted.cannon 1 with score := 194 }) now)
      (flight 1 k (some 1))
    let u := flying (base.setCannon 2 { Cannon.initial with activity := .idle, test := .placed }) (flight 2 .test none)
    ((s 0).replyTaken (flight 1 k (some 1)) (stateReply 1 k 2) ⟨.locked, 0⟩ ∧
      (s 0).replyTaken (flight 1 k (some 1)) (stateReply 1 k 3) ⟨.fault, 0⟩ ∧
      (s 0).replyTaken (flight 1 k (some 1)) (stateReply 1 k 0) ⟨.idle, 0⟩ ∧ ((s 0).cannon 1).score + 5 < 200 ∧
      (s 0).serves (flight 1 k (some 1)) o st) ∧
    (((ran (.start (stateReply 1 k 0)) (s (conf.tLife * 1000 - 1))).order 1).map Order.state = some .waiting ∧
      (ran (.start (stateReply 1 k 0)) (s (conf.tLife * 1000))).order 1 = none) ∧
    (u.replyTaken (flight 2 .test none) (stateReply 2 .test 0) ⟨.idle, 0⟩ ∧ (u.cannon 2).held = none ∧
      ((ran (.test (stateReply 2 .test 0)) u).cannon 2).test = .none) := by decide +kernel

/-- The counted delivery of an end at 1000 L: uncounted, from the grant, from a hold set while it ran, and once trimmed. -/
theorem witness_EndedStartsAreCharged_tally :
    let tally (count : HoldCount) : Option Nat :=
      let s0 := withOrders spraying [orderOne .spraying (some { startOne with count := count })]
      let s := flying (s0.setBed 1 { s0.bed 1 with hold := some ⟨5000, 4821, 50, 0⟩ }) (flight 1 .poll (some 1))
      ((ran (.poll (meterReply 1 .poll 0 1000)) s).bed 1).hold.map Hold.tally
    tally .uncounted = some 50 ∧ tally .granted = some 1050 ∧ tally (.running 100 700) = some 750 ∧
    tally (.running 100 900) = some 950 ∧ tally (.trimmed 300) = some 750 := by decide +kernel

/-- A reply with a wrong check byte, a TRIM missed while its start stands, with nothing and with a STOP held; and the first
METER fault of a start at 179 points, a later one. -/
theorem witness_MissedReplies_check :
    let trim : LineCommand := .trim 800 5
    let bad : List Byte := (meterReply 1 .poll 1 200).dropLast ++ [0]
    let s (k : LineCommand) : State := flying (spraying.setCannon 1 { spraying.cannon 1 with score := 179 }) (flight 1 k (some 1))
    let stop := holds (s trim) 1 .stop 4
    let later : State := (s .poll).setCannon 1 { (s .poll).cannon 1 with overrun := true }
    (replyLength .poll ≤ bad.length ∧ judgeReply 1 .poll (bad.take (replyLength .poll)) = none ∧
      ((ran (.poll bad) (s .poll)).cannon 1).lastFault = .check) ∧
    ((s trim).serves (flight 1 trim (some 1)) (orderOne .spraying (some startOne)) startOne ∧
      ((ran .noReply (s trim)).cannon 1).held.map HeldCommand.command = some trim ∧
      ((ran .noReply stop).cannon 1).held = some ⟨.stop, 4⟩) ∧
    ((s .poll).replyTaken (flight 1 .poll (some 1)) (meterReply 1 .poll 1 1001) ⟨.spraying, 1001⟩ ∧
      (s .poll).serves (flight 1 .poll (some 1)) (orderOne .spraying (some startOne)) startOne ∧ startOne.volume < 1001 ∧
      ((s .poll).cannon 1).score + 20 < 200 ∧ ((s .poll).cannon 1).held = none ∧ ((s .poll).cannon 1).overrun = false ∧
      (Readers.ofMask ((s .poll).conf.recordSet 7)).isEmpty = false) ∧
    ((ran (.poll (meterReply 1 .poll 1 1001)) (s .poll)).cannon 1).score = 199 ∧
    ((ran (.poll (meterReply 1 .poll 1 1001)) later).cannon 1).score = 179 := by decide +kernel

/-- A request still being sent as the line breaks; and the lone start of an order ended by its estimate, from a rated flow of
600 L/min and a last good reply one second before the fault: 100 + 110 L. -/
theorem witness_LineFaultsAndReturns_estimate :
    let sending := flying spraying { flight 1 .poll (some 1) with sentAt := none }
    let s0 : State := { spraying with conf := conf.put 0x20 1 600, line := { spraying.line with state := .fault 5000 false } }
    let s := s0.setCannon 1 { s0.cannon 1 with lastGood := some 4000 }
    let t := ran .lineFaultEndOfStarts s
    (sending.line.transaction = some { flight 1 .poll (some 1) with sentAt := none } ∧ ran .lineFault sending = sending) ∧
    (s.orderLaw ∧ s.disp.orders = [orderOne .spraying (some startOne)] ∧ startOne.acknowledged = true) ∧
    (∀ c ∈ cannonNumbers, (s.cannon c).test = .none) ∧
    (t.water.recycled.balance, t.water.recycled.reserved) = (49790, 0) ∧
    (t.order 1).map Order.remaining = some 2790 := by decide +kernel

/-- An IDLE cannon fit for a test that still holds a STOP. -/
theorem witness_CannonRequests_stop :
    let m := holds (cannonIn (inMode (withWater base) .maintenance) 2 .idle) 2 .stop 4
    let t := ran (.testSpray 31 2) (asked m 31 0x36 [2])
    (asked m 31 0x36 [2]).ready 31 0x36 [2] ∧ (m.cannon 2).held.map HeldCommand.command = some .stop ∧
    (t.cannon 2).test = .none ∧ (t.cannon 2).held = some ⟨.stop, 4⟩ := by decide +kernel

/-- A record joins an empty queue, displaces the newest of a full one, and is absorbed into an OVERFLOW at its last count; its
kind is routed to no class; and with five, six and seven free entries, notices to one, two and three classes. -/
theorem witness_RecordsAreRead_made :
    let r (k : RecordKind) (n : Nat) : Record := ⟨k, 1, n, 0, 0, none, ⟨true, true, true⟩⟩
    let s (q : List Record) : State := { base with recs := { base.recs with queue := q } }
    let made (q : List Record) := (ran .lineFault (s q)).recs.queue
    let due (frames : Nat) : State :=
      holding { s [r .overrun 5] with recs := ⟨[r .overrun 5], Readers.none, some 600000⟩ } frames
    let told (frames : Nat) : Nat × Readers :=
      let t := ran .readTimerExpiry (due frames)
      (t.port.outbound.length - frames, t.recs.marks)
    (base.line.state = .ok ∧ base.line.transaction = none ∧
      (Readers.ofMask (base.conf.recordSet RecordKind.lineFault.code)).isEmpty = false ∧
      (Readers.ofMask ((conf.put 0x05 RecordKind.lineFault.code 0).recordSet RecordKind.lineFault.code)).isEmpty = true) ∧
    (made []).length = 1 ∧
    ((made (List.replicate 32 (r .overrun 5))).getLast?.map (fun x => (x.kind, x.value)) = some (.overflow, 2) ∧
      (made (List.replicate 32 (r .overrun 5))).length = 32) ∧
    (made [r .overrun 5, r .overflow 65535]).getLast?.map (fun x => (x.kind, x.value)) = some (.overflow, 65535) ∧
    (told 20).1 = 0 ∧ (told 19).1 = 1 ∧ (told 18).1 = 2 ∧ told 17 = (3, Readers.none) := by decide +kernel

/-- The law of cursors, decided bed by bed. -/
theorem cursorLaw_of (s : State)
    (h : ∀ b ∈ bedNumbers, s.conf.bedDefined b = true → (s.bed b).cursor < (s.conf.cannonList b).length) : s.cursorLaw := by
  intro b hb
  refine h b ((mem_bedNumbers b).2 ?_) hb
  have := of_decide_eq_true hb
  exact ⟨this.1, this.2.1⟩

/-- Both beds' cursors at the last entry of their lists, and an attempt that brings bed 1's to 0. -/
theorem witness_WetnessStaysInRange_cursors :
    let s0 : State := (cannonIn (withOrders (withWater base) [orderOne .waiting none]) 2 .idle).cause
    let s := waiting (s0.setBed 1 { s0.bed 1 with cursor := 1 }) [.dispatchAttempt]
    s.cursorLaw ∧ ∃ t, step s = .next t ∧ (t.bed 1).cursor = 0 := by
  refine ⟨cursorLaw_of _ (by decide +kernel), _, rfl, by decide +kernel⟩

/-- No remaining volume rises in an EVALUATION that leaves FREEZE as it is, and in another command: of an order that sprays
beside one that waits. -/
theorem witness_OrdersStayLawful_remaining :
    let o := orderOne .spraying (some startOne)
    let s0 := withOrders spraying [o, { orderOne .waiting none with bed := 2, serial := 1 }]
    let s := flying s0 (flight 1 .poll (some 1))
    let t := ran .evaluation s0
    (s0.orderLaw ∧ exec .evaluation s0 = .next t ∧ t.ctrl.freeze = s0.ctrl.freeze ∧ o ∈ s0.disp.orders ∧ o.state ≠ .waiting ∧
      t.order 1 = some o) ∧
    (s.orderLaw ∧ (ran (.poll (meterReply 1 .poll 0 1000)) s).order 1 = some { orderOne .waiting none with
      remaining := 2000, delivered := 1000, waitStart := 0 }) := by
  refine ⟨⟨by decide, rfl, by decide +kernel, by decide, by decide, by decide +kernel⟩, by decide, by decide +kernel⟩

/-- Every kind of notice is pending: with no room nothing joins, with room for three the first three in producer order, and
with room for all the whole pass. -/
theorem witness_FrameSentFreesAnEntry_pass :
    let b0 : State := { base with
      store := { base.store with started := some ⟨.external, true, 7⟩ }
      ctrl := { base.ctrl with modeMark := true }
      beds := { base.beds with pending := [⟨1, 4821, 3900⟩] }
      zones := { base.zones with pending := [3] }
      disp := { base.disp with pending := [⟨2, 500, .complete⟩] }
      water := { base.water with recycled := ⟨0, 0, 0, 40⟩, fresh := ⟨0, 0, 0, 50⟩ }
      recs := { base.recs with queue := [⟨.overrun, 1, 5, 0, 0, none, ⟨true, false, true⟩⟩], marks := ⟨true, true, true⟩ } }
    let b := (b0.setCannon 2 { b0.cannon 2 with mark := true }).setCannon 24 { b0.cannon 24 with mark := true }
    let sent (frames : Nat) : State := ran .frameSent (holding b frames)
    let joined (frames : Nat) : List Frame := (sent frames).port.outbound.drop (frames - 1)
    (b.port.bus = .joined ∧ (joined 21).length = 0 ∧ (sent 21).store.started.isSome = true) ∧
    (joined 18 = [.notice (b.classes .started) .started [1, 1, 0, 7], .notice (b.classes .mode) .mode [1, 0],
        .notice (b.classes .cannonState) .cannonState [2, 0, 0, 0, 0]] ∧
      (sent 18).ctrl.modeMark = false ∧ ((sent 18).cannon 24).mark = true) ∧
    ((joined 1).map (fun f => f.bytes.drop 2) = [[1, 1, 0, 7], [1, 0], [2, 0, 0, 0, 0], [24, 0, 0, 0, 0],
        [1, 0x12, 0xD5, 0, 0x0F, 0x3C], [3], [2, 0, 0, 1, 0xF4, 0], [0, 0, 0, 0, 40], [1, 0, 0, 0, 50], [1], [1]] ∧
      (sent 1).recs.marks = Readers.none ∧ (sent 1).beds.pending = []) := by decide +kernel

/-- The STARTED notice with five free entries, with four, and routed to no class; FREEZE judged at a settings restart, kept
inside the 2 degrees above the limit, left without a temperature, and untouched by a load after a reset; and what stays
pending, with the kinds routed and not, where no claim expires, no hold is on a bed and the forecast stays live. -/
theorem witness_LoadTakesTheImage_started :
    let image : List Byte := [0, 6, 0, 9, 0xFF, 0xFF]
    let unrouted := imageOf ((numbersFrom 1 9).map (fun k => (0x04, k, 0)))
    let restart (image : List Byte) (temperature : Option Int) (freeze : Bool) (frames : Nat) : State :=
      let s := restarting conf image
      holding { s with
        forecast := { s.forecast with temperature := temperature.map (fun d => (d, s.osc)) }
        ctrl := { s.ctrl with freeze := freeze }
        disp := { s.disp with pending := [⟨2, 500, .complete⟩] }
        zones := { s.zones with pending := [3] }
        beds := { s.beds with pending := [⟨1, 4821, 3900⟩] }
        recs := ⟨[⟨.overrun, 1, 5, 0, 0, none, ⟨true, false, true⟩⟩], ⟨true, false, false⟩, none⟩
        water := { s.water with recycled := ⟨0, 0, 0, 40⟩ } } frames
    let t (image : List Byte) (temperature : Option Int) (freeze : Bool) (frames : Nat) : State :=
      ran (.load true) (restart image temperature freeze frames)
    let left (image : List Byte) : State := t image none false 20
    ((restart image none false 19).ctrl.mode = .starting ∧ (restart image none false 19).disp.orders = [] ∧
      (judgeImage image).isSome = true ∧ (judgeImage unrouted).isSome = true ∧
      (restart image none false 19).free = 5 ∧ (restart image none false 20).free = 4 ∧
      (t image none false 20).classes .started ≠ 0 ∧ (t unrouted none false 20).classes .started = 0 ∧
      (restart image none false 19).forecast.live = false ∧ (restart image none false 19).zones.entries = []) ∧
    ((t image none false 19).port.outbound[19]? =
        some (.notice ((t image none false 19).classes .started) .started [2, 1, 0, 9]) ∧
      (t image none false 20).store.started = some ⟨.settingsRestart, true, 9⟩ ∧
      (t unrouted none false 19).store.started = none) ∧
    ((t image none false 20).conf.tFreeze = 2 ∧
      [(some 2, false), (some 3, true), (some 3, false), (some 4, true), (none, true)].map
        (fun x => (t image x.1 x.2 20).ctrl.freeze) = [true, true, false, false, false] ∧
      (ran (.load false) { State.reset with ctrl := { State.reset.ctrl with freeze := true } }).ctrl.freeze = true) ∧
    ((left image).disp.pending.length = 1 ∧ (left image).zones.pending = [3] ∧ (left image).beds.pending.length = 1 ∧
      (left image).water.recycled.pendingUse = 40 ∧ (left image).recs.marks.ops = true ∧
      (left image).recs.readDue = some 90600000) ∧
    ((left unrouted).disp.pending = [] ∧ (left unrouted).zones.pending = [] ∧ (left unrouted).beds.pending = [] ∧
      (left unrouted).water.recycled.pendingUse = 0 ∧ (left unrouted).recs.marks.ops = false ∧
      (left unrouted).recs.queue.length = 1) := by
  refine ⟨by decide +kernel, by decide +kernel, by decide +kernel, by decide +kernel, by decide +kernel⟩

/-- No hold is on any bed. -/
theorem witness_LoadTakesTheImage_quiet :
    ((restarting conf []).forecast.live = false) ∧ ∀ b, ((restarting conf []).bed b).hold = none := by
  refine ⟨rfl, fun b => ?_⟩
  rcases nth_replicate_or (n := 32) (Bed.initial Settings.builtIn.wInit) (Bed.initial 0) b with h | h <;>
    · show (nth (Vector.replicate 32 (Bed.initial Settings.builtIn.wInit)) (Bed.initial 0) b).hold = none
      rw [h]; rfl

/-- The limit and the hold of each TRIM that is held or in flight. -/
def trims (s : State) : List (Nat × Nat) :=
  (cannonNumbers.filterMap (fun c => (s.cannon c).held.map HeldCommand.command) ++
    (s.line.transaction.map Transaction.command).toList).filterMap
      (fun k => match k with | .trim limit hold => some (limit, hold) | _ => none)

theorem mem_trims {s : State} {limit hold : Nat} (h : s.asksTrim limit hold) : (limit, hold) ∈ trims s := by
  refine List.mem_filterMap.2 ⟨.trim limit hold, ?_, rfl⟩
  rcases h with ⟨c, hc⟩ | h
  · refine List.mem_append_left _ (List.mem_filterMap.2 ⟨c, ?_, hc⟩)
    by_cases hb : 1 ≤ c ∧ c ≤ 24
    · exact (mem_cannonNumbers c).2 hb
    · rw [show s.cannon c = Cannon.initial from nth_outside _ _ (by omega)] at hc
      exact absurd hc (by simp [Cannon.initial])
  · exact List.mem_append_right _ (by simp [h])

/-- The law of TRIMs, decided over the beds, the TRIMs and the orders. -/
theorem trimLaw_of (s : State)
    (h1 : ∀ b ∈ bedNumbers, (s.bed b).hold.all (fun h => decide (h.serial < s.beds.holdSerial)) = true)
    (h2 : ∀ x ∈ trims s, x.2 < s.beds.holdSerial)
    (h3 : ∀ o ∈ s.disp.orders, o.start.all (fun st => (s.bed o.bed).hold.all (fun h =>
      st.count != .uncounted && (trims s).all (fun x => x.2 != h.serial ||
        match st.count with | .running _ cap => decide (x.1 ≤ cap) | _ => true))) = true) : s.trimLaw := by
  refine ⟨fun b h hb => ?_, fun limit hold hk => h2 _ (mem_trims hk), fun o ho st h hs hb => ?_⟩
  · by_cases hn : 1 ≤ b ∧ b ≤ 32
    · have := h1 b ((mem_bedNumbers b).2 hn)
      rw [hb] at this
      exact of_decide_eq_true this
    · rw [show s.bed b = Bed.initial 0 from nth_outside _ _ (by omega)] at hb
      exact absurd hb (by simp [Bed.initial])
  · have := h3 o ho
    rw [hs, hb] at this
    simp only [Option.all_some, Bool.and_eq_true, bne_iff_ne, ne_eq, List.all_eq_true, Bool.or_eq_true] at this
    refine ⟨this.1, fun limit dh cap hk hc => ?_⟩
    rcases this.2 _ (mem_trims hk) with hne | hle
    · exact absurd rfl hne
    · rw [hc] at hle
      exact of_decide_eq_true hle

/-- A spray under a hold set while it ran, with room to the litre, and the reply of the TRIM asked for that hold at the hold
point; a cap lowered to that room while a TRIM of a larger limit is in flight. -/
theorem witness_MoistureHolds_law :
    let st : Start := { startOne with count := .running 100 900 }
    let h : Hold := ⟨4800, 4821, 3900, 5⟩
    let s0 := (withOrders spraying [orderOne .spraying (some st)]).setBed 1 { spraying.bed 1 with hold := some h }
    let s := flying { s0 with beds := { s0.beds with holdSerial := 6 } } (flight 1 (.trim 900 5) (some 1))
    let u := s.setBed 1 { s.bed 1 with hold := some { h with cap := 6000 } }
    (s.orderLaw ∧ s.trimLaw ∧ s.holdLaw ∧ s.shareOf 1 = 900) ∧
    (s.replyTaken (flight 1 (.trim 900 5) (some 1)) (meterReply 1 (.trim 900 5) 1 100) ⟨.spraying, 100⟩ ∧
      s.serves (flight 1 (.trim 900 5) (some 1)) (orderOne .spraying (some st)) st ∧ st.holdPoint ≤ 100 ∧
      ∃ t, exec (.trim (meterReply 1 (.trim 900 5) 1 100)) s = .next t ∧ t.shareOf 1 = 900) ∧
    (u.orderLaw ∧ u.trimLaw ∧ u.holdLaw ∧
      ((ran (.moistureHoldSet 2 1 1 4821) (asked u 2 0x10 [1, 0, 0, 1, 0x12, 0xD5])).bed 1).hold = some h) := by
  refine ⟨⟨by decide, trimLaw_of _ (by decide +kernel) (by decide +kernel) (by decide +kernel),
    holdLaw_of _ (by decide +kernel), by decide +kernel⟩,
    ⟨by decide +kernel, by decide +kernel, by decide, _, rfl, by decide +kernel⟩,
    by decide, trimLaw_of _ (by decide +kernel) (by decide +kernel) (by decide +kernel), holdLaw_of _ (by decide +kernel),
    by decide +kernel⟩

/-- A hold set over a start that sprays, with nothing, a TRIM and a STOP held, over one that stops, one whose START is still
held, an order without a start, and no order. -/
theorem witness_MoistureHolds_trims :
    let put (s : State) : State := asked s 2 0x10 [1, 0, 3, 0x84, 0x12, 0xD5]
    let t (s : State) : State := ran (.moistureHoldSet 2 1 900 4821) (put s)
    let stopping := withOrders spraying [orderOne .stopping (some startOne)]
    let folded := holds granted 1 (.start 1000 0 90) 4
    let asks (s : State) := ((t s).cannon 1).held.map HeldCommand.command
    let count (s : State) := (((t s).order 1).bind Order.start).map Start.count
    ((put spraying).ready 2 0x10 (1#8 :: be24 (900#24).toNat ++ be16 (4821#16).toNat) ∧ (spraying.bed 1).hold = none ∧
      base.conf.bedDefined (1#8).toNat = true ∧ spraying.order (1#8).toNat = some (orderOne .spraying (some startOne)) ∧
      (base.order 1).isNone = true ∧ (withOrders base [orderOne .waiting none]).order 1 = some (orderOne .waiting none)) ∧
    (asks spraying = some (.trim 900 0) ∧ count spraying = some (.running 100 900)) ∧
    asks (holds spraying 1 (.trim 70 3) 4) = some (.trim 900 0) ∧
    (asks (holds spraying 1 .stop 4) = some .stop ∧ count (holds spraying 1 .stop 4) = some (.running 100 900)) ∧
    (asks stopping = none ∧ count stopping = some (.running 100 900)) ∧
    (asks folded = some (.start 900 0 90) ∧ count folded = some (.trimmed 0) ∧
      (t folded).water.recycled.reserved = 900) := by
  refine ⟨by decide +kernel, by decide +kernel, by decide +kernel, by decide +kernel, by decide +kernel, by decide +kernel⟩

/-- No room under a hold is too small where no hold is. -/
theorem not_underCap {s : State} {b : Nat} (h : (s.bed b).hold = none) : ¬s.underCap b := by
  rintro ⟨q, hq, -⟩
  exact absurd (h.symm.trans hq) (by simp)

/-- A property of every entry before the `j`th from the cursor, decided entry by entry. -/
theorem before_of {s : State} {b j : Nat} {p : ListEntry → Prop} [DecidablePred p]
    (h : (List.range j).all (fun i => (s.entryAt b i).all (fun d => decide (p d))) = true) :
    ∀ i d, i < j → s.entryAt b i = some d → p d := by
  intro i d hi hd
  have := List.all_eq_true.1 h i (List.mem_range.2 hi)
  rw [hd] at this
  exact of_decide_eq_true this

/-- Three WAITING orders: bed 2 MANUAL under a claim, bed 1 AUTO_ACT behind it, which passes with its second cannon since its
first is not IDLE, and bed 3 PREWET behind that. -/
def scanned : State :=
  let q (b serial : Nat) (origin : Origin) : Order :=
    { orderOne .waiting none with bed := b, serial := serial, origin := origin, manual := origin == .manual }
  let s0 := withOrders (withWater base) [q 2 2 .manual, q 1 1 .autoAct, q 3 0 .prewet]
  let s := (cannonIn { s0 with zones := ⟨[⟨3, .travel, 2, 2, 0, []⟩], []⟩ } 2 .idle).cause
  { s with
    conf := ⟨7, conf.entries ++ [(0x1003, 1), (0x1508, 3)]⟩
    disp := { s.disp with serial := 3 }
    water := { s.water with recycled := ⟨50000, 0, 0, 0⟩ } }

/-- The scan of several WAITING orders: one ahead that fails, the first that passes, and the attempt from the state after its
grant, in which bed 3's order, judged next, fails. -/
theorem witness_DispatchAttempts_scan :
    let o := { orderOne .waiting none with bed := 1, serial := 1 }
    let m := { orderOne .waiting none with bed := 2, serial := 2, origin := .manual, manual := true }
    let p := { orderOne .waiting none with bed := 3, origin := .prewet }
    let e := scanned.conf.listEntry 1 1
    (scanned.disp.attempt = true ∧ scanned.orderLaw ∧ scanned.queueOrderLaw ∧
      ∀ o ∈ scanned.disp.orders, o.state = .waiting → (scanned.bed o.bed).cursor < (scanned.conf.cannonList o.bed).length) ∧
    (scanned.disp.orders = [m] ++ o :: [p] ∧ scanned.failsCheck m .zone ∧ scanned.passesChecks o .recycled 1 e) ∧
    (scanned.afterGrant o .recycled 1 e).failsCheck p .cannon ∧
    (((ran .dispatchAttempt scanned).order 1).bind Order.start).map (fun st => (st.cannon, st.volume)) = some (2, 3000) := by
  refine ⟨⟨rfl, by decide +kernel, by decide +kernel, by decide +kernel⟩, ⟨by decide +kernel, ?_, ?_⟩, ?_, by decide +kernel⟩
  · show scanned.modeGrants ∧ scanned.underClaim 2
    decide +kernel
  · refine ⟨⟨by decide +kernel, by decide +kernel, not_underCap (by decide +kernel)⟩, ?_, ?_, by decide +kernel⟩
    · show scanned.takesRecycled _
      decide +kernel
    · exact ⟨by decide +kernel, by decide +kernel, by decide +kernel, .inl ⟨by decide +kernel, before_of (by decide +kernel)⟩⟩
  · exact ⟨⟨by decide +kernel, by decide +kernel, not_underCap (by decide +kernel)⟩, by decide +kernel, by decide +kernel⟩
theorem fails_mode {s : State} {o : Order} (h : ¬s.modeGrants) : s.failsCheck o .mode := h

theorem fails_water {s : State} {o : Order} (h : s.modeGrants ∧ ¬s.underClaim o.bed) (hold : (s.bed o.bed).hold = none)
    (water : ¬s.takesRecycled o ∧ ¬s.takesFresh o) : s.failsCheck o .water := ⟨⟨h.1, h.2, not_underCap hold⟩, water⟩

/-- An attempt in which every WAITING order fails: two orders of priority 0 blocked for WATER, one with its flag set, tell the
demand, and the other's WATER_SHORT is asked; a PREWET order's flag is cleared; another mode; a bed CAPPED; and a header that
takes no start of the only eligible cannon, a SUSPECT one. -/
theorem witness_DispatchAttempts_blocked :
    let q (b serial : Nat) (origin : Origin) : Order :=
      { orderOne .waiting none with bed := b, serial := serial, origin := origin }
    let s0 := (withOrders (withWater base) [q 1 1 .autoSevere, q 2 2 .autoSevere, q 3 0 .prewet]).cause
    let s1 : State := { s0 with disp := { s0.disp with serial := 3 }, conf := ⟨7, conf.entries ++ [(0x1003, 1), (0x1508, 3)]⟩ }
    let s := s1.setBed 2 { s1.bed 2 with waterShort := true }
    let dry : State := { s with water := { s.water with recycled := ⟨199, 0, 0, 0⟩, fresh := ⟨199, 0, 0, 0⟩ } }
    let t := ran .dispatchAttempt dry
    let capped := s.setBed 1 { s.bed 1 with hold := some ⟨5000, 1, 4801, 0⟩ }
    let full0 := cannonIn { s with water := { s.water with slotCapacity := 0 } } 2 .idle
    let full := full0.setCannon 2 { full0.cannon 2 with suspect := true }
    (dry.disp.attempt = true ∧ dry.orderLaw ∧ dry.queueOrderLaw ∧ dry.water.demandMark = false ∧ dry.classes .demand ≠ 0 ∧
      5 ≤ dry.free ∧ ∀ o ∈ dry.disp.orders, dry.failsCheck o .water ∧
        (dry.bed o.bed).cursor < (dry.conf.cannonList o.bed).length) ∧
    (t.port.outbound.map Frame.bytes = [[2, 7, 0, 0x23, 0x28, 0, 0, 0], [1, 3, 1], [2, 3, 1]] ∧
      t.recs.queue.map (fun r => (r.kind, r.subject, r.value)) = [(.waterShort, 1, 30)] ∧ t.water.demandMark = true ∧
      (t.bed 1).waterShort = true ∧ (t.bed 2).waterShort = true ∧ (t.bed 3).waterShort = false) ∧
    (inMode s .hold).failsCheck (q 1 1 .autoSevere) .mode ∧ capped.failsCheck (q 1 1 .autoSevere) .cap ∧
    full.failsCheck (q 1 1 .autoSevere) .capacity := by
  refine ⟨⟨rfl, by decide +kernel, by decide +kernel, rfl, by decide +kernel, by decide +kernel, fun o ho => ?_⟩,
    by decide +kernel, ?_, ?_, ?_⟩
  · refine ⟨fails_water ?_ ?_ ?_, ?_⟩ <;> revert o <;> decide +kernel
  · exact fails_mode (by decide +kernel)
  · exact ⟨by decide +kernel, by decide +kernel, _, rfl, by decide +kernel⟩
  · exact ⟨⟨by decide +kernel, by decide +kernel, not_underCap (by decide +kernel)⟩, by decide +kernel, 1,
      base.conf.listEntry 1 1,
      ⟨by decide +kernel, by decide +kernel, by decide +kernel, .inr ⟨by decide +kernel, before_of (by decide +kernel)⟩⟩,
      by decide +kernel⟩

/-- Settings with no failing entry; the first failing entry of settings that break one condition each; and an image
judged valid, whose last entry for an item stands (R201, R202, R205). -/
theorem witness_SettingsAreWrittenAndCommitted_images :
    let first (code index : Nat) (v : Int) : Option Nat := firstFailure (conf.put code index v)
    (Settings.wf conf ∧ firstFailure conf = none ∧ conf.version < 65536) ∧
    (first 0x10 1 5 = some 0x1001 ∧ first 0x15 4 0 = some 0x1507 ∧ first 0x15 6 9 = some 0x1507 ∧
      first 0x15 1 1 = some 0x1501 ∧ first 0x28 6 10 = some 0x2806 ∧ first 0x28 5 301 = some 0x2806 ∧
      first 0x38 6 4000 = some 0x3808 ∧ first 0x38 11 599 = some 0x380B ∧ first 0x22 0 80 = some 0x2201 ∧
      firstFailure ⟨7, conf.entries ++ [(0x1003, 1), (0x1508, 2)]⟩ = some 0x1508) ∧
    ((judgeImage (imageOf [(0x40, 0, 7), (0x40, 0, 9)])).map (fun S => (S.version, S.get 0x40 0, S.get 0x40 1)) =
      some (9, 9, settingDefault 0x4001)) := by
  refine ⟨by decide +kernel, by decide +kernel, by decide +kernel⟩

end Sys2Proof.Tests
end

section
/-! SUPPORT. The relation `Calm`: what nearly every operation keeps of the beds and of the orders, so that the laws of wetness, of
the cursors and of the running orders follow from it. Only a grant, a load and a reset go beyond it. -/

namespace Sys2Proof.Machine

/-! ### The order queue -/

theorem insertOrder_perm (o : Order) (l : List Order) : (insertOrder o l).Perm (o :: l) := by
  induction l with
  | nil => exact .refl _
  | cons x rest ih =>
    unfold insertOrder
    split
    · exact .refl _
    · exact (ih.cons x).trans (.swap o x rest)

theorem mem_insertOrder {o q : Order} {l : List Order} : q ∈ insertOrder o l ↔ q = o ∨ q ∈ l := by
  rw [(insertOrder_perm o l).mem_iff, List.mem_cons]

theorem mem_ordersWithout {b : Nat} {q : Order} {l : List Order} : q ∈ ordersWithout b l ↔ q ∈ l ∧ q.bed ≠ b := by
  simp [ordersWithout]

theorem State.mem_putOrder {s : State} {o q : Order} :
    q ∈ (s.putOrder o).disp.orders ↔ q = o ∨ (q ∈ s.disp.orders ∧ q.bed ≠ o.bed) := by
  rw [State.putOrder_orders, mem_insertOrder, mem_ordersWithout]

theorem State.order_mem {s : State} {b : Nat} {o : Order} (h : s.order b = some o) : o ∈ s.disp.orders ∧ o.bed = b :=
  ⟨List.mem_of_find?_eq_some h, by simpa using List.find?_some h⟩

theorem State.startOn_mem {s : State} {c : Nat} {o : Order} (h : s.startOn c = some o) : o ∈ s.disp.orders :=
  List.mem_of_find?_eq_some h

/-- No bed has two orders (R113). -/
abbrev State.oneOrderPerBed (s : State) : Prop := (s.disp.orders.map Order.bed).Nodup

theorem State.order_of_mem {s : State} (hn : s.oneOrderPerBed) {o : Order} (ho : o ∈ s.disp.orders) :
    s.order o.bed = some o := by
  cases h : s.order o.bed with
  | none => simpa using List.find?_eq_none.mp h o ho
  | some q =>
    obtain ⟨hq, hb⟩ := State.order_mem h
    exact congrArg some (List.inj_on_of_nodup_map hn hq ho hb)

/-- An order with the other orders of the queue on other beds is part of the queue. -/
theorem cons_ordersWithout_subperm {q : Order} {l : List Order} (h : q ∈ l) : (q :: ordersWithout q.bed l).Subperm l := by
  have hq : [q].Sublist (l.filter (fun o => !(o.bed != q.bed))) :=
    List.singleton_sublist.mpr (List.mem_filter.mpr ⟨h, by simp⟩)
  have hs : (ordersWithout q.bed l ++ [q]).Sublist
      (l.filter (fun o => o.bed != q.bed) ++ l.filter (fun o => !(o.bed != q.bed))) := (List.Sublist.refl _).append hq
  exact ((List.perm_append_singleton q _).symm.subperm.trans hs.subperm).trans (List.filter_append_perm _ l).subperm

/-! ### The relation -/

/-- What the header and the claims see of an order in GRANTED or SPRAYING: its bed, and the cannon of its start. -/
def Order.runKey (o : Order) : Nat × Option Nat := (o.bed, o.start.map Start.cannon)

/-- The keys of the orders of a queue in GRANTED or SPRAYING. -/
def runKeysOf (l : List Order) : List (Nat × Option Nat) := (l.filter Order.running).map Order.runKey

/-- At most the following differ, of what the laws of beds and running orders speak of: a wetness stays in its range where it
was, an order may appear on a defined bed, and orders in GRANTED or SPRAYING may leave these states. -/
structure Calm (s t : State) : Prop where
  conf : t.conf = s.conf
  wetness : s.wetnessLaw → t.wetnessLaw
  cursor : ∀ b, (t.bed b).cursor = (s.bed b).cursor
  oneOrder : s.oneOrderPerBed → t.oneOrderPerBed
  ordered : ∀ o ∈ t.disp.orders, s.conf.bedDefined o.bed = true ∨ ∃ q ∈ s.disp.orders, q.bed = o.bed
  running : (runKeysOf t.disp.orders).Subperm (runKeysOf s.disp.orders)

theorem runKeysOf_subperm {l m : List Order} (h : l.Subperm m) : (runKeysOf l).Subperm (runKeysOf m) := by
  obtain ⟨k, hp, hs⟩ := h
  exact ⟨runKeysOf k, (hp.filter _).map _, (hs.filter _).map _⟩

theorem runKeysOf_cons (o : Order) (l : List Order) :
    runKeysOf (o :: l) = if o.running = true then o.runKey :: runKeysOf l else runKeysOf l := by
  unfold runKeysOf
  rw [List.filter_cons]
  split <;> rfl

namespace Calm

theorem refl (s : State) : Calm s s :=
  ⟨rfl, id, fun _ => rfl, id, fun o ho => .inr ⟨o, ho, rfl⟩, .refl _⟩

theorem trans {s t u : State} (h1 : Calm s t) (h2 : Calm t u) : Calm s u where
  conf := h2.conf.trans h1.conf
  wetness h := h2.wetness (h1.wetness h)
  cursor b := (h2.cursor b).trans (h1.cursor b)
  oneOrder h := h2.oneOrder (h1.oneOrder h)
  ordered o ho := by
    rcases h2.ordered o ho with hd | ⟨q, hq, hb⟩
    · exact .inl (h1.conf ▸ hd)
    · rcases h1.ordered q hq with hd | ⟨p, hp, hc⟩
      · exact .inl (hb ▸ hd)
      · exact .inr ⟨p, hp, hc.trans hb⟩
  running := h2.running.trans h1.running

/-- An operation that leaves the settings, the bed records and the orders. -/
theorem same {s t : State} (hc : t.conf = s.conf) (hb : t.beds.records = s.beds.records)
    (ho : t.disp.orders = s.disp.orders) : Calm s t where
  conf := hc
  wetness h := ⟨fun b => by rw [State.bed_congr hb]; exact h.1 b, hc ▸ h.2.1, hc ▸ h.2.2⟩
  cursor b := by rw [State.bed_congr hb]
  oneOrder h := by unfold State.oneOrderPerBed; rw [ho]; exact h
  ordered o h := .inr ⟨o, ho ▸ h, rfl⟩
  running := by rw [ho]

theorem setBed (s : State) (b : Nat) (r : Bed) (hc : r.cursor = (s.bed b).cursor)
    (hw : s.wetnessLaw → r.wetness ≤ 1000) : Calm s (s.setBed b r) where
  conf := rfl
  wetness h := ⟨fun a => by rw [State.bed_setBed]; split; exacts [hw h, h.1 a], h.2⟩
  cursor a := by
    rw [State.bed_setBed]
    split
    · rename_i h; rw [hc, h.1]
    · rfl
  oneOrder := id
  ordered o h := .inr ⟨o, h, rfl⟩
  running := .refl _

/-- A write to a bed that leaves its wetness and its cursor. -/
theorem setBed_same (s : State) (b : Nat) (r : Bed) (hc : r.cursor = (s.bed b).cursor)
    (hw : r.wetness = (s.bed b).wetness) : Calm s (s.setBed b r) :=
  setBed s b r hc (fun h => hw ▸ h.1 b)

/-- A write of an order that is not in GRANTED or SPRAYING, or that was so with the same start. -/
theorem putOrder (s : State) (o : Order)
    (hb : s.conf.bedDefined o.bed = true ∨ ∃ q ∈ s.disp.orders, q.bed = o.bed)
    (hr : o.running = true → ∃ q ∈ s.disp.orders, q.running = true ∧ q.runKey = o.runKey) : Calm s (s.putOrder o) where
  conf := rfl
  wetness := id
  cursor _ := rfl
  oneOrder h := by
    have hp : ((s.putOrder o).disp.orders.map Order.bed).Perm (o.bed :: (ordersWithout o.bed s.disp.orders).map Order.bed) :=
      (insertOrder_perm o _).map Order.bed
    refine hp.nodup_iff.mpr (List.nodup_cons.mpr ⟨?_, h.sublist (List.filter_sublist.map _)⟩)
    rintro hm
    obtain ⟨q, hq, e⟩ := List.mem_map.mp hm
    exact (mem_ordersWithout.mp hq).2 e
  ordered q hq := by
    rcases State.mem_putOrder.mp hq with rfl | ⟨h, _⟩
    · exact hb
    · exact .inr ⟨q, h, rfl⟩
  running := by
    refine (runKeysOf_subperm (insertOrder_perm o _).subperm).trans ?_
    rw [runKeysOf_cons]
    split
    · rename_i h
      obtain ⟨q, hq, hrun, hk⟩ := hr h
      have hbed : q.bed = o.bed := congrArg Prod.fst hk
      have := runKeysOf_subperm (cons_ordersWithout_subperm hq)
      rw [runKeysOf_cons, if_pos hrun, hk, hbed] at this
      exact this
    · exact runKeysOf_subperm List.filter_sublist.subperm

/-- A write of the order of a bed with another state or start. -/
theorem putOrder_of {s : State} {b : Nat} {o : Order} (h : s.order b = some o) (p : Order) (hb : p.bed = o.bed)
    (hr : p.running = true → o.running = true ∧ p.start.map Start.cannon = o.start.map Start.cannon) :
    Calm s (s.putOrder p) := by
  obtain ⟨hm, _⟩ := State.order_mem h
  refine putOrder s p (.inr ⟨o, hm, hb.symm⟩) (fun hp => ⟨o, hm, (hr hp).1, ?_⟩)
  simp [Order.runKey, hb, (hr hp).2]

/-- A fold of operations that are calm. -/
theorem foldl {α : Type} (f : State → α → State) (h : ∀ s x, Calm s (f s x)) (l : List α) (s : State) :
    Calm s (l.foldl f s) :=
  foldl_keeps Calm refl (fun _ _ _ => trans) f h l s

/-- A request is calm when its owner's event is. -/
theorem serve (s : State) (node : Node) (code : Nat) (data : List Byte) (owner : State → State)
    (h : ∀ u, Calm u (owner u)) : Calm s (s.serve node code data owner) := by
  have hr : Calm s s.takeRequest := same (by simp) (by simp) (by simp)
  have reply : ∀ r, Calm s (s.takeRequest.reply node code r []) := fun r =>
    hr.trans (same (by simp [State.reply]) (by simp [State.reply]) (by simp [State.reply]))
  rcases s.serve_cases node code data owner with ⟨_, e⟩ | ⟨_, _, e⟩ | ⟨_, _, _, _, e⟩ | ⟨_, e⟩ <;> rw [e]
  · exact refl s
  · exact reply _
  · exact reply _
  · exact hr.trans (h _)

end Calm
end Sys2Proof.Machine
end

section
/-! SUPPORT. Which shared operations are calm: holds, orders, starts and cannons (Machine/Ops.lean, Machine/Starts.lean). -/

namespace Sys2Proof.Machine

/-! ### Holds and records -/

theorem State.cause_calm (s : State) : Calm s s.cause := .same rfl rfl rfl

theorem State.reply_calm (s : State) (n : Node) (c : Nat) (r : Result) (d : List Byte) : Calm s (s.reply n c r d) :=
  .same rfl rfl rfl

theorem State.reach_calm (s : State) (d : Nat) : Calm s (s.reach d) := .same rfl rfl rfl

theorem State.setCannon_calm (s : State) (c : Nat) (r : Cannon) : Calm s (s.setCannon c r) := .same rfl rfl rfl

theorem State.place_calm (s : State) (c : Nat) (k : LineCommand) : Calm s (s.place c k) := .same rfl rfl rfl

theorem State.askRecord_calm (s : State) (k : RecordKind) (a v : Nat) (b : Option Band) : Calm s (s.askRecord k a v b) :=
  .same (by simp) (by simp) (by simp)

theorem State.flushCannons_calm (s : State) : Calm s s.flushCannons := .same (by simp) (by simp) (by simp)

theorem State.makeHoldEnded_calm (s : State) (h : HoldEnded) : Calm s (s.makeHoldEnded h) :=
  .same (by simp) (by simp) (by simp)

theorem State.makeClaimExpired_calm (s : State) (m : Nat) : Calm s (s.makeClaimExpired m) :=
  .same (by simp) (by simp) (by simp)

theorem State.makeSprayDone_calm (s : State) (d : SprayDone) : Calm s (s.makeSprayDone d) :=
  .same (by simp) (by simp) (by simp)

theorem State.judgeAtRisk_calm (s : State) (b : Nat) : Calm s (s.judgeAtRisk b) := by
  unfold State.judgeAtRisk
  dsimp only
  split
  · split
    · exact .refl s
    · exact Calm.trans (.setBed_same s b { s.bed b with cappedAtRisk := true } rfl rfl) (State.askRecord_calm ..)
  · exact .setBed_same s b _ rfl rfl

theorem uncountStart_calm (s : State) (b : Nat) : Calm s (uncountStart s b) := by
  unfold uncountStart
  split
  · rename_i o ho
    split
    · rename_i st hst
      exact .putOrder_of ho _ rfl (fun h => ⟨h, by simp [hst]⟩)
    · exact .refl s
  · exact .refl s

theorem State.removeHold_calm (s : State) (b : Nat) : Calm s (s.removeHold b) :=
  ((Calm.setBed_same s b { s.bed b with hold := none, cappedAtRisk := false } rfl rfl).trans
    (uncountStart_calm _ b)).trans (State.cause_calm _)

theorem State.endHold_calm (s : State) (b : Nat) : Calm s (s.endHold b) := by
  unfold State.endHold
  split
  · exact (s.removeHold_calm b).trans (State.makeHoldEnded_calm ..)
  · exact .refl s

/-! ### The end of an order and of a start -/

theorem State.ordersWithout_calm (s : State) (b : Nat) :
    Calm s { s with disp := { s.disp with orders := ordersWithout b s.disp.orders } } where
  conf := rfl
  wetness := id
  cursor _ := rfl
  oneOrder h := h.sublist (List.filter_sublist.map _)
  ordered o ho := .inr ⟨o, (mem_ordersWithout.mp ho).1, rfl⟩
  running := runKeysOf_subperm List.filter_sublist.subperm

theorem State.removeOrder_calm (s : State) (o : Order) (k : OrderOutcome) : Calm s (s.removeOrder o k) := by
  have h := (s.ordersWithout_calm o.bed).trans
    (Calm.setBed_same _ o.bed { s.bed o.bed with waterShort := false } rfl rfl)
  unfold State.removeOrder
  dsimp only
  split
  · exact h.trans (State.makeSprayDone_calm ..)
  · exact h

theorem State.endDrain_calm (s : State) (f : Bool) : Calm s (s.endDrain f) := .same (by simp) (by simp) (by simp)

theorem State.checkDrained_calm (s : State) : Calm s s.checkDrained := .same (by simp) (by simp) (by simp)

theorem State.chargeSource_disp (s : State) (w : WaterSource) (v d : Nat) : (s.chargeSource w v d).disp = s.disp := by
  cases w <;> rfl

theorem State.chargeSource_beds (s : State) (w : WaterSource) (v d : Nat) : (s.chargeSource w v d).beds = s.beds := by
  cases w <;> rfl

theorem State.chargeSource_calm (s : State) (w : WaterSource) (v d : Nat) : Calm s (s.chargeSource w v d) :=
  .same (by simp) (by rw [State.chargeSource_beds]) (by rw [State.chargeSource_disp])

theorem State.releaseWater_disp (s : State) (w : WaterSource) (v : Nat) : (s.releaseWater w v).disp = s.disp := by
  simp [State.releaseWater]

theorem State.releaseWater_calm (s : State) (w : WaterSource) (v : Nat) : Calm s (s.releaseWater w v) :=
  .same (by simp) (by simp [State.releaseWater]) (by rw [State.releaseWater_disp])

theorem State.chargeBed_calm (s : State) (b d : Nat) : Calm s (s.chargeBed b d) := by
  refine .setBed s b _ rfl (fun h => ?_)
  dsimp only
  split
  · exact h.1 b
  · exact min_le_left _ _

theorem State.chargeTally_calm (s : State) (b d : Nat) : Calm s (s.chargeTally b d) := by
  unfold State.chargeTally
  split
  · refine Calm.trans ?_ (State.judgeAtRisk_calm _ b)
    exact .setBed_same s b _ rfl rfl
  · exact .refl s

theorem State.chargeTally_disp (s : State) (b d : Nat) : (s.chargeTally b d).disp = s.disp := by
  unfold State.chargeTally
  split <;> simp

theorem State.freeCannon_calm (s : State) (c : Nat) : Calm s (s.freeCannon c) := State.setCannon_calm ..

/-- What becomes of an ended order is calm on a queue that holds an order on its bed. -/
theorem State.settleEnded_calm (s : State) (o : Order) (h : ∃ q ∈ s.disp.orders, q.bed = o.bed) :
    Calm s (s.settleEnded o) := by
  unfold State.settleEnded
  split
  · exact s.removeOrder_calm ..
  · split
    · exact s.removeOrder_calm ..
    · exact .putOrder s _ (.inr h) (fun hr => by simp [Order.running] at hr)

theorem State.settleRefused_calm (s : State) (o : Order) (h : ∃ q ∈ s.disp.orders, q.bed = o.bed) :
    Calm s (s.settleRefused o) := by
  unfold State.settleRefused
  split
  · exact s.removeOrder_calm ..
  · split
    · exact s.removeOrder_calm ..
    · exact .putOrder s _ (.inr h) (fun hr => by simp [Order.running] at hr)

theorem State.endStart_calm (s : State) (b d : Nat) : Calm s (s.endStart b d) := by
  unfold State.endStart
  split
  · exact .refl s
  · rename_i o ho
    split
    · exact .refl s
    · rename_i st _
      have charged := (((s.chargeSource_calm st.source st.volume d).trans (State.chargeBed_calm _ b d)).trans
        (State.chargeTally_calm _ b (st.counted d))).trans (State.freeCannon_calm _ st.cannon)
      have mem : ∃ q ∈ ((((s.chargeSource st.source st.volume d).chargeBed b d).chargeTally b (st.counted d)).freeCannon
          st.cannon).disp.orders, q.bed = o.bed :=
        ⟨o, by simpa [State.freeCannon, State.chargeTally_disp, State.chargeBed, State.chargeSource_disp] using
          (State.order_mem ho).1, rfl⟩
      refine Calm.trans ?_ (State.checkDrained_calm _)
      refine Calm.trans ?_ (State.cause_calm _)
      refine Calm.trans ?_ (State.settleEnded_calm _ _ ?_)
      · split
        · exact charged.trans (.same rfl rfl rfl)
        · exact charged
      · split <;> exact mem

theorem State.refuseStart_calm (s : State) (b : Nat) : Calm s (s.refuseStart b) := by
  unfold State.refuseStart
  split
  · exact .refl s
  · rename_i o ho
    split
    · exact .refl s
    · rename_i st _
      refine Calm.trans ?_ (State.checkDrained_calm _)
      refine Calm.trans ?_ (State.cause_calm _)
      refine ((s.releaseWater_calm st.source st.volume).trans (State.freeCannon_calm _ st.cannon)).trans
        (State.settleRefused_calm _ _ ⟨o, ?_, rfl⟩)
      simpa [State.freeCannon, State.releaseWater_disp] using (State.order_mem ho).1

/-! ### Figures of a start -/

theorem State.acknowledgeStart_calm (s : State) (b : Nat) : Calm s (s.acknowledgeStart b) := by
  unfold State.acknowledgeStart
  split
  · exact .refl s
  · rename_i o ho
    split
    · exact .refl s
    · rename_i st hst
      refine .putOrder_of ho _ rfl (fun h => ⟨?_, by simp [hst]⟩)
      cases hs : o.state <;> simp_all [Order.running]

theorem State.setDelivered_calm (s : State) (b d : Nat) : Calm s (s.setDelivered b d) := by
  unfold State.setDelivered
  split
  · exact .refl s
  · rename_i o ho
    split
    · exact .refl s
    · rename_i st hst
      exact .putOrder_of ho _ rfl (fun h => ⟨h, by simp [hst]⟩)

theorem State.takeTrim_calm (s : State) (b dt l n : Nat) : Calm s (s.takeTrim b dt l n) := by
  unfold State.takeTrim
  split
  · exact .refl s
  · rename_i o ho
    split
    · exact .refl s
    · rename_i st hst
      have put := (s.releaseWater_calm st.source (st.volume - min st.volume (dt + l))).trans
        (Calm.putOrder_of (o := o) (b := b) (by simpa [State.order, State.releaseWater_disp] using ho)
          { o with start := some { st with volume := min st.volume (dt + l),
                                           count := if (s.bed b).holdIs n then .trimmed dt else st.count } }
          rfl (fun h => ⟨h, by simp [hst]⟩))
      dsimp only
      split
      · exact put.trans (State.cause_calm _)
      · exact put

theorem State.endTest_calm (s : State) (c d : Nat) : Calm s (s.endTest c d) := .same rfl rfl rfl

/-! ### Commands for a cannon -/

theorem State.refuseOn_calm (s : State) (c : Nat) : Calm s (s.refuseOn c) := by
  unfold State.refuseOn
  split
  · exact s.refuseStart_calm _
  · exact .refl s

theorem State.askStop_calm (s : State) (c : Nat) : Calm s (s.askStop c) := by
  unfold State.askStop
  split
  · exact .refl s
  · exact (s.place_calm c .stop).trans (State.refuseOn_calm ..)
  · exact (s.place_calm c .stop).trans (State.endTest_calm ..)
  · exact s.place_calm c .stop

theorem State.askTrim_calm (s : State) (b c l n : Nat) : Calm s (s.askTrim b c l n) := by
  unfold State.askTrim
  split
  · exact .refl s
  · exact (s.setCannon_calm c _).trans (State.takeTrim_calm ..)
  · exact .refl s
  · exact s.place_calm c _

theorem Order.stopped_running (o : Order) (e : Option OrderOutcome) : (o.stopped e).running = false := rfl

theorem State.stopOrder_calm (s : State) (b : Nat) (e : Option OrderOutcome) : Calm s (s.stopOrder b e) := by
  unfold State.stopOrder
  split
  · exact .refl s
  · rename_i o ho
    have put : Calm s (s.putOrder (o.stopped e)) :=
      .putOrder_of ho _ rfl (fun h => by simp [Order.stopped_running] at h)
    split
    · split
      · exact put.trans (State.askStop_calm ..)
      · exact put
    · exact .refl s

theorem State.stopWhere_calm (s : State) (p : Order → Bool) : Calm s (s.stopWhere p) :=
  .foldl _ (fun t b => t.stopOrder_calm b none) _ s

/-! ### Cannon activity and the fault score -/

theorem State.setActivity_calm (s : State) (c : Nat) (a : CannonActivity) : Calm s (s.setActivity c a) := by
  unfold State.setActivity
  dsimp only
  split
  · exact (s.setCannon_calm c _).trans (State.cause_calm _)
  · exact s.setCannon_calm c _

theorem State.showActivity_calm (s : State) (c : Nat) (a : CannonActivity) : Calm s (s.showActivity c a) := by
  unfold State.showActivity
  split
  · exact .refl s
  · exact s.setActivity_calm c a

theorem State.goodTransaction_calm (s : State) (c : Nat) : Calm s (s.goodTransaction c) := by
  unfold State.goodTransaction
  dsimp only
  split
  · exact .refl s
  · exact s.setCannon_calm c _

theorem State.noteGoodReply_calm (s : State) (c : Nat) : Calm s (s.noteGoodReply c) := s.setCannon_calm c _

theorem State.dropHeld_calm (s : State) (c : Nat) : Calm s (s.dropHeld c) := by
  unfold State.dropHeld
  dsimp only
  split
  · exact (s.setCannon_calm c _).trans (State.refuseOn_calm ..)
  · exact (s.setCannon_calm c _).trans (State.endTest_calm ..)
  · exact s.setCannon_calm c _

theorem State.estimateStart_calm (s : State) (c t : Nat) : Calm s (s.estimateStart c t) := by
  unfold State.estimateStart
  split
  · exact .refl s
  · split
    · exact .refl s
    · split
      · exact s.endStart_calm ..
      · exact s.refuseStart_calm _

theorem State.estimateTest_calm (s : State) (c : Nat) : Calm s (s.estimateTest c) := by
  unfold State.estimateTest
  split
  · exact .refl s
  · exact s.endTest_calm c 0
  · exact s.endTest_calm c _

theorem State.closeEstimate_calm (s : State) (c : Nat) : Calm s (s.closeEstimate c) := by
  unfold State.closeEstimate
  dsimp only
  split
  · split
    · exact .refl s
    · split
      · exact s.place_calm c .stop
      · exact s.setCannon_calm c _
  · split
    · exact s.setCannon_calm c _
    · exact (s.setCannon_calm c _).trans (State.setActivity_calm ..)

theorem State.endByEstimate_calm (s : State) (c t : Nat) : Calm s (s.endByEstimate c t) :=
  ((s.estimateStart_calm c t).trans (State.estimateTest_calm _ c)).trans (State.closeEstimate_calm _ c)

theorem State.goOut_calm (s : State) (c : Nat) : Calm s (s.goOut c) := by
  have out := (s.setCannon_calm c { s.cannon c with streak := 0 }).trans (State.setActivity_calm _ c .outOfService)
  unfold State.goOut
  dsimp only
  refine Calm.trans ?_ (State.askRecord_calm ..)
  refine Calm.trans ?_ (State.setCannon_calm ..)
  split
  · exact out.trans (State.endByEstimate_calm ..)
  · exact out

theorem State.scoreEvent_calm (s : State) (c : Nat) (f : CannonFault) (n : Nat) : Calm s (s.scoreEvent c f n) := by
  unfold State.scoreEvent
  dsimp only
  split
  · split
    · exact s.setCannon_calm c _
    · exact (s.setCannon_calm c _).trans (State.goOut_calm _ c)
  · exact s.setCannon_calm c _

theorem State.scoreBadState_calm (s : State) (c : Nat) : Calm s (s.scoreBadState c) := s.scoreEvent_calm c _ _

theorem State.scoreMiss_calm (s : State) (c : Nat) (f : CannonFault) : Calm s (s.scoreMiss c f) := by
  unfold State.scoreMiss
  split
  · exact .refl s
  · exact s.scoreEvent_calm c f _

theorem State.goLocal_calm (s : State) (c : Nat) : Calm s (s.goLocal c) :=
  ((s.setCannon_calm c _).trans (State.dropHeld_calm _ c)).trans (State.showActivity_calm ..)

end Sys2Proof.Machine
end

section
/-! SUPPORT. Which events of the cannon line and of the Water Account are calm (Machine/CannonLine.lean, Machine/WaterAccount.lean). -/

namespace Sys2Proof.Machine

/-! ### The end of a transaction -/

theorem State.endTransaction_calm (s : State) (t : Transaction) : Calm s (s.endTransaction t) := .same rfl rfl rfl

theorem State.endServed_calm (s : State) (t : Transaction) (d : Nat) : Calm s (s.endServed t d) := by
  unfold State.endServed
  split
  · exact s.endStart_calm ..
  · exact .refl s

theorem State.endBegunTest_calm (s : State) (c d : Nat) : Calm s (s.endBegunTest c d) := by
  unfold State.endBegunTest
  split
  · exact s.endTest_calm c d
  · exact .refl s

theorem State.noteReply_calm (s : State) (t : Transaction) : Calm s (s.noteReply t) := by
  unfold State.noteReply
  split
  · exact s.noteGoodReply_calm _
  · exact .refl s

theorem State.afterMiss_calm (s : State) (t : Transaction) : Calm s (s.afterMiss t) := by
  unfold State.afterMiss
  split
  · exact s.askStop_calm _
  · exact s.askStop_calm _
  · exact s.askStop_calm _
  · split
    · exact .refl s
    · exact .refl s
    · exact s.place_calm ..
  · exact .refl s

theorem State.missed_calm (s : State) (t : Transaction) (f : CannonFault) : Calm s (s.missed t f) := by
  unfold State.missed
  dsimp only
  split
  · exact s.scoreMiss_calm ..
  · exact (s.scoreMiss_calm ..).trans (State.afterMiss_calm ..)

theorem State.meterFault_calm (s : State) (c b v m : Nat) : Calm s (s.meterFault c b v m) := by
  unfold State.meterFault
  dsimp only
  split
  · exact s.setDelivered_calm b v
  · refine Calm.trans ?_ (State.askRecord_calm ..)
    exact ((s.setDelivered_calm b v).trans (State.setCannon_calm _ c _)).trans (State.scoreEvent_calm ..)

theorem State.judgeMeter_calm (s : State) (t : Transaction) (m : Nat) : Calm s (s.judgeMeter t m) := by
  unfold State.judgeMeter
  split
  · split
    · exact s.meterFault_calm ..
    · exact .refl s
  · exact .refl s

theorem State.goodUnless_calm (s : State) (c : Nat) (e : Bool) : Calm s (s.goodUnless c e) := by
  unfold State.goodUnless
  split
  · exact .refl s
  · exact s.goodTransaction_calm c

/-! ### What each reply does -/

theorem State.pingOutOfService_calm (s : State) (c : Nat) (r : Reply) : Calm s (s.pingOutOfService c r) := by
  unfold State.pingOutOfService
  split
  · dsimp only
    split
    · exact (s.setCannon_calm c _).trans (State.setActivity_calm ..)
    · exact s.setCannon_calm c _
  · exact s.goLocal_calm c
  · exact (s.scoreBadState_calm c).trans (State.askStop_calm ..)
  · exact s.scoreBadState_calm c

theorem State.goodPing_calm (s : State) (c : Nat) : Calm s (s.goodPing c) := by
  unfold State.goodPing
  split
  · exact .refl s
  · exact s.goodTransaction_calm c

theorem State.takePing_calm (s : State) (t : Transaction) (r : Reply) : Calm s (s.takePing t r) := by
  unfold State.takePing
  dsimp only
  split
  · exact s.pingOutOfService_calm ..
  · split
    · exact (s.goodPing_calm _).trans (State.setActivity_calm ..)
    · exact s.goLocal_calm _
    · exact ((s.scoreBadState_calm _).trans (State.showActivity_calm ..)).trans (State.askStop_calm ..)
    · exact s.scoreBadState_calm _

theorem State.refuseDropping_calm (s : State) (t : Transaction) : Calm s (s.refuseDropping t) := by
  unfold State.refuseDropping
  split
  · exact (s.refuseStart_calm _).trans (State.setCannon_calm ..)
  · exact .refl s

theorem State.takeStart_calm (s : State) (t : Transaction) (r : Reply) : Calm s (s.takeStart t r) := by
  unfold State.takeStart
  dsimp only
  split
  · have shown := (s.goodTransaction_calm t.cannon).trans (State.showActivity_calm _ t.cannon .spraying)
    split
    · exact (shown.trans (State.noteGoodReply_calm ..)).trans (State.acknowledgeStart_calm ..)
    · exact shown
  · exact (s.refuseDropping_calm t).trans (State.goLocal_calm ..)
  · exact (s.refuseDropping_calm t).trans (State.scoreBadState_calm ..)

theorem State.takePoll_calm (s : State) (t : Transaction) (r : Reply) : Calm s (s.takePoll t r) := by
  have judged := s.judgeMeter_calm t r.meter
  have good := judged.trans (State.goodUnless_calm _ t.cannon (s.overMeter t r.meter))
  unfold State.takePoll
  dsimp only
  split
  · split
    · rename_i o _
      have noted := (good.trans (State.setDelivered_calm _ o.bed (s.figure t r.meter))).trans
        (State.noteGoodReply_calm _ t.cannon)
      split
      · exact noted.trans (State.askStop_calm ..)
      · exact noted
    · exact good.trans (State.noteReply_calm ..)
  · exact ((good.trans (State.showActivity_calm ..)).trans (State.endServed_calm ..)).trans (State.endBegunTest_calm ..)
  · exact ((judged.trans (State.endServed_calm ..)).trans (State.endBegunTest_calm ..)).trans (State.goLocal_calm ..)
  · exact (((judged.trans (State.showActivity_calm ..)).trans (State.endServed_calm ..)).trans
      (State.endBegunTest_calm ..)).trans (State.scoreBadState_calm ..)

theorem State.takeTrimReply_calm (s : State) (t : Transaction) (r : Reply) : Calm s (s.takeTrimReply t r) := by
  have judged := s.judgeMeter_calm t r.meter
  have good := judged.trans (State.goodUnless_calm _ t.cannon (s.overMeter t r.meter))
  unfold State.takeTrimReply
  dsimp only
  split
  · split
    · rename_i o _
      have noted := ((good.trans (State.takeTrim_calm _ o.bed (s.figure t r.meter) t.command.trimLimit t.command.trimHold)).trans
        (State.setDelivered_calm _ o.bed (s.figure t r.meter))).trans (State.noteGoodReply_calm _ t.cannon)
      split
      · exact noted.trans (State.askStop_calm ..)
      · exact noted
    · exact good
  · exact (good.trans (State.showActivity_calm ..)).trans (State.endServed_calm ..)
  · exact (judged.trans (State.endServed_calm ..)).trans (State.goLocal_calm ..)
  · exact ((judged.trans (State.showActivity_calm ..)).trans (State.endServed_calm ..)).trans (State.scoreBadState_calm ..)

theorem State.settleLostStart_calm (s : State) (t : Transaction) (m : Nat) : Calm s (s.settleLostStart t m) := by
  unfold State.settleLostStart
  split
  · split
    · exact s.acknowledgeStart_calm _
    · exact .refl s
  · exact .refl s

theorem State.confirmStop_calm (s : State) (t : Transaction) (d m : Nat) : Calm s (s.confirmStop t d m) := by
  unfold State.confirmStop
  split
  · split
    · exact s.endServed_calm ..
    · exact s.refuseDropping_calm t
  · exact s.endBegunTest_calm ..

theorem State.stopConfirmed_calm (s : State) (t : Transaction) (m : Nat) : Calm s (s.stopConfirmed t m) :=
  ((s.settleLostStart_calm t m).trans (State.judgeMeter_calm ..)).trans (State.confirmStop_calm ..)

theorem State.takeStop_calm (s : State) (t : Transaction) (r : Reply) : Calm s (s.takeStop t r) := by
  unfold State.takeStop
  dsimp only
  split
  · exact ((s.goodUnless_calm ..).trans (State.stopConfirmed_calm ..)).trans (State.showActivity_calm ..)
  · exact (s.stopConfirmed_calm ..).trans (State.goLocal_calm ..)
  · exact ((s.stopConfirmed_calm ..).trans (State.showActivity_calm ..)).trans (State.scoreBadState_calm ..)
  · have scored := ((s.noteReply_calm t).trans (State.judgeMeter_calm _ t r.meter)).trans
      (State.scoreBadState_calm _ t.cannon)
    split
    · exact scored
    · exact scored.trans (State.askStop_calm ..)

theorem State.takeTest_calm (s : State) (t : Transaction) (r : Reply) : Calm s (s.takeTest t r) := by
  unfold State.takeTest
  dsimp only
  split
  · have shown := (s.goodTransaction_calm t.cannon).trans (State.showActivity_calm _ t.cannon .spraying)
    split
    · exact shown.trans (State.setCannon_calm ..)
    · exact shown
  · exact (s.endBegunTest_calm ..).trans (State.goLocal_calm ..)
  · exact (s.endBegunTest_calm ..).trans (State.scoreBadState_calm ..)

theorem State.replied_calm (s : State) (mine : LineCommand → Bool) (bytes : List Byte)
    (taken : State → Transaction → Reply → State) (h : ∀ u t r, Calm u (taken u t r)) :
    Calm s (s.replied mine bytes taken) := by
  unfold State.replied
  split
  · exact .refl s
  · rename_i t _
    split
    · refine Calm.trans ?_ (State.flushCannons_calm _)
      split
      · exact (s.endTransaction_calm t).trans (h ..)
      · exact (s.endTransaction_calm t).trans (State.missed_calm ..)
    · exact .refl s

theorem State.timedOut_calm (s : State) (l : Nat) (f : CannonFault) : Calm s (s.timedOut l f) := by
  unfold State.timedOut
  split
  · split
    · exact (((s.reach_calm _).trans (State.endTransaction_calm ..)).trans (State.missed_calm ..)).trans
        (State.flushCannons_calm _)
    · exact .refl s
  · exact .refl s

/-! ### The line's own events -/

theorem State.beginTransaction_calm (s : State) (c : Nat) (k : LineCommand) : Calm s (s.beginTransaction c k) :=
  .same rfl rfl rfl

/-- A line fault stops every order without a STOP. -/
theorem faulted_calm (s : State) : Calm s { s with disp := { s.disp with orders := s.disp.orders.map Order.faulted } } where
  conf := rfl
  wetness := id
  cursor _ := rfl
  oneOrder h := by
    have e : (s.disp.orders.map Order.faulted).map Order.bed = s.disp.orders.map Order.bed := by
      rw [List.map_map]
      refine List.map_congr_left (fun o _ => ?_)
      simp only [Function.comp_apply, Order.faulted]
      split <;> rfl
    unfold State.oneOrderPerBed
    rw [e]
    exact h
  ordered o ho := by
    obtain ⟨q, hq, rfl⟩ := List.mem_map.mp ho
    refine .inr ⟨q, hq, ?_⟩
    unfold Order.faulted
    split <;> rfl
  running := by
    have e : runKeysOf (s.disp.orders.map Order.faulted) = [] := by
      unfold runKeysOf
      rw [List.map_eq_nil_iff, List.filter_eq_nil_iff]
      intro o ho
      obtain ⟨q, _, rfl⟩ := List.mem_map.mp ho
      unfold Order.faulted
      split
      · simp [Order.stopped_running]
      · assumption
    dsimp only
    rw [e]
    exact List.nil_subperm

theorem sweepCannon_calm (s : State) (c : Nat) : Calm s (sweepCannon s c) := by
  unfold sweepCannon
  split
  · exact s.setCannon_calm c _
  · exact .refl s

theorem State.sweep_calm (s : State) : Calm s s.sweep := .foldl _ sweepCannon_calm _ s

theorem execLineFault_calm (s t : State) (h : execLineFault s = .next t) : Calm s t := by
  unfold execLineFault at h
  injection h with h
  subst h
  split
  · have cleared : Calm s (cannonNumbers.foldl clearHeld s) := .foldl _ (fun u c => u.setCannon_calm c _) _ s
    refine Calm.trans ?_ (State.askRecord_calm ..)
    exact (cleared.trans (faulted_calm _)).trans (.same rfl rfl rfl)
  · exact .refl s

theorem estimateBusy_calm (t : Nat) (s : State) (c : Nat) : Calm s (estimateBusy t s c) := by
  unfold estimateBusy
  split
  · exact s.endByEstimate_calm c t
  · exact .refl s

theorem execLineFaultEndOfStarts_calm (s t : State) (h : execLineFaultEndOfStarts s = .next t) : Calm s t := by
  unfold execLineFaultEndOfStarts at h
  injection h with h
  subst h
  split
  · rename_i since _
    have ended : Calm s (cannonNumbers.foldl (estimateBusy since) (s.reach (since + 10000))) :=
      (s.reach_calm _).trans (.foldl _ (estimateBusy_calm since) _ _)
    have noted : ∀ u : State, Calm u { u with line := { u.line with state := .fault since true } } :=
      fun _ => .same rfl rfl rfl
    exact (ended.trans (noted _)).trans (State.flushCannons_calm _)
  · exact .refl s

theorem returnCannon_calm (s : State) (c : Nat) : Calm s (returnCannon s c) := by
  unfold returnCannon
  split
  · exact s.setActivity_calm c _
  · exact .refl s

theorem execLineReturn_calm (s t : State) (h : execLineReturn s = .next t) : Calm s t := by
  unfold execLineReturn at h
  injection h with h
  subst h
  split
  · have ok : Calm s { s with line := { s.line with state := .ok } } := .same rfl rfl rfl
    have returned := ok.trans (.foldl _ returnCannon_calm cannonNumbers _)
    exact ((returned.trans (State.sweep_calm _)).trans (State.cause_calm _)).trans (State.flushCannons_calm _)
  · exact .refl s

/-! ### Requests about cannons -/

theorem State.cannonRestore_calm (s : State) (n : Node) (c : Nat) : Calm s (s.cannonRestore n c) := by
  unfold State.cannonRestore
  split
  · exact s.reply_calm ..
  · split
    · exact s.reply_calm ..
    · refine Calm.trans ?_ (State.reply_calm ..)
      exact ((s.setActivity_calm c .offline).trans (State.setCannon_calm _ c _)).trans (State.flushCannons_calm _)

theorem State.askTest_calm (s : State) (c : Nat) : Calm s (s.askTest c) := by
  unfold State.askTest
  split
  · exact .refl s
  · exact (s.setCannon_calm c _).trans (State.place_calm ..)

theorem State.testSpray_calm (s : State) (n : Node) (c : Nat) : Calm s (s.testSpray n c) := by
  unfold State.testSpray
  split
  · exact s.reply_calm ..
  · split
    · exact s.reply_calm ..
    · split
      · exact s.reply_calm ..
      · split
        · exact s.reply_calm ..
        · split
          · exact s.reply_calm ..
          · exact (s.askTest_calm c).trans (State.reply_calm ..)

theorem State.cannonQuery_calm (s : State) (n : Node) (c p : Nat) : Calm s (s.cannonQuery n c p) := by
  unfold State.cannonQuery
  split
  · exact s.reply_calm ..
  · split <;> exact s.reply_calm ..

/-! ### The Water Account -/

theorem State.setSource_calm (s : State) (w : WaterSource) (r : Source) : Calm s (s.setSource w r) :=
  .same (by simp) (by simp) (by simp)

theorem State.grantWater_calm (s : State) (n : Node) (w : WaterSource) (a : Nat) : Calm s (s.grantWater n w a) := by
  unfold State.grantWater
  refine Calm.trans ?_ (State.reply_calm ..)
  split
  · exact s.setSource_calm ..
  · exact (s.setSource_calm ..).trans (State.cause_calm _)

theorem State.waterGrant_calm (s : State) (n : Node) (b : Byte) (a : Nat) : Calm s (s.waterGrant n b a) := by
  unfold State.waterGrant
  split
  · exact s.reply_calm ..
  · exact s.grantWater_calm ..

theorem State.withdrawWater_calm (s : State) (n : Node) (w : WaterSource) (a : Nat) : Calm s (s.withdrawWater n w a) := by
  unfold State.withdrawWater
  refine Calm.trans ?_ (State.reply_calm ..)
  split
  · exact s.setSource_calm ..
  · exact (s.setSource_calm ..).trans (State.cause_calm _)

theorem State.waterWithdraw_calm (s : State) (n : Node) (b : Byte) (a : Nat) : Calm s (s.waterWithdraw n b a) := by
  unfold State.waterWithdraw
  split
  · exact s.reply_calm ..
  · exact s.withdrawWater_calm ..

theorem State.judgeGate_calm (s : State) (n : Nat) : Calm s (s.judgeGate n) := by
  have moved : Calm s { s with water := { s.water with gate := gateAfter s.conf.qLim n s.water.gate } } := .same rfl rfl rfl
  unfold State.judgeGate
  dsimp only
  split
  · exact moved
  · refine Calm.trans ?_ (State.cause_calm _)
    split
    · exact moved.trans (State.stopWhere_calm ..)
    · exact moved

theorem State.waterQuality_calm (s : State) (n : Node) (v : Nat) : Calm s (s.waterQuality n v) := by
  unfold State.waterQuality
  have held : Calm s { s with water := { s.water with turbidity := some (min 4000 v) } } := .same rfl rfl rfl
  exact (held.trans (State.judgeGate_calm _ (min 4000 v))).trans (State.reply_calm ..)

theorem dropCapacity_calm (n : Nat) : ∀ s : State, Calm s (dropCapacity n s) := by
  induction n with
  | zero => exact Calm.refl
  | succ n ih =>
    intro s
    unfold dropCapacity
    split
    · exact .refl s
    · split
      · exact (s.stopOrder_calm ..).trans (ih _)
      · exact .refl s

theorem State.pumpState_calm (s : State) (n : Node) (p f : Nat) : Calm s (s.pumpState n p f) := by
  have formed : Calm s ({ s with water := { s.water with pumps := min 8 p, flowLimit := f } } : State).formCapacities :=
    .same rfl rfl rfl
  unfold State.pumpState
  refine Calm.trans ?_ (State.reply_calm ..)
  have dropped := formed.trans (dropCapacity_calm
    ({ s with water := { s.water with pumps := min 8 p, flowLimit := f } } : State).formCapacities.disp.orders.length _)
  dsimp only
  split
  · refine Calm.trans ?_ (State.cause_calm _)
    split
    · exact dropped
    · exact formed
  · split
    · exact dropped
    · exact formed

theorem execUsagePeriodExpiry_calm (s t : State) (h : execUsagePeriodExpiry s = .next t) : Calm s t := by
  unfold execUsagePeriodExpiry at h
  injection h with h
  subst h
  split
  · exact .same (by simp [closePeriod]) (by simp [closePeriod]) (by simp [closePeriod])
  · exact .refl s

theorem State.waterQuery_calm (s : State) (n : Node) (p : Nat) : Calm s (s.waterQuery n p) := by
  unfold State.waterQuery
  split <;> exact s.reply_calm ..

end Sys2Proof.Machine
end

section
/-! SUPPORT. Which events of the orders, the beds, the modes, the evaluation and the store are calm, and the calm commands. -/

namespace Sys2Proof.Machine

/-! ### Demands and manual orders -/

theorem State.createOrder_calm (s : State) (b : Nat) (o : Origin) (v : Nat) (m : Bool) (p : Preference)
    (hb : s.conf.bedDefined b = true) : Calm s (s.createOrder b o v m p) := by
  have put := Calm.putOrder s ⟨s.disp.nextId, b, o, v, 0, m, p, .waiting, none, none, none, s.osc, s.osc, s.disp.serial⟩
    (.inl hb) (fun h => by simp [Order.running] at h)
  exact put.trans (.same rfl rfl rfl)

theorem State.mergeOrder_calm {s : State} {b : Nat} {o : Order} (h : s.order b = some o) (p : Order) (hb : p.bed = o.bed)
    (hr : p.running = true → o.running = true ∧ p.start.map Start.cannon = o.start.map Start.cannon) :
    Calm s (s.mergeOrder o p) := by
  unfold State.mergeOrder
  split
  · exact .refl s
  · exact (Calm.putOrder_of h p hb hr).trans (State.cause_calm _)

theorem State.takeDemand_calm (s : State) (b : Nat) (o : Origin) (v : Nat) (hb : s.conf.bedDefined b = true) :
    Calm s (s.takeDemand b o v) := by
  unfold State.takeDemand
  split
  · exact s.createOrder_calm b o v false .any hb
  · rename_i q hq
    exact State.mergeOrder_calm hq _ rfl (fun h => ⟨h, rfl⟩)

theorem State.takeShort_calm (s : State) (b : Nat) (o : Origin) : Calm s (s.takeShort b o) := by
  unfold State.takeShort
  split
  · exact .refl s
  · rename_i q hq
    split
    · exact s.removeOrder_calm q _
    · exact State.mergeOrder_calm hq _ rfl (fun h => ⟨h, rfl⟩)

theorem State.handDemand_calm (s : State) (b : Nat) (o : Origin) (v : Nat) (hb : s.conf.bedDefined b = true) :
    Calm s (s.handDemand b o v) := by
  unfold State.handDemand
  split
  · exact s.takeDemand_calm b o v hb
  · exact s.takeShort_calm b o

theorem State.manualSpray_calm (s : State) (n : Node) (b v : Nat) (p : Byte) : Calm s (s.manualSpray n b v p) := by
  unfold State.manualSpray
  split
  · exact s.reply_calm ..
  · rename_i hb
    split
    · exact s.reply_calm ..
    · refine Calm.trans ?_ (State.reply_calm ..)
      unfold State.takeManual
      split
      · exact s.createOrder_calm _ _ _ _ _ (by simpa using hb)
      · rename_i q hq
        exact State.mergeOrder_calm hq _ rfl (fun h => ⟨h, rfl⟩)

theorem State.cancelSpray_calm (s : State) (n : Node) (b : Nat) : Calm s (s.cancelSpray n b) := by
  unfold State.cancelSpray
  split
  · exact s.reply_calm ..
  · split
    · exact s.reply_calm ..
    · rename_i o ho
      refine Calm.trans ?_ (State.reply_calm ..)
      unfold State.cancelOrder
      split
      · exact s.removeOrder_calm ..
      · rename_i hs
        exact .putOrder_of ho _ rfl (fun h => ⟨h, rfl⟩)
      · exact s.stopOrder_calm ..

theorem execOrderExpiry_calm (b : Nat) (s t : State) (h : execOrderExpiry b s = .next t) : Calm s t := by
  unfold execOrderExpiry at h
  injection h with h
  subst h
  split
  · split
    · exact (s.reach_calm _).trans (State.removeOrder_calm ..)
    · exact .refl s
  · exact .refl s

/-! ### What an attempt does but for its grants -/

theorem State.writeBlock_calm {s : State} {b : Nat} {o : Order} (h : s.order b = some o) (k : Block) :
    Calm s (s.writeBlock o k) := .putOrder_of h _ rfl (fun hr => ⟨hr, rfl⟩)

theorem State.makeDemand_calm (s : State) : Calm s s.makeDemand := by
  unfold State.makeDemand
  split
  · exact .same rfl rfl rfl
  · exact .refl s

theorem judgeShort_calm (s : State) (b : Nat) : Calm s (judgeShort s b) := by
  unfold judgeShort
  split
  · exact .refl s
  · split
    · split
      · refine Calm.trans ?_ (State.askRecord_calm ..)
        exact .setBed_same s b _ rfl rfl
      · exact .refl s
    · split
      · exact .setBed_same s b _ rfl rfl
      · exact .refl s

theorem State.endAttempt_calm (s : State) : Calm s s.endAttempt :=
  s.makeDemand_calm.trans (.foldl _ judgeShort_calm _ _)

/-! ### Beds -/

theorem State.setSurface_calm (s : State) (b : Nat) (f : Surface) : Calm s (s.setSurface b f) :=
  .setBed_same s b _ rfl rfl

theorem State.satisfyOrder_calm (s : State) (b : Nat) : Calm s (s.satisfyOrder b) := by
  unfold State.satisfyOrder
  split
  · exact .refl s
  · rename_i o ho
    split
    · exact s.removeOrder_calm o _
    · exact .putOrder_of ho _ rfl (fun h => ⟨h, rfl⟩)

theorem State.becomeEmpty_calm (s : State) (b : Nat) : Calm s (s.becomeEmpty b) :=
  ((s.setSurface_calm b .empty).trans (State.endHold_calm _ b)).trans (State.satisfyOrder_calm _ b)

theorem State.stackReset_calm (s : State) (b : Nat) : Calm s (s.stackReset b) := .setBed s b _ rfl (fun h => h.2.2)

theorem State.setEntries_calm (s : State) (l : List Claim) : Calm s (s.setEntries l) := .same rfl rfl rfl

theorem State.writePrior_calm (s : State) (m b : Nat) (p : Surface) : Calm s (s.writePrior m b p) := s.setEntries_calm _

theorem State.sharePrior_calm (s : State) (b : Nat) (p : Surface) : Calm s (s.sharePrior b p) := s.setEntries_calm _

theorem State.applyActivity_calm (s : State) (b : Nat) (a : ZoneActivity) (p : Surface) : Calm s (s.applyActivity b a p) := by
  unfold State.applyActivity
  split
  · exact (s.setSurface_calm b .worked).trans (State.sharePrior_calm ..)
  · exact .refl s

theorem State.enterRange_calm (s : State) (m : Nat) (a : ZoneActivity) (b : Nat) : Calm s (s.enterRange m a b) := by
  unfold State.enterRange
  split
  · exact ((s.writePrior_calm ..).trans (State.applyActivity_calm ..)).trans (State.stopOrder_calm ..)
  · exact .refl s

theorem State.releaseUncovered_calm (s : State) (b : Nat) (o : ReleaseOutcome) (p : Surface) :
    Calm s (s.releaseUncovered b o p) := by
  unfold State.releaseUncovered
  split
  · exact (s.setSurface_calm b .fresh).trans (State.stackReset_calm ..)
  · exact .refl s
  · exact s.setSurface_calm ..
  · exact .refl s
  · exact s.becomeEmpty_calm b
  · split
    · exact s.becomeEmpty_calm b
    · exact s.setSurface_calm ..
  · exact .refl s
  · exact s.setSurface_calm ..
  · exact .refl s

theorem State.foldOutcome_calm (s : State) (b : Nat) (o : ReleaseOutcome) (p : Surface) : Calm s (s.foldOutcome b o p) := by
  unfold State.foldOutcome
  split
  · exact (s.sharePrior_calm b .fresh).trans (State.stackReset_calm ..)
  · split
    · exact .refl s
    · exact s.sharePrior_calm ..
  · exact s.sharePrior_calm ..
  · exact .refl s
  · exact s.sharePrior_calm ..

theorem State.releaseBed_calm (s : State) (b : Nat) (o : ReleaseOutcome) (p : Surface) : Calm s (s.releaseBed b o p) := by
  unfold State.releaseBed
  split
  · split
    · split
      · exact s.foldOutcome_calm ..
      · exact .refl s
    · exact s.releaseUncovered_calm ..
  · exact .refl s

theorem State.removeClaim_calm (s : State) (e : Claim) (o : ReleaseOutcome) : Calm s (s.removeClaim e o) :=
  (s.setEntries_calm _).trans (.foldl _ (fun t b => t.releaseBed_calm b o _) _ _)

theorem State.causeIfUncovered_calm (s t : State) : Calm s (s.causeIfUncovered t) := by
  unfold State.causeIfUncovered
  split
  · exact s.cause_calm
  · exact .refl s

theorem replaceBed_calm (m : Nat) (e : Claim) (a : ZoneActivity) (s : State) (b : Nat) : Calm s (replaceBed m e a s b) := by
  unfold replaceBed
  split
  · exact .refl s
  · split
    · have written : Calm s (if (s.bed b).surface = .worked then s else s.writePrior m b (s.bed b).surface) := by
        split
        · exact .refl s
        · exact s.writePrior_calm ..
      dsimp only
      split
      · exact written.trans (State.applyActivity_calm ..)
      · split
        · exact written.trans (State.releaseBed_calm ..)
        · exact written
    · exact s.enterRange_calm ..

theorem State.replaceClaim_calm (s : State) (e : Claim) (a : ZoneActivity) (f l : Nat) : Calm s (s.replaceClaim e a f l) := by
  unfold State.replaceClaim
  dsimp only
  split
  · exact s.setEntries_calm _
  · refine Calm.trans ?_ (State.causeIfUncovered_calm ..)
    exact ((s.setEntries_calm _).trans (.foldl _ (fun t b => t.releaseBed_calm b _ _) _ _)).trans
      (.foldl _ (replaceBed_calm _ e a) _ _)

theorem State.newClaim_calm (s : State) (m : Nat) (a : ZoneActivity) (f l : Nat) : Calm s (s.newClaim m a f l) :=
  (s.setEntries_calm _).trans (.foldl _ (fun t b => t.enterRange_calm m a b) _ _)

theorem State.zoneClaim_calm (s : State) (n : Node) (m : Nat) (a : Byte) (f l : Nat) : Calm s (s.zoneClaim n m a f l) := by
  unfold State.zoneClaim
  split
  · exact s.reply_calm ..
  · split
    · exact s.reply_calm ..
    · split
      · exact s.reply_calm ..
      · split
        · exact (s.replaceClaim_calm ..).trans (State.reply_calm ..)
        · split
          · exact s.reply_calm ..
          · exact (s.newClaim_calm ..).trans (State.reply_calm ..)

theorem State.zoneRelease_calm (s : State) (n : Node) (m : Nat) (o : Byte) : Calm s (s.zoneRelease n m o) := by
  unfold State.zoneRelease
  split
  · exact s.reply_calm ..
  · split
    · exact s.reply_calm ..
    · split
      · exact s.reply_calm ..
      · exact ((s.removeClaim_calm ..).trans (State.causeIfUncovered_calm ..)).trans (State.reply_calm ..)

theorem State.expireClaim_calm (s : State) (e : Claim) : Calm s (s.expireClaim e) :=
  ((s.removeClaim_calm ..).trans (State.causeIfUncovered_calm ..)).trans (State.makeClaimExpired_calm ..)

theorem execClaimExpiry_calm (m : Nat) (s t : State) (h : execClaimExpiry m s = .next t) : Calm s t := by
  unfold execClaimExpiry at h
  injection h with h
  subst h
  split
  · exact (s.reach_calm _).trans (State.expireClaim_calm ..)
  · exact .refl s

/-! ### Moisture holds -/

theorem State.countFromHere_calm (s : State) (b c : Nat) : Calm s (s.countFromHere b c) := by
  unfold State.countFromHere
  split
  · exact .refl s
  · rename_i o ho
    split
    · exact .refl s
    · rename_i st hst
      exact .putOrder_of ho _ rfl (fun h => ⟨h, by simp [hst]⟩)

theorem State.trimOrder_calm (s : State) (b c n : Nat) : Calm s (s.trimOrder b c n) := by
  unfold State.trimOrder
  split
  · exact .refl s
  · split
    · exact .refl s
    · split
      · exact s.askTrim_calm ..
      · exact .refl s

theorem State.createHold_calm (s : State) (b c n : Nat) : Calm s (s.createHold b c n) := by
  have held := (Calm.setBed_same s b { s.bed b with hold := some ⟨c, n, 0, s.beds.holdSerial⟩ } rfl rfl).trans
    (.same (t := { s.setBed b { s.bed b with hold := some ⟨c, n, 0, s.beds.holdSerial⟩ } with
      beds := { (s.setBed b { s.bed b with hold := some ⟨c, n, 0, s.beds.holdSerial⟩ }).beds with
        holdSerial := s.beds.holdSerial + 1 } }) rfl rfl rfl)
  exact (((held.trans (State.countFromHere_calm _ b c)).trans (State.trimOrder_calm _ b c s.beds.holdSerial)).trans
    (State.cause_calm _)).trans (State.judgeAtRisk_calm _ b)

theorem State.changeCap_calm (s : State) (b : Nat) (h : Hold) (c : Nat) : Calm s (s.changeCap b h c) := by
  unfold State.changeCap
  split
  · exact .refl s
  · refine Calm.trans ?_ (State.judgeAtRisk_calm _ b)
    refine Calm.trans ?_ (State.cause_calm _)
    exact .setBed_same s b _ rfl rfl

theorem State.holdSet_calm (s : State) (n : Node) (b c g : Nat) : Calm s (s.holdSet n b c g) := by
  unfold State.holdSet
  split
  · exact s.reply_calm ..
  · split
    · exact (s.createHold_calm ..).trans (State.reply_calm ..)
    · split
      · exact (s.changeCap_calm ..).trans (State.reply_calm ..)
      · exact s.reply_calm ..

theorem State.holdClear_calm (s : State) (n : Node) (b g : Nat) : Calm s (s.holdClear n b g) := by
  unfold State.holdClear
  split
  · exact s.reply_calm ..
  · split
    · exact s.reply_calm ..
    · split
      · exact (s.removeHold_calm b).trans (State.reply_calm ..)
      · exact s.reply_calm ..

theorem execSettleTimerExpiry_calm (b : Nat) (s t : State) (h : execSettleTimerExpiry b s = .next t) : Calm s t := by
  unfold execSettleTimerExpiry at h
  injection h with h
  subst h
  split
  · exact (s.reach_calm _).trans (State.setSurface_calm ..)
  · exact .refl s

theorem State.bedQuery_calm (s : State) (n : Node) (b p : Nat) : Calm s (s.bedQuery n b p) := by
  unfold State.bedQuery
  split
  · exact s.reply_calm ..
  · split
    · exact s.reply_calm ..
    · split <;> exact s.reply_calm ..

/-! ### Modes and the clock -/

theorem State.judgeForecast_calm (s : State) : Calm s s.judgeForecast := by
  have judged : Calm s { s with forecast := { s.forecast with live := s.slotsLive } } := .same rfl rfl rfl
  unfold State.judgeForecast
  dsimp only
  split
  · exact judged.trans (State.askRecord_calm ..)
  · exact judged

theorem State.makeMode_calm (s : State) : Calm s s.makeMode := .same (by simp) (by simp) (by simp)

theorem State.stopSprays_calm (s : State) : Calm s s.stopSprays := by
  have asked : Calm s s.askAllStop := by
    unfold State.askAllStop
    split
    · exact .same rfl rfl rfl
    · exact .refl s
  exact asked.trans (State.stopWhere_calm ..)

theorem State.enterMode_calm (s : State) (m : Mode) : Calm s (s.enterMode m) := by
  have moved : Calm s { s with ctrl := { s.ctrl with mode := m } } := .same rfl rfl rfl
  have told := moved.trans (State.makeMode_calm _)
  unfold State.enterMode
  dsimp only
  refine Calm.trans ?_ (State.cause_calm _)
  split
  · exact told.trans (State.stopSprays_calm _)
  · exact told

theorem State.judgeBasis_calm (s : State) : Calm s s.judgeBasis := by
  unfold State.judgeBasis
  split
  · split
    · exact s.enterMode_calm _
    · exact .refl s
  · split
    · exact .refl s
    · exact s.enterMode_calm _
  · exact .refl s

theorem State.setReasons_calm (s : State) (a b : Bool) : Calm s (s.setReasons a b) := by
  have set : Calm s { s with ctrl := { s.ctrl with operator := a, freeze := b } } := .same rfl rfl rfl
  unfold State.setReasons
  split
  · exact .refl s
  · dsimp only
    split
    · exact set
    · exact set.trans (State.makeMode_calm _)
    · split
      · exact set.trans (State.makeMode_calm _)
      · exact set.trans (State.enterMode_calm ..)
    · split
      · exact set.trans (State.enterMode_calm ..)
      · exact set.trans (State.makeMode_calm _)
    · split
      · exact set.trans (State.enterMode_calm ..)
      · exact set.trans (State.makeMode_calm _)

theorem State.judgeFreeze_calm (s : State) : Calm s s.judgeFreeze := s.setReasons_calm _ _

theorem State.allHold_calm (s : State) (n : Node) : Calm s (s.allHold n) :=
  (s.setReasons_calm ..).trans (State.reply_calm ..)

theorem State.holdRelease_calm (s : State) (n : Node) : Calm s (s.holdRelease n) := by
  unfold State.holdRelease
  split
  · exact (s.setReasons_calm ..).trans (State.reply_calm ..)
  · exact s.reply_calm ..

theorem State.maintEnter_calm (s : State) (n : Node) : Calm s (s.maintEnter n) := by
  have long : Calm s { s with port := { s.port with long := some ⟨n, 0x33⟩ } } := .same rfl rfl rfl
  have due : ∀ u : State, Calm u { u with ctrl := { u.ctrl with drain := some (u.osc + 30000) } } :=
    fun _ => .same rfl rfl rfl
  unfold State.maintEnter
  split
  · exact s.reply_calm ..
  · exact ((long.trans (State.enterMode_calm _ .maintenance)).trans (due _)).trans (State.checkDrained_calm _)

theorem forceStart_calm (n : Nat) (s : State) (c : Nat) : Calm s (forceStart n s c) := by
  unfold forceStart
  split
  · exact s.endByEstimate_calm c n
  · exact .refl s

theorem execDrainDeadline_calm (s t : State) (h : execDrainDeadline s = .next t) : Calm s t := by
  unfold execDrainDeadline at h
  injection h with h
  subst h
  split
  · rename_i deadline _
    have stopped : ∀ u : State, Calm u { u with ctrl := { u.ctrl with drain := none } } := fun _ => .same rfl rfl rfl
    have forced : ∀ u : State, Calm u (u.setFlag .drainForced) := fun _ => .same rfl rfl rfl
    have ended := ((s.reach_calm deadline).trans (stopped _)).trans
      (.foldl _ (forceStart_calm { s.reach deadline with ctrl := { (s.reach deadline).ctrl with drain := none } }.osc)
        cannonNumbers _)
    exact ((ended.trans (forced _)).trans (State.endDrain_calm _ true)).trans (State.flushCannons_calm _)
  · exact .refl s

theorem State.changeDay_calm (s : State) : Calm s s.changeDay := .same rfl rfl rfl

theorem State.changeHour_calm (s : State) : Calm s s.changeHour := s.judgeForecast_calm.trans (State.judgeFreeze_calm _)

theorem State.setClock_calm (s : State) (d n : Nat) : Calm s (s.setClock d n) := .same rfl rfl rfl

theorem execYardSecond_calm (s t : State) (h : execYardSecond s = .next t) : Calm s t := by
  have second : Calm s { s.reach s.ctrl.yardDue with
      ctrl := { (s.reach s.ctrl.yardDue).ctrl with yardDue := s.ctrl.yardDue + 1000 } } := .same rfl rfl rfl
  unfold execYardSecond at h
  injection h with h
  subst h
  dsimp only
  split
  · exact ((second.trans (State.setClock_calm ..)).trans (State.changeDay_calm _)).trans (State.changeHour_calm _)
  · split
    · exact (second.trans (State.setClock_calm ..)).trans (State.changeHour_calm _)
    · exact second.trans (State.setClock_calm ..)

theorem State.timeSet_calm (s : State) (n : Node) (d v : Nat) : Calm s (s.timeSet n d v) := by
  have set : Calm s (s.setClock d (min 86399 v)).clearTimeUnset := .same rfl rfl rfl
  have day : Calm s (if d = s.ctrl.day then (s.setClock d (min 86399 v)).clearTimeUnset
      else (s.setClock d (min 86399 v)).clearTimeUnset.changeDay) := by
    split
    · exact set
    · exact set.trans (State.changeDay_calm _)
  unfold State.timeSet
  refine Calm.trans ?_ (State.reply_calm ..)
  split
  · exact day
  · exact day.trans (State.changeHour_calm _)

/-! ### The forecast, the weather and the evaluation -/

theorem State.forecastSlot_calm (s : State) (n : Node) (i k p : Nat) (f : BitVec 40) : Calm s (s.forecastSlot n i k p f) := by
  have opened : Calm s (s.openIssue i) := by
    unfold State.openIssue
    split
    · exact .same rfl rfl rfl
    · exact .refl s
  have stored : ∀ u : State, Calm u (u.storePart k p f) := fun _ => .same rfl rfl rfl
  unfold State.forecastSlot
  split
  · exact s.reply_calm ..
  · split
    · exact s.reply_calm ..
    · exact (((opened.trans (stored _)).trans (State.judgeForecast_calm _)).trans (State.judgeFreeze_calm _)).trans
        (State.reply_calm ..)

theorem rainOn_calm (r : Nat) (s : State) (b : Nat) : Calm s (rainOn r s b) := by
  unfold rainOn
  split
  · exact .setBed s b _ rfl (fun _ => min_le_left _ _)
  · exact .refl s

theorem State.weatherNow_calm (s : State) (n : Node) (r : Nat) (h t : Byte) : Calm s (s.weatherNow n r h t) := by
  have noted : Calm s (s.noteWeather (clampField 100 (field8 h)) (clampTemperature (fieldTemperature t))) := .same rfl rfl rfl
  have rained := noted.trans (.foldl _ (rainOn_calm ((field16 r).getD 0)) bedNumbers _)
  unfold State.weatherNow
  refine Calm.trans ?_ (State.reply_calm ..)
  split
  · exact rained.trans (State.judgeFreeze_calm _)
  · exact rained

theorem State.writeRisk_calm (s : State) (b r : Nat) (k : Band) : Calm s (s.writeRisk b r k) := by
  unfold State.writeRisk
  refine Calm.trans ?_ (State.judgeAtRisk_calm _ b)
  exact .setBed s b _ rfl (fun h => (Nat.sub_le _ _).trans (h.1 b))

theorem State.handFor_calm (s : State) (b w : Nat) (d : Option (Nat × Origin)) (hb : s.conf.bedDefined b = true) :
    Calm s (s.handFor b w d) := by
  unfold State.handFor
  split
  · exact s.handDemand_calm _ _ _ hb
  · exact .refl s

theorem evaluateBed_calm (f : Bool) (s : State) (b : Nat) : Calm s (evaluateBed f s b) := by
  unfold evaluateBed
  split
  · exact .refl s
  · rename_i hb
    have hd : ∀ r k, (s.writeRisk b r k).conf.bedDefined b = true := fun r k => by
      rw [(s.writeRisk_calm b r k).conf]; simpa using hb
    split
    · exact s.writeRisk_calm ..
    · split
      · exact (s.writeRisk_calm ..).trans (State.handFor_calm _ _ _ _ (hd ..))
      · exact (s.writeRisk_calm ..).trans (State.handFor_calm _ _ _ _ (hd ..))

theorem State.evaluate_calm (s : State) : Calm s s.evaluate :=
  (s.judgeBasis_calm.trans (State.judgeFreeze_calm _)).trans (.foldl _ (evaluateBed_calm _) _ _)

theorem execEvaluation_calm (s t : State) (h : execEvaluation s = .next t) : Calm s t := by
  unfold execEvaluation at h
  injection h with h
  subst h
  split
  · rename_i due _
    have timed : Calm s { s.reach due with evalDue := some (due + 60000) } := .same rfl rfl rfl
    exact timed.trans (State.evaluate_calm _)
  · exact .refl s

/-! ### The settings store -/

theorem State.settingWrite_calm (s : State) (n : Node) (i k : Nat) (w : BitVec 32) : Calm s (s.settingWrite n i k w) := by
  unfold State.settingWrite
  split
  · exact s.reply_calm ..
  · split
    · exact s.reply_calm ..
    · dsimp only
      split
      · exact .same rfl rfl rfl
      · exact s.reply_calm ..

theorem State.settingRead_calm (s : State) (n : Node) (i k : Nat) : Calm s (s.settingRead n i k) := by
  unfold State.settingRead
  split
  · exact s.reply_calm ..
  · split <;> exact s.reply_calm ..

theorem State.settingCommit_calm (s : State) (n : Node) : Calm s (s.settingCommit n) := by
  unfold State.settingCommit
  split
  · exact s.reply_calm ..
  · split
    · exact s.reply_calm ..
    · split
      · exact s.reply_calm ..
      · exact .same rfl rfl rfl

theorem State.replyCommit_calm (s : State) (r : Result) (d : List Byte) : Calm s (s.replyCommit r d) := by
  unfold State.replyCommit
  split
  · exact .same rfl rfl rfl
  · exact .refl s

theorem State.failCommit_calm (s : State) (a : Nat) : Calm s (s.failCommit a) := by
  have failed : Calm s (({ s with store := { s.store with commit := none } } : State).setFlag .storeFault) := .same rfl rfl rfl
  exact failed.trans (State.replyCommit_calm ..)

theorem endRunningTest_calm (s : State) (c : Nat) : Calm s (endRunningTest s c) := by
  unfold endRunningTest
  split
  · exact .refl s
  · exact s.endByEstimate_calm ..

theorem State.cancelOrders_calm (s : State) : Calm s s.cancelOrders := by
  have cancelled : Calm s (s.disp.orders.foldl (fun t o => t.removeOrder o .cancelled) s) :=
    .foldl _ (fun t o => t.removeOrder_calm o _) _ _
  exact cancelled.trans (.same rfl rfl rfl)

theorem State.beginRestart_calm (s : State) (i : Option (List Byte)) : Calm s (s.beginRestart i) := by
  have ended : Calm s (cannonNumbers.foldl endRunningTest s) := .foldl _ endRunningTest_calm _ _
  have left : ∀ u : State, Calm u u.leaveBus := fun _ => .same rfl rfl rfl
  have restarted : ∀ u : State, Calm u { u with
      ctrl := { u.ctrl with mode := .starting, modeMark := false }
      meas := { u.meas with channels := u.meas.channels.map Channel.abandoned }
      evalDue := none
      store := { u.store with commit := none, verified := i, resetKind := .settingsRestart } } := fun _ => .same rfl rfl rfl
  have away := (ended.trans (State.cancelOrders_calm _)).trans (left _)
  unfold State.beginRestart
  exact away.trans (restarted _)

theorem State.finishCommit_calm (s : State) (i : List Byte) : Calm s (s.finishCommit i) := by
  have versioned : Calm s { s with store := { s.store with
      working := { s.store.working with version := nextVersion s.store.working.version }, uncommitted := false } } :=
    .same rfl rfl rfl
  have replied := versioned.trans (State.replyCommit_calm _ .ok (be16 (nextVersion s.store.working.version)))
  unfold State.finishCommit
  exact replied.trans (State.beginRestart_calm ..)

theorem execPageFailure_calm (s t : State) (h : execPageFailure s = .next t) : Calm s t := by
  unfold execPageFailure at h
  injection h with h
  subst h
  split
  · rename_i c _
    split
    · have doubted : Calm s ((s.reach (c.since + 20)).doubtPage c.page (pageBytes c.image c.page).length) := .same rfl rfl rfl
      exact doubted.trans (State.failCommit_calm ..)
    · exact .refl s
  · exact .refl s

theorem execReadBack_calm (d : List Host.Cell) (s t : State) (h : execReadBack d s = .next t) : Calm s t := by
  unfold execReadBack at h
  injection h with h
  subst h
  split
  · have read : Calm s { s with store := { s.store with eeprom := withDiffering s.store.eeprom d } } := .same rfl rfl rfl
    split
    · exact .refl s
    · dsimp only
      split
      · exact read.trans (State.failCommit_calm ..)
      · exact read.trans (State.finishCommit_calm ..)
  · exact .refl s

theorem State.maintExit_calm (s : State) (n : Node) : Calm s (s.maintExit n) := by
  unfold State.maintExit
  split
  · exact s.reply_calm ..
  · split
    · exact s.reply_calm ..
    · exact (s.reply_calm ..).trans (State.beginRestart_calm ..)

end Sys2Proof.Machine
end

section
/-! SUPPORT. Every command but a reset, a load and a dispatch attempt is calm. -/

namespace Sys2Proof.Machine

theorem Calm.of_next {s t u : State} (h : (Host.Outcome.next u : Out) = .next t) (hc : Calm s u) : Calm s t := by
  injection h with h
  exact h ▸ hc

/-- A command other than a reset, a load and a dispatch attempt. -/
def Instr.isCalm : Instr → Bool
  | .powerOnReset => false
  | .externalReset => false
  | .load _ => false
  | .dispatchAttempt => false
  | _ => true

theorem exec_calm {c : Instr} {s t : State} (hc : Instr.isCalm c = true) (h : exec c s = .next t) : Calm s t := by
  cases c with
  | powerOnReset => cases hc
  | externalReset => cases hc
  | load => cases hc
  | dispatchAttempt => cases hc
  | anemometerPulse m => exact .of_next h (.same (by simp) (by simp) (by simp))
  | endOfSecond a b =>
    refine .of_next h ?_
    split
    · exact .same (by simp) (by simp) (by simp)
    · exact .refl s
  | dustPulse ch =>
    refine .of_next h ?_
    split
    · exact .same rfl rfl rfl
    · exact .refl s
  | windowEnd ch r =>
    refine .of_next h ?_
    split
    · exact .same (by simp) (by simp) (by simp)
    · exact .refl s
  | forecastSlot n i k p f => exact .of_next h (.serve _ _ _ _ _ (fun u => u.forecastSlot_calm ..))
  | weatherNow n r hu te => exact .of_next h (.serve _ _ _ _ _ (fun u => u.weatherNow_calm ..))
  | evaluation => exact execEvaluation_calm s t h
  | settleTimerExpiry b => exact execSettleTimerExpiry_calm b s t h
  | waterGrant n w a => exact .of_next h (.serve _ _ _ _ _ (fun u => u.waterGrant_calm ..))
  | waterWithdraw n w a => exact .of_next h (.serve _ _ _ _ _ (fun u => u.waterWithdraw_calm ..))
  | waterQuality n v => exact .of_next h (.serve _ _ _ _ _ (fun u => u.waterQuality_calm ..))
  | pumpState n p f => exact .of_next h (.serve _ _ _ _ _ (fun u => u.pumpState_calm ..))
  | usagePeriodExpiry => exact execUsagePeriodExpiry_calm s t h
  | waterQuery n p => exact .of_next h (.serve _ _ _ _ _ (fun u => u.waterQuery_calm ..))
  | zoneClaim n m a f l => exact .of_next h (.serve _ _ _ _ _ (fun u => u.zoneClaim_calm ..))
  | zoneRelease n m o => exact .of_next h (.serve _ _ _ _ _ (fun u => u.zoneRelease_calm ..))
  | claimExpiry m => exact execClaimExpiry_calm m s t h
  | moistureHoldSet n b c g => exact .of_next h (.serve _ _ _ _ _ (fun u => u.holdSet_calm ..))
  | moistureHoldClear n b g => exact .of_next h (.serve _ _ _ _ _ (fun u => u.holdClear_calm ..))
  | manualSpray n b v p => exact .of_next h (.serve _ _ _ _ _ (fun u => u.manualSpray_calm ..))
  | cancelSpray n b => exact .of_next h (.serve _ _ _ _ _ (fun u => u.cancelSpray_calm ..))
  | orderExpiry b => exact execOrderExpiry_calm b s t h
  | transactionBegin =>
    refine .of_next h ?_
    split
    · split
      · exact s.beginTransaction_calm ..
      · exact .refl s
    · exact .refl s
  | requestSent =>
    refine .of_next h ?_
    split
    · split
      · exact .same rfl rfl rfl
      · exact .refl s
    · exact .refl s
  | ping r => exact .of_next h (s.replied_calm _ _ _ State.takePing_calm)
  | start r => exact .of_next h (s.replied_calm _ _ _ State.takeStart_calm)
  | poll r => exact .of_next h (s.replied_calm _ _ _ State.takePoll_calm)
  | trim r => exact .of_next h (s.replied_calm _ _ _ State.takeTrimReply_calm)
  | stop r => exact .of_next h (s.replied_calm _ _ _ State.takeStop_calm)
  | test r => exact .of_next h (s.replied_calm _ _ _ State.takeTest_calm)
  | allStop =>
    refine .of_next h ?_
    split
    · split
      · exact .same rfl rfl rfl
      · exact .refl s
    · exact .refl s
  | noReply => exact .of_next h (s.timedOut_calm _ _)
  | shortReply => exact .of_next h (s.timedOut_calm _ _)
  | pollDue c =>
    refine .of_next h ?_
    split
    · split
      · exact (s.reach_calm _).trans (State.setCannon_calm ..)
      · exact .refl s
    · exact .refl s
  | pingDue c =>
    refine .of_next h ?_
    split
    · split
      · exact (s.reach_calm _).trans (State.setCannon_calm ..)
      · exact .refl s
    · exact .refl s
  | lineFault => exact execLineFault_calm s t h
  | lineFaultEndOfStarts => exact execLineFaultEndOfStarts_calm s t h
  | lineReturn => exact execLineReturn_calm s t h
  | cannonRestore n c => exact .of_next h (.serve _ _ _ _ _ (fun u => u.cannonRestore_calm ..))
  | testSpray n c => exact .of_next h (.serve _ _ _ _ _ (fun u => u.testSpray_calm ..))
  | cannonQuery n c p => exact .of_next h (.serve _ _ _ _ _ (fun u => u.cannonQuery_calm ..))
  | bedQuery n b p => exact .of_next h (.serve _ _ _ _ _ (fun u => u.bedQuery_calm ..))
  | recordRead n =>
    refine .of_next h (.serve _ _ _ _ _ (fun u => ?_))
    unfold State.recordRead State.recordReadFor
    split
    · split
      · split
        · exact u.reply_calm ..
        · exact .same rfl rfl rfl
      · exact u.reply_calm ..
    · exact u.reply_calm ..
  | readTimerExpiry =>
    refine .of_next h ?_
    split
    · exact .same (by simp) (by simp) (by simp)
    · exact .refl s
  | allHold n => exact .of_next h (.serve _ _ _ _ _ (fun u => u.allHold_calm n))
  | holdRelease n => exact .of_next h (.serve _ _ _ _ _ (fun u => u.holdRelease_calm n))
  | maintEnter n => exact .of_next h (.serve _ _ _ _ _ (fun u => u.maintEnter_calm n))
  | drainDeadline => exact execDrainDeadline_calm s t h
  | maintExit n => exact .of_next h (.serve _ _ _ _ _ (fun u => u.maintExit_calm n))
  | flagClear n m => exact .of_next h (.serve _ _ _ _ _ (fun u => .same rfl rfl rfl))
  | statusQuery n p =>
    refine .of_next h (.serve _ _ _ _ _ (fun u => ?_))
    unfold State.statusQuery
    split <;> exact u.reply_calm ..
  | yardSecond => exact execYardSecond_calm s t h
  | timeSet n d v => exact .of_next h (.serve _ _ _ _ _ (fun u => u.timeSet_calm ..))
  | requestArrival i d =>
    refine .of_next h ?_
    split
    · exact .same (by simp) (by simp) (by simp)
    · exact .refl s
  | frameSent =>
    refine .of_next h ?_
    split
    · split
      · exact .same (by simp) (by simp) (by simp)
      · exact .refl s
    · exact .refl s
  | busOff =>
    refine .of_next h ?_
    split
    · exact .same rfl rfl rfl
    · exact .refl s
  | busRecovered =>
    refine .of_next h ?_
    split
    · exact .same rfl rfl rfl
    · exact .refl s
  | settingWrite n i k w => exact .of_next h (.serve _ _ _ _ _ (fun u => u.settingWrite_calm ..))
  | settingRead n i k => exact .of_next h (.serve _ _ _ _ _ (fun u => u.settingRead_calm ..))
  | settingCommit n => exact .of_next h (.serve _ _ _ _ _ (fun u => u.settingCommit_calm n))
  | pageWriteDone =>
    refine .of_next h ?_
    split
    · split
      · exact .same rfl rfl rfl
      · exact .refl s
    · exact .refl s
  | pageFailure => exact execPageFailure_calm s t h
  | readBack d => exact execReadBack_calm d s t h

end Sys2Proof.Machine
end

section
/-! SUPPORT. What a dispatch attempt keeps, and folds whose steps each reach one entry of their own. -/

namespace Sys2Proof.Machine

/-- What every judgment and every grant of an attempt keeps, the scans of the attempt keep. -/
theorem scan_keeps (P : State → Prop)
    (block : ∀ s b o k, s.order b = some o → P s → P (s.writeBlock o k))
    (grant : ∀ s b o a, s.order b = some o → o.state = .waiting → s.judgeOrder o = .ok a → P s → P (s.grant o a))
    (l : List Nat) : ∀ s, P s → P (scan l s).1 := by
  induction l with
  | nil => exact fun s h => h
  | cons b rest ih =>
    intro s h
    unfold scan
    split
    · exact ih s h
    · rename_i o ho
      split
      · rename_i hw
        split
        · rename_i a ha
          exact grant s b o a ho hw ha h
        · rename_i k _
          exact ih _ (block s b o k ho h)
      · exact ih s h

theorem scans_keeps (P : State → Prop)
    (block : ∀ s b o k, s.order b = some o → P s → P (s.writeBlock o k))
    (grant : ∀ s b o a, s.order b = some o → o.state = .waiting → s.judgeOrder o = .ok a → P s → P (s.grant o a))
    (n : Nat) : ∀ s, P s → P (scans n s) := by
  induction n with
  | zero => exact fun s h => h
  | succ n ih =>
    intro s h
    have scanned := scan_keeps P block grant (s.disp.orders.map Order.bed) s h
    unfold scans
    dsimp only
    split
    · exact ih _ scanned
    · exact scanned

/-- A dispatch attempt keeps what its judgments and its grants keep. -/
theorem execDispatchAttempt_keeps (P : State → Prop) (calm : ∀ s t, Calm s t → AttemptFrame s t → P s → P t)
    (grant : ∀ s b o a, s.order b = some o → o.state = .waiting → s.judgeOrder o = .ok a → P s → P (s.grant o a))
    {s t : State} (h : execDispatchAttempt s = .next t) (hs : P s) : P t := by
  unfold execDispatchAttempt at h
  injection h with h
  subst h
  split
  · refine calm _ _ (State.endAttempt_calm _) (State.endAttempt_frame _) ?_
    refine scans_keeps P (fun u b o k ho => calm _ _ (State.writeBlock_calm ho k) (State.writeBlock_frame u o k)) grant _ _ ?_
    exact calm s _ (.same rfl rfl rfl) (by simp [AttemptFrame]) hs
  · exact hs

/-! ### Folds over the entries of a table -/

section
variable {α β : Type} (view : State → α → β) (f : State → α → State) (I : State → Prop)

/-- A fold over a list reaches no entry outside it. -/
theorem foldl_view_of_not_mem (keep : ∀ u a, I u → I (f u a)) (own : ∀ u a b, I u → b ≠ a → view (f u a) b = view u b)
    (l : List α) : ∀ s, I s → ∀ b, b ∉ l → view (l.foldl f s) b = view s b := by
  induction l with
  | nil => exact fun _ _ _ _ => rfl
  | cons a rest ih =>
    intro s hs b hb
    rw [List.mem_cons, not_or] at hb
    exact (ih _ (keep s a hs) b hb.2).trans (own s a b hs hb.1)

/-- An entry of the list is reached by its own step alone. -/
theorem foldl_view_of_mem (keep : ∀ u a, I u → I (f u a)) (own : ∀ u a b, I u → b ≠ a → view (f u a) b = view u b)
    (l : List α) : l.Nodup → ∀ s, I s → ∀ b, b ∈ l →
      ∃ u, I u ∧ view u b = view s b ∧ view (l.foldl f s) b = view (f u b) b := by
  induction l with
  | nil => exact fun _ _ _ b hb => absurd hb List.not_mem_nil
  | cons a rest ih =>
    intro hn s hs b hb
    obtain ⟨ha, hn⟩ := List.nodup_cons.mp hn
    rcases List.mem_cons.mp hb with rfl | hm
    · exact ⟨s, hs, rfl, foldl_view_of_not_mem view f I keep own rest _ (keep s b hs) b ha⟩
    · obtain ⟨u, hu, e1, e2⟩ := ih hn _ (keep s a hs) b hm
      exact ⟨u, hu, e1.trans (own s a b hs (fun e => ha (e ▸ hm))), e2⟩

end

theorem nodup_bedNumbers : bedNumbers.Nodup := nodup_numbersFrom _ _

/-! ### Valid settings -/

theorem sparseFind_mem {α : Type} {k : Nat} {v : α} {m : List (Nat × α)} (h : sparseFind k m = some v) : (k, v) ∈ m := by
  induction m with
  | nil => cases h
  | cons x rest ih =>
    unfold sparseFind at h
    split at h
    · rename_i e
      injection h with h
      subst e h
      exact List.mem_cons_self
    · exact List.mem_cons_of_mem _ (ih h)

/-- A value of settings without a failing range lies in the range of its item. -/
theorem Settings.get_in_range {S : Settings} (h : rangeFailures S = []) {code index : Nat} (hi : index < 256) {r : ItemRange}
    (hr : itemRange code index = some r) (hd : r.low ≤ r.dflt ∧ r.dflt ≤ r.high) :
    r.low ≤ S.get code index ∧ S.get code index ≤ r.high := by
  have hcode : settingKey code index / 256 = code := by unfold settingKey; omega
  have hindex : settingKey code index % 256 = index := by unfold settingKey; omega
  unfold Settings.get sparseGet
  cases hf : sparseFind (settingKey code index) S.entries with
  | none => simpa [settingDefault, hcode, hindex, hr] using hd
  | some v =>
    have inRange : settingInRange (settingKey code index / 256) (settingKey code index % 256) v = true := by
      by_contra hn
      have : settingKey code index ∈ rangeFailures S :=
        List.mem_filterMap.mpr ⟨_, sparseFind_mem hf, by simp [hn]⟩
      rw [h] at this
      cases this
    rw [hcode, hindex, settingInRange, hr] at inRange
    simpa using inRange

/-- What a judged image's settings are free of. -/
theorem judgeImage_valid {image : List Byte} {S : Settings} (h : judgeImage image = some S) : failures S = [] := by
  unfold judgeImage at h
  dsimp only at h
  split at h
  · rename_i hv
    injection h with h
    subst h
    exact List.min?_eq_none_iff.mp hv.2.2.2.2.2.2
  · cases h

/-- The settings a load can bring into force: those of a judged image, or the built-in defaults. -/
def Settings.loadable (S : Settings) : Prop :=
  S.wInit ≤ 1000 ∧ S.wStack ≤ 1000 ∧ ∀ b, S.bedDefined b = true → 0 < (S.cannonList b).length

theorem Settings.cannonList_pos {S : Settings} {b : Nat} (h : listFilled (S.rawList b) = true) :
    0 < (S.cannonList b).length := by
  have h0 : S.listAddress b 0 ≠ 0 := by
    simp [Settings.rawList, numbersFrom, listFilled] at h
    exact h.1
  simp [Settings.cannonList, numbersFrom, Settings.listEntry, List.takeWhile_cons, h0]

theorem Settings.loadable_of_judged {image : List Byte} {S : Settings} (h : judgeImage image = some S) : S.loadable := by
  have valid := judgeImage_valid h
  simp only [failures, List.append_eq_nil_iff] at valid
  obtain ⟨⟨⟨⟨⟨range, list⟩, _⟩, _⟩, _⟩, _⟩ := valid
  have init := Settings.get_in_range range (code := 0x40) (index := 0) (by omega) rfl (by decide)
  have stack := Settings.get_in_range range (code := 0x40) (index := 1) (by omega) rfl (by decide)
  refine ⟨Int.toNat_le.mpr init.2, Int.toNat_le.mpr stack.2, fun b hb => Settings.cannonList_pos ?_⟩
  by_contra hn
  have hmem : b ∈ bedNumbers := (mem_bedNumbers b).mpr (by
    have := hb
    simp only [Settings.bedDefined, decide_eq_true_eq] at this
    omega)
  have : listKey b 3 ∈ listFailures S := List.mem_filterMap.mpr ⟨b, hmem, by simp [hb, hn]⟩
  rw [list] at this
  cases this

theorem Settings.builtIn_bedDefined (b : Nat) : Settings.builtIn.bedDefined b = false := by
  cases h : Settings.builtIn.bedDefined b with
  | false => rfl
  | true =>
    have hb : b ∈ bedNumbers := (mem_bedNumbers b).mpr (by
      simp only [Settings.bedDefined, decide_eq_true_eq] at h
      omega)
    have none : ∀ a ∈ bedNumbers, Settings.builtIn.bedDefined a = false := by decide +kernel
    exact h.symm.trans (none b hb)

theorem Settings.builtIn_loadable : Settings.builtIn.loadable :=
  ⟨by decide +kernel, by decide +kernel, fun b hb => by simp [Settings.builtIn_bedDefined] at hb⟩

end Sys2Proof.Machine
end

section
/-! SUPPORT. The load, part by part (Machine/SettingsStore.lean): which parts are calm, and what the rest does to the beds. -/

namespace Sys2Proof.Machine

/-! ### The blocks at the load -/

/-- The Measurement Unit at the load writes its own block only. -/
theorem State.loadMeasurement_own (s : State) : ∃ m, s.loadMeasurement = { s with meas := m } := by
  have channels : ∀ (f : State → Nat → Channel) (l : List Nat) (u : State), (∃ m, u = { s with meas := m }) →
      ∃ m, l.foldl (fun t ch => t.setChannel ch (f t ch)) u = { s with meas := m } := by
    intro f l
    induction l with
    | nil => exact fun _ h => h
    | cons ch rest ih =>
      rintro u ⟨m, rfl⟩
      exact ih _ ⟨_, rfl⟩
  obtain ⟨m, hm⟩ := channels (fun t ch => loadChannel t.conf s.restarting t.osc ch (t.channel ch)) channelNumbers s ⟨s.meas, rfl⟩
  unfold State.loadMeasurement
  dsimp only
  rw [hm]
  split
  · exact ⟨_, rfl⟩
  · exact ⟨_, rfl⟩

theorem State.loadMeasurement_conf (s : State) : s.loadMeasurement.conf = s.conf := by
  obtain ⟨m, h⟩ := s.loadMeasurement_own; rw [h]

theorem State.loadMeasurement_beds (s : State) : s.loadMeasurement.beds = s.beds := by
  obtain ⟨m, h⟩ := s.loadMeasurement_own; rw [h]

theorem State.loadMeasurement_disp (s : State) : s.loadMeasurement.disp = s.disp := by
  obtain ⟨m, h⟩ := s.loadMeasurement_own; rw [h]

theorem State.loadSettings_conf (s : State) (S : Settings) (v : Bool) : (s.loadSettings S v).conf = S := by
  cases v <;> rfl

theorem State.loadSettings_beds (s : State) (S : Settings) (v : Bool) : (s.loadSettings S v).beds = s.beds := by
  cases v <;> rfl

theorem State.loadSettings_disp (s : State) (S : Settings) (v : Bool) : (s.loadSettings S v).disp = s.disp := by
  cases v <;> rfl

theorem State.loadSettings_store_resetKind (s : State) (S : Settings) (v : Bool) :
    (s.loadSettings S v).store.resetKind = s.store.resetKind := by
  cases v <;> rfl

theorem State.loadSettings_restarting (s : State) (S : Settings) (v : Bool) :
    (s.loadSettings S v).restarting = s.restarting := by
  cases v <;> rfl

theorem State.joinBus_conf (s : State) : s.joinBus.conf = s.conf := by unfold State.joinBus; dsimp only; split <;> rfl

theorem State.joinBus_beds (s : State) : s.joinBus.beds = s.beds := by unfold State.joinBus; dsimp only; split <;> rfl

theorem State.joinBus_disp (s : State) : s.joinBus.disp = s.disp := by unfold State.joinBus; dsimp only; split <;> rfl

theorem State.loadBlocks_conf (s : State) : s.loadBlocks.conf = s.conf := by
  obtain ⟨m, hm⟩ := s.loadMeasurement_own
  unfold State.loadBlocks
  rw [State.joinBus_conf, hm]
  split <;> rfl

theorem State.loadBlocks_orders (s : State) : s.loadBlocks.disp.orders = s.disp.orders := by
  obtain ⟨m, hm⟩ := s.loadMeasurement_own
  unfold State.loadBlocks
  rw [State.joinBus_disp, hm]
  split <;> rfl

/-- At a settings restart the blocks keep the bed records, and otherwise they are those of a reset (R4, R5). -/
theorem State.loadBlocks_records (s : State) : s.loadBlocks.beds.records =
    if s.restarting then s.beds.records else Vector.replicate 32 (Bed.initial s.conf.wInit) := by
  obtain ⟨m, hm⟩ := s.loadMeasurement_own
  unfold State.loadBlocks
  rw [State.joinBus_beds, hm]
  split <;> rfl

theorem State.loadBlocks_calm (s : State) (h : s.restarting = true) : Calm s s.loadBlocks :=
  .same s.loadBlocks_conf (by rw [State.loadBlocks_records, if_pos h]) s.loadBlocks_orders

theorem State.flushStarted_calm (s : State) : Calm s s.flushStarted := .same (by simp) (by simp) (by simp)

theorem State.leaveStarting_calm (s : State) (v : Bool) : Calm s (s.leaveStarting v) := by
  unfold State.leaveStarting
  split
  · dsimp only
    split
    · exact (s.enterMode_calm _).trans (State.enterMode_calm ..)
    · exact s.enterMode_calm _
  · exact s.enterMode_calm _

theorem State.loadGate_calm (s : State) : Calm s s.loadGate := by
  unfold State.loadGate
  split
  · exact s.judgeGate_calm _
  · exact .refl s

/-! ### The beds at a settings restart -/

theorem State.keepBed_calm (s : State) (b : Nat) : Calm s (s.keepBed b) := by
  unfold State.keepBed
  dsimp only
  split
  · split
    · exact (s.judgeAtRisk_calm b).trans (State.setSurface_calm ..)
    · exact s.judgeAtRisk_calm b
  · exact s.judgeAtRisk_calm b

/-- Once its record is at its reset values, the rest of a bed's reset is calm. -/
theorem State.resetBed_calm (s : State) (b : Nat) : Calm (s.setBed b (Bed.initial s.conf.wInit)) (s.resetBed b) := by
  have ended : Calm (s.setBed b (Bed.initial s.conf.wInit)) (match (s.bed b).hold with
      | some h => ((s.setBed b (Bed.initial s.conf.wInit)).makeHoldEnded ⟨b, h.tag, h.tally⟩).cause
      | none => s.setBed b (Bed.initial s.conf.wInit)) := by
    split
    · exact (State.makeHoldEnded_calm ..).trans (State.cause_calm _)
    · exact .refl _
  unfold State.resetBed
  dsimp only
  split
  · split
    · exact (ended.trans (State.setSurface_calm _ b .worked)).trans (State.sharePrior_calm _ b .settled)
    · exact ended
  · exact ended.trans (State.setEntries_calm ..)

theorem State.resetBed_conf (s : State) (b : Nat) : (s.resetBed b).conf = s.conf := (s.resetBed_calm b).conf

theorem State.resetBed_wetness (s : State) (b : Nat) (h : s.wetnessLaw) : (s.resetBed b).wetnessLaw := by
  refine (s.resetBed_calm b).wetness ⟨fun a => ?_, h.2⟩
  rw [State.bed_setBed]
  split
  · exact h.2.1
  · exact h.1 a

theorem State.resetBed_cursor (s : State) (a b : Nat) :
    ((s.resetBed b).bed a).cursor = if a = b ∧ 1 ≤ b ∧ b ≤ 32 then 0 else (s.bed a).cursor := by
  rw [(s.resetBed_calm b).cursor, State.bed_setBed]
  split <;> rfl

theorem restartBed_conf (before : Settings) (s : State) (b : Nat) : (restartBed before s b).conf = s.conf := by
  unfold restartBed
  split
  · exact (s.keepBed_calm b).conf
  · exact s.resetBed_conf b

theorem restartBed_wetness (before : Settings) (s : State) (b : Nat) (h : s.wetnessLaw) :
    (restartBed before s b).wetnessLaw := by
  unfold restartBed
  split
  · exact (s.keepBed_calm b).wetness h
  · exact s.resetBed_wetness b h

theorem restartBed_cursor_ne (before : Settings) (s : State) {a b : Nat} (h : b ≠ a) :
    ((restartBed before s a).bed b).cursor = (s.bed b).cursor := by
  unfold restartBed
  split
  · exact (s.keepBed_calm a).cursor b
  · rw [State.resetBed_cursor, if_neg (by simp [h])]

/-- The cursor of a bed after the beds of a settings restart: kept with the bed, else 0 (R5). -/
theorem restartBeds_cursor (before : Settings) (s : State) {b : Nat} (h1 : 1 ≤ b) (h2 : b ≤ 32) :
    ((bedNumbers.foldl (restartBed before) s).bed b).cursor =
      if bedKept before s.conf b then (s.bed b).cursor else 0 := by
  obtain ⟨u, hu, e, hfold⟩ := foldl_view_of_mem (fun t a => (t.bed a).cursor) (restartBed before) (fun t => t.conf = s.conf)
    (fun t a ht => (restartBed_conf before t a).trans ht) (fun t a c _ hc => restartBed_cursor_ne before t hc)
    bedNumbers nodup_bedNumbers s rfl b ((mem_bedNumbers b).mpr ⟨h1, h2⟩)
  rw [hfold]
  unfold restartBed
  rw [hu]
  split
  · rw [(u.keepBed_calm b).cursor, e]
  · rw [State.resetBed_cursor, if_pos ⟨rfl, h1, h2⟩]

theorem restartBeds_conf (before : Settings) (s : State) (l : List Nat) : (l.foldl (restartBed before) s).conf = s.conf :=
  foldl_keeps (fun s t => t.conf = s.conf) (fun _ => rfl) (fun _ _ _ h1 h2 => h2.trans h1) _
    (restartBed_conf before) l s

theorem restartBeds_wetness (before : Settings) (s : State) (l : List Nat) (h : s.wetnessLaw) :
    (l.foldl (restartBed before) s).wetnessLaw :=
  foldl_keeps (fun s t => s.wetnessLaw → t.wetnessLaw) (fun _ => id) (fun _ _ _ h1 h2 h => h2 (h1 h)) _
    (restartBed_wetness before) l s h

theorem restartClaim_calm (s : State) (e : Claim) : Calm s (restartClaim s e) := by
  unfold restartClaim
  split
  · exact s.expireClaim_calm e
  · exact .refl s

/-- After the beds, what a settings restart does is calm. -/
theorem State.restartEffects_calm (s : State) (before : Settings) :
    Calm (bedNumbers.foldl (restartBed before) s) (s.restartEffects before) :=
  Calm.trans (.foldl _ restartClaim_calm _ _) (State.judgeForecast_calm _)

/-! ### The load -/

/-- The state of a load when the mode has left STARTING. -/
def State.loadLeft (s : State) (S : Settings) (valid : Bool) : State :=
  let s1 := (s.loadSettings S valid).loadBlocks.flushStarted
  (if s.restarting then s1.judgeFreeze else s1).leaveStarting valid

theorem State.load_eq (s : State) (S : Settings) (v : Bool) : s.load S v =
    (if s.restarting then ((s.loadLeft S v).loadGate).restartEffects s.conf else s.loadLeft S v).sweep.cause := rfl

/-- Once the blocks have taken their settings, the load's way out of STARTING is calm. -/
theorem State.loadLeft_calm (s : State) (S : Settings) (v : Bool) :
    Calm (s.loadSettings S v).loadBlocks (s.loadLeft S v) := by
  have told := State.flushStarted_calm (s.loadSettings S v).loadBlocks
  unfold State.loadLeft
  dsimp only
  refine Calm.trans ?_ (State.leaveStarting_calm _ v)
  split
  · exact told.trans (State.judgeFreeze_calm _)
  · exact told

theorem State.loadLeft_conf (s : State) (S : Settings) (v : Bool) : (s.loadLeft S v).conf = S := by
  rw [(s.loadLeft_calm S v).conf, State.loadBlocks_conf, State.loadSettings_conf]

theorem State.loadSettings_wetness {s : State} {S : Settings} (v : Bool) (hS : S.loadable) (h : s.wetnessLaw) :
    (s.loadSettings S v).wetnessLaw := by
  refine ⟨fun b => ?_, ?_, ?_⟩
  · rw [State.bed_congr (s := s) (by rw [State.loadSettings_beds])]; exact h.1 b
  · rw [State.loadSettings_conf]; exact hS.1
  · rw [State.loadSettings_conf]; exact hS.2.1

theorem State.loadBlocks_wetness {s : State} (h : s.wetnessLaw) : s.loadBlocks.wetnessLaw := by
  refine ⟨fun b => ?_, ?_, ?_⟩
  · unfold State.bed
    rw [State.loadBlocks_records]
    split
    · exact h.1 b
    · unfold nth
      split
      · exact Nat.zero_le _
      · cases hb : (Vector.replicate 32 (Bed.initial s.conf.wInit))[b - 1]? with
        | none => exact Nat.zero_le _
        | some r =>
          rw [Vector.getElem?_replicate] at hb
          split at hb
          · injection hb with hb; subst hb; exact h.2.1
          · cases hb
  · rw [State.loadBlocks_conf]; exact h.2.1
  · rw [State.loadBlocks_conf]; exact h.2.2

theorem State.load_wetness {s : State} {S : Settings} (v : Bool) (hS : S.loadable) (h : s.wetnessLaw) :
    (s.load S v).wetnessLaw := by
  have left : (s.loadLeft S v).wetnessLaw :=
    (s.loadLeft_calm S v).wetness (State.loadBlocks_wetness (State.loadSettings_wetness v hS h))
  rw [State.load_eq]
  refine ((State.sweep_calm _).trans (State.cause_calm _)).wetness ?_
  split
  · exact (State.restartEffects_calm _ s.conf).wetness
      (restartBeds_wetness s.conf _ _ ((State.loadGate_calm _).wetness left))
  · exact left

theorem State.load_cursor {s : State} {S : Settings} (v : Bool) (hS : S.loadable) (h : s.cursorLaw) :
    (s.load S v).cursorLaw := by
  have toLeft : Calm (s.loadSettings S v).loadBlocks (s.loadLeft S v).loadGate :=
    (s.loadLeft_calm S v).trans (State.loadGate_calm _)
  have conf : (s.loadLeft S v).loadGate.conf = S := by
    rw [toLeft.conf, State.loadBlocks_conf, State.loadSettings_conf]
  intro b hb
  have h1 : 1 ≤ b ∧ b ≤ 32 := by
    simp only [Settings.bedDefined, decide_eq_true_eq] at hb
    exact ⟨hb.1, hb.2.1⟩
  have swept : ∀ u : State, Calm u u.sweep.cause := fun u => u.sweep_calm.trans (State.cause_calm _)
  rw [State.load_eq] at hb ⊢
  rw [(swept _).conf] at hb ⊢
  rw [(swept _).cursor]
  split at hb
  · rename_i hr
    rw [if_pos hr]
    rw [(State.restartEffects_calm _ s.conf).conf, restartBeds_conf, conf] at hb ⊢
    rw [(State.restartEffects_calm _ s.conf).cursor, restartBeds_cursor _ _ h1.1 h1.2, conf]
    split
    · rename_i kept
      simp only [bedKept, Bool.and_eq_true, beq_iff_eq] at kept
      obtain ⟨⟨⟨hd, _⟩, _⟩, lists⟩ := kept
      have lengths := congrArg List.length lists
      simp only [List.length_map] at lengths
      rw [toLeft.cursor, State.bed_congr (t := (s.loadSettings S v).loadBlocks) (s := s), ← lengths]
      · exact h b hd
      · rw [State.loadBlocks_records, State.loadSettings_restarting, if_pos hr, State.loadSettings_beds]
    · exact hS.2.2 b hb
  · rename_i hr
    rw [if_neg hr]
    rw [State.loadLeft_conf] at hb ⊢
    have records : (s.loadSettings S v).loadBlocks.beds.records = Vector.replicate 32 (Bed.initial S.wInit) := by
      rw [State.loadBlocks_records, State.loadSettings_restarting, if_neg hr, State.loadSettings_conf]
    rw [(s.loadLeft_calm S v).cursor]
    have zero : (((s.loadSettings S v).loadBlocks).bed b).cursor = 0 := by
      unfold State.bed
      rw [records]
      have : b ≠ 0 := by omega
      have : b - 1 < 32 := by omega
      simp [nth, *, Bed.initial]
    rw [zero]
    exact hS.2.2 b hb

/-- A load in STARTING takes a judged image or the built-in defaults; elsewhere it changes nothing. -/
theorem execLoad_cases {a : Bool} {s t : State} (h : execLoad a s = .next t) :
    t = s ∨ ∃ S v, s.ctrl.mode = .starting ∧ S.loadable ∧ t = s.load S v := by
  unfold execLoad at h
  injection h with h
  subst h
  split
  · rename_i hm
    split
    · rename_i S hS
      exact .inr ⟨S, true, hm, Settings.loadable_of_judged hS, rfl⟩
    · exact .inr ⟨Settings.builtIn, false, hm, Settings.builtIn_loadable, rfl⟩
  · exact .inl rfl

end Sys2Proof.Machine
end

section
/-! Every step keeps the wetness of the beds and the rotation cursors in their ranges (R3, R13, R21). -/

namespace Sys2Proof.Machine

/-! ### The reset state -/

theorem State.resetAs_bed (s : State) (k : ResetKind) (b : Nat) : (s.resetAs k).bed b = State.reset.bed b := rfl

theorem reset_wetnessLaw : State.reset.wetnessLaw := by
  refine ⟨fun b => ?_, by decide +kernel, by decide +kernel⟩
  unfold State.bed nth
  split
  · exact Nat.zero_le _
  · cases h : State.reset.beds.records[b - 1]? with
    | none => exact Nat.zero_le _
    | some r =>
      have records : State.reset.beds.records = Vector.replicate 32 (Bed.initial Settings.builtIn.wInit) := rfl
      rw [records, Vector.getElem?_replicate] at h
      split at h
      · injection h with h
        subst h
        exact Settings.builtIn_loadable.1
      · cases h

theorem reset_cursorLaw : State.reset.cursorLaw := fun b hb => by
  have : Settings.builtIn.bedDefined b = true := hb
  simp [Settings.builtIn_bedDefined] at this

theorem resetAs_wetnessLaw (s : State) (k : ResetKind) : (s.resetAs k).wetnessLaw :=
  ⟨fun b => by rw [State.resetAs_bed]; exact reset_wetnessLaw.1 b, reset_wetnessLaw.2⟩

theorem resetAs_cursorLaw (s : State) (k : ResetKind) : (s.resetAs k).cursorLaw := fun b hb => reset_cursorLaw b hb

/-! ### The grant -/

theorem State.grant_bed (s : State) (o : Order) (a : Award) (b : Nat) : (s.grant o a).bed b =
    if b = o.bed ∧ 1 ≤ o.bed ∧ o.bed ≤ 32 then
      { s.bed o.bed with cursor := (a.index + 1) % (s.conf.cannonList o.bed).length, waterShort := false }
    else s.bed b := by
  have records : (s.grant o a).beds.records = setNth s.beds.records o.bed
      { s.bed o.bed with cursor := (a.index + 1) % (s.conf.cannonList o.bed).length, waterShort := false } := by
    simp [State.grant, State.reserveWater, State.bed]
  unfold State.bed
  rw [records, nth_setNth]
  rfl

theorem State.grant_conf (s : State) (o : Order) (a : Award) : (s.grant o a).conf = s.conf := by simp

theorem State.grant_wetness {s : State} (o : Order) (a : Award) (h : s.wetnessLaw) : (s.grant o a).wetnessLaw := by
  refine ⟨fun b => ?_, by rw [State.grant_conf]; exact h.2.1, by rw [State.grant_conf]; exact h.2.2⟩
  rw [State.grant_bed]
  split
  · exact h.1 _
  · exact h.1 b

theorem State.grant_cursor {s : State} (o : Order) (a : Award) (h : s.cursorLaw) : (s.grant o a).cursorLaw := by
  intro b hb
  rw [State.grant_conf] at hb ⊢
  rw [State.grant_bed]
  split
  · rename_i e
    obtain ⟨rfl, _⟩ := e
    exact Nat.mod_lt _ (Nat.lt_of_le_of_lt (Nat.zero_le _) (h _ hb))
  · exact h b hb

theorem Calm.cursorLaw {s t : State} (hc : Calm s t) (h : s.cursorLaw) : t.cursorLaw := by
  intro b hb
  rw [hc.cursor, hc.conf]
  exact h b (hc.conf ▸ hb)

/-! ### The laws of the beds -/

theorem exec_wetnessLaw {c : Instr} {s t : State} (h : s.wetnessLaw) (hx : exec c s = .next t) : t.wetnessLaw := by
  cases hc : Instr.isCalm c with
  | true => exact (exec_calm hc hx).wetness h
  | false =>
    cases c with
    | powerOnReset => injection hx with hx; exact hx ▸ resetAs_wetnessLaw s .powerOn
    | externalReset => injection hx with hx; exact hx ▸ resetAs_wetnessLaw s .external
    | load a =>
      rcases execLoad_cases hx with rfl | ⟨S, v, _, hS, rfl⟩
      · exact h
      · exact State.load_wetness v hS h
    | dispatchAttempt =>
      exact execDispatchAttempt_keeps State.wetnessLaw (fun _ _ hc _ => hc.wetness)
        (fun _ _ o a _ _ _ => State.grant_wetness o a) hx h
    | _ => cases hc

theorem exec_cursorLaw {c : Instr} {s t : State} (h : s.cursorLaw) (hx : exec c s = .next t) : t.cursorLaw := by
  cases hc : Instr.isCalm c with
  | true => exact (exec_calm hc hx).cursorLaw h
  | false =>
    cases c with
    | powerOnReset => injection hx with hx; exact hx ▸ resetAs_cursorLaw s .powerOn
    | externalReset => injection hx with hx; exact hx ▸ resetAs_cursorLaw s .external
    | load a =>
      rcases execLoad_cases hx with rfl | ⟨S, v, _, hS, rfl⟩
      · exact h
      · exact State.load_cursor v hS h
    | dispatchAttempt =>
      exact execDispatchAttempt_keeps State.cursorLaw (fun _ _ hc _ => hc.cursorLaw)
        (fun _ _ o a _ _ _ => State.grant_cursor o a) hx h
    | _ => cases hc

/-- A step runs a command on the state with the queue's rest, or lets a millisecond pass; a law that reads neither the queue
nor the oscillator is kept by every step when every command keeps it. -/
theorem step_keeps (P : State → Prop) (queue : ∀ (s : State) l, P s → P { s with pending := l })
    (time : ∀ (s : State) n, P s → P { s with osc := n })
    (command : ∀ c s t, P s → exec c s = .next t → P t) {s t : State} (h : P s) (hx : step s = .next t) : P t := by
  unfold step at hx
  split at hx
  · exact command _ _ t (queue s _ h) hx
  · injection hx with hx
    exact hx ▸ time s _ h

/-- Settles O8. -/
theorem wetnessStaysInRange : Obligations.WetnessStaysInRange :=
  ⟨fun _ _ h hx => step_keeps State.wetnessLaw (fun _ _ h => h) (fun _ _ h => h) (fun _ _ _ => exec_wetnessLaw) h hx,
    fun _ _ h hx => step_keeps State.cursorLaw (fun _ _ h => h) (fun _ _ h => h) (fun _ _ _ => exec_cursorLaw) h hx⟩

end Sys2Proof.Machine
end

section
/-! SUPPORT. The relation `Quiet`: the mode, the machine table and the header's capacities stay. Every command outside a short list
is quiet. -/

namespace Sys2Proof.Machine

/-- The mode, the machine table and the header's two capacities are as they were. -/
abbrev Quiet (s t : State) : Prop :=
  t.ctrl.mode = s.ctrl.mode ∧ t.zones.entries = s.zones.entries ∧ t.water.slotCapacity = s.water.slotCapacity ∧
    t.water.flowCapacity = s.water.flowCapacity

namespace Quiet

theorem refl (s : State) : Quiet s s := ⟨rfl, rfl, rfl, rfl⟩

theorem trans {s t u : State} (h1 : Quiet s t) (h2 : Quiet t u) : Quiet s u :=
  ⟨h2.1.trans h1.1, h2.2.1.trans h1.2.1, h2.2.2.1.trans h1.2.2.1, h2.2.2.2.trans h1.2.2.2⟩

theorem foldl {α : Type} (f : State → α → State) (h : ∀ s x, Quiet s (f s x)) (l : List α) (s : State) :
    Quiet s (l.foldl f s) :=
  foldl_keeps Quiet refl (fun _ _ _ => trans) f h l s

theorem reply (s : State) (n : Node) (c : Nat) (r : Result) (d : List Byte) : Quiet s (s.reply n c r d) := refl s

/-- A request is quiet when its owner's event is. -/
theorem serve (s : State) (node : Node) (code : Nat) (data : List Byte) (owner : State → State)
    (h : ∀ u, Quiet u (owner u)) : Quiet s (s.serve node code data owner) := by
  have hr : Quiet s s.takeRequest := by simp [Quiet]
  rcases s.serve_cases node code data owner with ⟨_, e⟩ | ⟨_, _, e⟩ | ⟨_, _, _, _, e⟩ | ⟨_, e⟩ <;> rw [e]
  · exact refl s
  · exact hr.trans (reply ..)
  · exact hr.trans (reply ..)
  · exact hr.trans (h _)

theorem of_next {s t u : State} (h : (Host.Outcome.next u : Out) = .next t) (hq : Quiet s u) : Quiet s t := by
  injection h with h
  exact h ▸ hq

end Quiet

/-! ### The cannon line -/

@[simp] theorem State.endTransaction_quiet (s : State) (t : Transaction) : Quiet s (s.endTransaction t) := .refl s

@[simp] theorem State.endServed_quiet (s : State) (t : Transaction) (d : Nat) : Quiet s (s.endServed t d) := by
  unfold State.endServed; split <;> simp [Quiet]

@[simp] theorem State.endBegunTest_quiet (s : State) (c d : Nat) : Quiet s (s.endBegunTest c d) := by
  unfold State.endBegunTest; split <;> simp [Quiet]

@[simp] theorem State.noteReply_quiet (s : State) (t : Transaction) : Quiet s (s.noteReply t) := by
  unfold State.noteReply; split <;> simp [Quiet]

@[simp] theorem State.afterMiss_quiet (s : State) (t : Transaction) : Quiet s (s.afterMiss t) := by
  unfold State.afterMiss; split
  case h_4 => split <;> simp [Quiet]
  all_goals simp [Quiet]

@[simp] theorem State.missed_quiet (s : State) (t : Transaction) (f : CannonFault) : Quiet s (s.missed t f) := by
  unfold State.missed; dsimp only; split <;> simp [Quiet]

@[simp] theorem State.meterFault_quiet (s : State) (c b v m : Nat) : Quiet s (s.meterFault c b v m) := by
  unfold State.meterFault; dsimp only; split <;> simp [Quiet]

@[simp] theorem State.judgeMeter_quiet (s : State) (t : Transaction) (m : Nat) : Quiet s (s.judgeMeter t m) := by
  unfold State.judgeMeter; split
  · split <;> simp [Quiet]
  · exact .refl s

@[simp] theorem State.goodUnless_quiet (s : State) (c : Nat) (e : Bool) : Quiet s (s.goodUnless c e) := by
  unfold State.goodUnless; split <;> simp [Quiet]

@[simp] theorem State.refuseDropping_quiet (s : State) (t : Transaction) : Quiet s (s.refuseDropping t) := by
  unfold State.refuseDropping; split <;> simp [Quiet]

@[simp] theorem State.goodPing_quiet (s : State) (c : Nat) : Quiet s (s.goodPing c) := by
  unfold State.goodPing; split <;> simp [Quiet]

theorem State.takePing_quiet (s : State) (t : Transaction) (r : Reply) : Quiet s (s.takePing t r) := by
  unfold State.takePing State.pingOutOfService; dsimp only; (repeat' split) <;> simp [Quiet]

theorem State.takeStart_quiet (s : State) (t : Transaction) (r : Reply) : Quiet s (s.takeStart t r) := by
  unfold State.takeStart; dsimp only; (repeat' split) <;> simp [Quiet]

theorem State.takePoll_quiet (s : State) (t : Transaction) (r : Reply) : Quiet s (s.takePoll t r) := by
  unfold State.takePoll; dsimp only; (repeat' split) <;> simp [Quiet]

theorem State.takeTrimReply_quiet (s : State) (t : Transaction) (r : Reply) : Quiet s (s.takeTrimReply t r) := by
  unfold State.takeTrimReply; dsimp only; (repeat' split) <;> simp [Quiet]

@[simp] theorem State.settleLostStart_quiet (s : State) (t : Transaction) (m : Nat) : Quiet s (s.settleLostStart t m) := by
  unfold State.settleLostStart; (repeat' split) <;> simp [Quiet]

@[simp] theorem State.stopConfirmed_quiet (s : State) (t : Transaction) (m : Nat) : Quiet s (s.stopConfirmed t m) := by
  unfold State.stopConfirmed State.confirmStop; dsimp only; (repeat' split) <;> simp [Quiet]

theorem State.takeStop_quiet (s : State) (t : Transaction) (r : Reply) : Quiet s (s.takeStop t r) := by
  unfold State.takeStop; dsimp only; (repeat' split) <;> simp [Quiet]

theorem State.takeTest_quiet (s : State) (t : Transaction) (r : Reply) : Quiet s (s.takeTest t r) := by
  unfold State.takeTest; dsimp only; (repeat' split) <;> simp [Quiet]

theorem State.replied_quiet (s : State) (mine : LineCommand → Bool) (bytes : List Byte)
    (taken : State → Transaction → Reply → State) (h : ∀ u t r, Quiet u (taken u t r)) :
    Quiet s (s.replied mine bytes taken) := by
  have told : ∀ u : State, Quiet u u.flushCannons := fun u => by simp [Quiet]
  unfold State.replied
  split
  · exact .refl s
  · rename_i t _
    split
    · refine Quiet.trans ?_ (told _)
      split
      · exact (s.endTransaction_quiet t).trans (h ..)
      · exact (s.endTransaction_quiet t).trans (State.missed_quiet ..)
    · exact .refl s

theorem State.timedOut_quiet (s : State) (l : Nat) (f : CannonFault) : Quiet s (s.timedOut l f) := by
  unfold State.timedOut; (repeat' split) <;> simp [Quiet]

@[simp] theorem State.sweep_quiet (s : State) : Quiet s s.sweep := by
  unfold State.sweep
  exact Quiet.foldl sweepCannon (fun u c => by unfold sweepCannon; split <;> simp [Quiet]) _ s

theorem execLineFault_quiet (s t : State) (h : execLineFault s = .next t) : Quiet s t := by
  unfold execLineFault at h
  refine .of_next h ?_
  split
  · have cleared : Quiet s (cannonNumbers.foldl clearHeld s) := Quiet.foldl clearHeld (fun u _ => Quiet.refl u) cannonNumbers s
    generalize cannonNumbers.foldl clearHeld s = u at cleared ⊢
    simpa [Quiet] using cleared
  · exact .refl s

theorem execLineFaultEndOfStarts_quiet (s t : State) (h : execLineFaultEndOfStarts s = .next t) : Quiet s t := by
  unfold execLineFaultEndOfStarts at h
  refine .of_next h ?_
  split
  · rename_i since _
    have ended : Quiet s (cannonNumbers.foldl (estimateBusy since) (s.reach (since + 10000))) :=
      Quiet.foldl (estimateBusy since) (fun u c => by unfold estimateBusy; split <;> simp [Quiet]) cannonNumbers (s.reach (since + 10000))
    generalize cannonNumbers.foldl (estimateBusy since) (s.reach (since + 10000)) = u at ended ⊢
    simpa [Quiet] using ended
  · exact .refl s

theorem execLineReturn_quiet (s t : State) (h : execLineReturn s = .next t) : Quiet s t := by
  unfold execLineReturn at h
  refine .of_next h ?_
  split
  · have returned : Quiet s (cannonNumbers.foldl returnCannon { s with line := { s.line with state := .ok } }) :=
      Quiet.foldl returnCannon (fun u c => by unfold returnCannon; split <;> simp [Quiet]) cannonNumbers { s with line := { s.line with state := .ok } }
    generalize cannonNumbers.foldl returnCannon { s with line := { s.line with state := .ok } } = u at returned ⊢
    simpa [Quiet] using returned
  · exact .refl s

theorem execDrainDeadline_quiet (s t : State) (h : execDrainDeadline s = .next t) : Quiet s t := by
  unfold execDrainDeadline at h
  refine .of_next h ?_
  split
  · rename_i deadline _
    dsimp only
    have forced : ∀ n (u : State), Quiet u (cannonNumbers.foldl (forceStart n) u) := fun n u =>
      Quiet.foldl (forceStart n) (fun u c => by simp [Quiet]) cannonNumbers u
    have ended := forced (max s.osc deadline)
      { s.reach deadline with ctrl := { (s.reach deadline).ctrl with drain := none } }
    simpa [Quiet] using ended
  · exact .refl s

/-! ### The commands -/

/-- The commands that can move the mode, the machine table or a capacity of the header. -/
def Instr.isQuiet : Instr → Bool
  | .powerOnReset => false
  | .externalReset => false
  | .load _ => false
  | .forecastSlot _ _ _ _ _ => false
  | .weatherNow _ _ _ _ => false
  | .evaluation => false
  | .pumpState _ _ _ => false
  | .zoneClaim _ _ _ _ _ => false
  | .zoneRelease _ _ _ => false
  | .claimExpiry _ => false
  | .allHold _ => false
  | .holdRelease _ => false
  | .maintEnter _ => false
  | .maintExit _ => false
  | .yardSecond => false
  | .timeSet _ _ _ => false
  | .readBack _ => false
  | _ => true

theorem exec_quiet {c : Instr} {s t : State} (hc : Instr.isQuiet c = true) (h : exec c s = .next t) : Quiet s t := by
  cases c with
  | powerOnReset => cases hc
  | externalReset => cases hc
  | load => cases hc
  | forecastSlot => cases hc
  | weatherNow => cases hc
  | evaluation => cases hc
  | pumpState => cases hc
  | zoneClaim => cases hc
  | zoneRelease => cases hc
  | claimExpiry => cases hc
  | allHold => cases hc
  | holdRelease => cases hc
  | maintEnter => cases hc
  | maintExit => cases hc
  | yardSecond => cases hc
  | timeSet => cases hc
  | readBack => cases hc
  | anemometerPulse m => exact .of_next h (by simp [Quiet])
  | endOfSecond a b => exact .of_next h (by split <;> simp [Quiet])
  | dustPulse ch => exact .of_next h (by split <;> simp [Quiet])
  | windowEnd ch r => exact .of_next h (by split <;> simp [Quiet])
  | settleTimerExpiry b => exact .of_next h (by split <;> simp [Quiet])
  | waterGrant n w a =>
    refine .of_next h (.serve _ _ _ _ _ (fun u => ?_))
    unfold State.waterGrant State.grantWater; dsimp only; (repeat' split) <;> simp [Quiet, State.reply]
  | waterWithdraw n w a =>
    refine .of_next h (.serve _ _ _ _ _ (fun u => ?_))
    unfold State.waterWithdraw State.withdrawWater; dsimp only; (repeat' split) <;> simp [Quiet, State.reply]
  | waterQuality n v =>
    refine .of_next h (.serve _ _ _ _ _ (fun u => ?_))
    unfold State.waterQuality State.judgeGate; dsimp only; (repeat' split) <;> simp [Quiet, State.reply]
  | usagePeriodExpiry => exact .of_next h (by split <;> simp [Quiet, closePeriod])
  | waterQuery n p => exact .of_next h (.serve _ _ _ _ _ (fun u => by unfold State.waterQuery; split <;> exact .reply ..))
  | moistureHoldSet n b c g =>
    refine .of_next h (.serve _ _ _ _ _ (fun u => ?_))
    unfold State.holdSet; dsimp only; (repeat' split) <;> simp [Quiet, State.reply]
  | moistureHoldClear n b g =>
    refine .of_next h (.serve _ _ _ _ _ (fun u => ?_))
    unfold State.holdClear; (repeat' split) <;> simp [Quiet, State.reply]
  | manualSpray n b v p =>
    refine .of_next h (.serve _ _ _ _ _ (fun u => ?_))
    unfold State.manualSpray; dsimp only; (repeat' split) <;> simp [Quiet, State.reply]
  | cancelSpray n b =>
    refine .of_next h (.serve _ _ _ _ _ (fun u => ?_))
    unfold State.cancelSpray; (repeat' split) <;> simp [Quiet, State.reply]
  | orderExpiry b => exact .of_next h (by (repeat' split) <;> simp [Quiet])
  | dispatchAttempt => exact .of_next h (by split <;> simp [Quiet])
  | transactionBegin => exact .of_next h (by (repeat' split) <;> simp [Quiet, State.beginTransaction])
  | requestSent => exact .of_next h (by (repeat' split) <;> simp [Quiet])
  | ping r => exact .of_next h (s.replied_quiet _ _ _ State.takePing_quiet)
  | start r => exact .of_next h (s.replied_quiet _ _ _ State.takeStart_quiet)
  | poll r => exact .of_next h (s.replied_quiet _ _ _ State.takePoll_quiet)
  | trim r => exact .of_next h (s.replied_quiet _ _ _ State.takeTrimReply_quiet)
  | stop r => exact .of_next h (s.replied_quiet _ _ _ State.takeStop_quiet)
  | test r => exact .of_next h (s.replied_quiet _ _ _ State.takeTest_quiet)
  | allStop => exact .of_next h (by (repeat' split) <;> simp [Quiet])
  | noReply => exact .of_next h (s.timedOut_quiet _ _)
  | shortReply => exact .of_next h (s.timedOut_quiet _ _)
  | pollDue c => exact .of_next h (by (repeat' split) <;> simp [Quiet])
  | pingDue c => exact .of_next h (by (repeat' split) <;> simp [Quiet])
  | lineFault => exact execLineFault_quiet s t h
  | lineFaultEndOfStarts => exact execLineFaultEndOfStarts_quiet s t h
  | lineReturn => exact execLineReturn_quiet s t h
  | cannonRestore n c =>
    refine .of_next h (.serve _ _ _ _ _ (fun u => ?_))
    unfold State.cannonRestore; dsimp only; (repeat' split) <;> simp [Quiet, State.reply]
  | testSpray n c =>
    refine .of_next h (.serve _ _ _ _ _ (fun u => ?_))
    unfold State.testSpray State.askTest; (repeat' split) <;> simp [Quiet, State.reply]
  | cannonQuery n c p =>
    exact .of_next h (.serve _ _ _ _ _ (fun u => by unfold State.cannonQuery; (repeat' split) <;> exact .reply ..))
  | bedQuery n b p =>
    exact .of_next h (.serve _ _ _ _ _ (fun u => by unfold State.bedQuery; (repeat' split) <;> exact .reply ..))
  | recordRead n =>
    refine .of_next h (.serve _ _ _ _ _ (fun u => ?_))
    unfold State.recordRead State.recordReadFor; (repeat' split) <;> exact .refl u
  | readTimerExpiry => exact .of_next h (by split <;> simp [Quiet])
  | drainDeadline => exact execDrainDeadline_quiet s t h
  | flagClear n m => exact .of_next h (.serve _ _ _ _ _ (fun u => .refl u))
  | statusQuery n p => exact .of_next h (.serve _ _ _ _ _ (fun u => by unfold State.statusQuery; split <;> exact .reply ..))
  | requestArrival i d => exact .of_next h (by split <;> simp [Quiet])
  | frameSent => exact .of_next h (by (repeat' split) <;> simp [Quiet])
  | busOff => exact .of_next h (by split <;> simp [Quiet])
  | busRecovered => exact .of_next h (by split <;> simp [Quiet])
  | settingWrite n i k w =>
    refine .of_next h (.serve _ _ _ _ _ (fun u => ?_))
    unfold State.settingWrite; dsimp only; (repeat' split) <;> exact .refl u
  | settingRead n i k =>
    exact .of_next h (.serve _ _ _ _ _ (fun u => by unfold State.settingRead; (repeat' split) <;> exact .reply ..))
  | settingCommit n =>
    refine .of_next h (.serve _ _ _ _ _ (fun u => ?_))
    unfold State.settingCommit; (repeat' split) <;> exact .refl u
  | pageWriteDone => exact .of_next h (by (repeat' split) <;> simp [Quiet])
  | pageFailure =>
    refine .of_next h ?_
    split
    · split
      · simp [Quiet, State.failCommit, State.replyCommit, State.doubtPage]
        split <;> simp [State.reply]
      · exact .refl s
    · exact .refl s

end Sys2Proof.Machine
end

section
/-! SUPPORT. The law of the running orders through their keys: what a calm operation keeps of it, what a stop takes away, and the
grant, the capacity drop and the change of mode. -/

namespace Sys2Proof.Machine

/-- The keys of the orders in GRANTED or SPRAYING. -/
abbrev State.runKeys (s : State) : List (Nat × Option Nat) := runKeysOf s.disp.orders

/-- The rated flow a key draws. -/
def keyFlow (S : Settings) (k : Nat × Option Nat) : Nat := (k.2.map S.ratedFlow).getD 0

theorem State.flowOf_eq_keyFlow (s : State) (o : Order) : s.flowOf o = keyFlow s.conf o.runKey := by
  unfold State.flowOf keyFlow Order.runKey
  cases o.start <;> rfl

theorem mem_runKeysOf {k : Nat × Option Nat} {l : List Order} :
    k ∈ runKeysOf l ↔ ∃ o ∈ l, o.running = true ∧ o.runKey = k := by
  simp [runKeysOf, and_assoc]

/-- The law of the running orders, said of their keys. -/
theorem State.runLaw_iff (s : State) : s.runLaw ↔
    (∀ o ∈ s.disp.orders, s.conf.bedDefined o.bed = true) ∧
    (∀ k ∈ s.runKeys, s.modeGrants ∧ s.claimed k.1 = false) ∧
    s.runKeys.length ≤ s.water.slotCapacity ∧ (s.runKeys.map (keyFlow s.conf)).sum ≤ s.water.flowCapacity := by
  have hlen : s.runningOrders.length = s.runKeys.length := by simp [State.runningOrders, runKeysOf]
  have hsum : s.flowSum s.runningOrders = (s.runKeys.map (keyFlow s.conf)).sum := by
    unfold State.flowSum State.runKeys runKeysOf State.runningOrders
    rw [List.map_map]
    exact congrArg List.sum (List.map_congr_left fun o _ => s.flowOf_eq_keyFlow o)
  unfold State.runLaw
  rw [hlen, hsum]
  constructor
  · rintro ⟨h, hl, hf⟩
    refine ⟨fun o ho => (h o ho).1, fun k hk => ?_, hl, hf⟩
    obtain ⟨o, ho, hr, rfl⟩ := mem_runKeysOf.mp hk
    exact (h o ho).2 hr
  · rintro ⟨hd, hk, hl, hf⟩
    exact ⟨fun o ho => ⟨hd o ho, fun hr => hk o.runKey (mem_runKeysOf.mpr ⟨o, ho, hr, rfl⟩)⟩, hl, hf⟩

/-- With no order in GRANTED or SPRAYING the law asks only that every order's bed is defined. -/
theorem State.runLaw_of_none {s : State} (hd : ∀ o ∈ s.disp.orders, s.conf.bedDefined o.bed = true) (hk : s.runKeys = []) :
    s.runLaw := by
  refine s.runLaw_iff.mpr ⟨hd, ?_, ?_, ?_⟩
  · rw [hk]; exact fun k h => absurd h List.not_mem_nil
  · rw [hk]; exact Nat.zero_le _
  · rw [hk]; exact Nat.zero_le _

theorem State.runLaw_of_noOrders {s : State} (h : s.disp.orders = []) : s.runLaw :=
  State.runLaw_of_none (by rw [h]; exact fun o ho => absurd ho List.not_mem_nil) (by rw [State.runKeys, h]; rfl)

theorem sum_le_of_subperm {l m : List (Nat × Option Nat)} (f : Nat × Option Nat → Nat) (h : l.Subperm m) :
    (l.map f).sum ≤ (m.map f).sum := by
  obtain ⟨k, hp, hs⟩ := h
  rw [← (hp.map f).sum_eq]
  exact (hs.map f).sum_le_sum (fun _ _ => Nat.zero_le _)

namespace Calm
variable {s t : State}

theorem runKeys_subset (hc : Calm s t) : ∀ k ∈ t.runKeys, k ∈ s.runKeys := fun _ hk => hc.running.subset hk

theorem bedsDefined (hc : Calm s t) (h : ∀ o ∈ s.disp.orders, s.conf.bedDefined o.bed = true) :
    ∀ o ∈ t.disp.orders, t.conf.bedDefined o.bed = true := by
  intro o ho
  rw [hc.conf]
  rcases hc.ordered o ho with hd | ⟨q, hq, e⟩
  · exact hd
  · exact e ▸ h q hq

/-- A calm operation keeps the law where each key still stands in a mode that grants and clear of claims, and the capacities have
not dropped. -/
theorem runLaw (hc : Calm s t) (h : s.runLaw) (hk : ∀ k ∈ t.runKeys, t.modeGrants ∧ t.claimed k.1 = false)
    (hslot : s.water.slotCapacity ≤ t.water.slotCapacity) (hflow : s.water.flowCapacity ≤ t.water.flowCapacity) :
    t.runLaw := by
  obtain ⟨hd, _, hl, hf⟩ := s.runLaw_iff.mp h
  refine t.runLaw_iff.mpr ⟨hc.bedsDefined hd, hk, (hc.running.length_le.trans hl).trans hslot, ?_⟩
  rw [hc.conf]
  exact ((sum_le_of_subperm _ hc.running).trans hf).trans hflow

theorem runLaw_of_quiet (hc : Calm s t) (hq : Quiet s t) (h : s.runLaw) : t.runLaw := by
  obtain ⟨hm, he, hslot, hflow⟩ := hq
  refine hc.runLaw h (fun k hk => ?_) hslot.ge hflow.ge
  have := (s.runLaw_iff.mp h).2.1 k (hc.runKeys_subset k hk)
  unfold State.modeGrants State.claimed
  rw [hm, he]
  exact this

end Calm

/-! ### Stops -/

/-- After a stop no order on the bed is in GRANTED or SPRAYING. -/
theorem State.stopOrder_clears {s : State} (hn : s.oneOrderPerBed) (b : Nat) (e : Option OrderOutcome) :
    ∀ k ∈ (s.stopOrder b e).runKeys, k.1 ≠ b := by
  unfold State.stopOrder
  split
  · rename_i hnone
    intro k hk hb
    obtain ⟨o, ho, _, rfl⟩ := mem_runKeysOf.mp hk
    have := State.order_of_mem hn ho
    rw [show o.bed = b from hb, hnone] at this
    cases this
  · rename_i o ho
    obtain ⟨_, hbed⟩ := State.order_mem ho
    have put : ∀ k ∈ (s.putOrder (o.stopped e)).runKeys, k.1 ≠ b := by
      intro k hk hb
      obtain ⟨q, hq, hr, rfl⟩ := mem_runKeysOf.mp hk
      rcases State.mem_putOrder.mp hq with rfl | ⟨_, hne⟩
      · simp [Order.stopped_running] at hr
      · exact hne (hb.trans hbed.symm)
    split
    · split
      · exact fun k hk => put k ((State.askStop_calm _ _).runKeys_subset k hk)
      · exact put
    · rename_i hr
      intro k hk hb
      obtain ⟨q, hq, hqr, rfl⟩ := mem_runKeysOf.mp hk
      have := State.order_of_mem hn hq
      rw [show q.bed = b from hb, ho] at this
      injection this with this
      exact hr (this ▸ hqr)

/-- A calm fold of operations that each clear a bed, where the settings ask for it, clears every such bed of its list. -/
theorem foldl_clears (f : State → Nat → State) (calm : ∀ s b, Calm s (f s b)) (Q : Settings → Nat → Prop) (l : List Nat)
    (clears : ∀ s b, s.oneOrderPerBed → Q s.conf b → ∀ k ∈ (f s b).runKeys, k.1 ≠ b) :
    ∀ s : State, s.oneOrderPerBed → ∀ k ∈ (l.foldl f s).runKeys, Q s.conf k.1 → k.1 ∉ l := by
  induction l with
  | nil => exact fun _ _ _ _ _ => List.not_mem_nil
  | cons b rest ih =>
    intro s hn k hk hQ hmem
    rcases List.mem_cons.mp hmem with e | hr
    · exact clears s b hn (e ▸ hQ) k ((Calm.foldl f calm rest _).runKeys_subset k hk) e
    · exact ih _ ((calm s b).oneOrder hn) k hk ((calm s b).conf.symm ▸ hQ) hr

/-- A stop of every spray leaves none in GRANTED or SPRAYING (R133). -/
theorem State.stopWhere_all {s : State} (hn : s.oneOrderPerBed) : (s.stopWhere (fun _ => true)).runKeys = [] := by
  rw [List.eq_nil_iff_forall_not_mem]
  intro k hk
  have stopped := foldl_clears (fun t b => t.stopOrder b none) (fun t b => t.stopOrder_calm b none) (fun _ _ => True) _
    (fun t b ht _ => State.stopOrder_clears ht b none) s hn k hk trivial
  obtain ⟨o, ho, hr, rfl⟩ := mem_runKeysOf.mp ((s.stopWhere_calm _).runKeys_subset k hk)
  exact stopped (List.mem_map.mpr ⟨o, List.mem_filter.mpr ⟨ho, by simp [hr]⟩, rfl⟩)

/-! ### Changes of mode -/

theorem State.enterMode_mode (s : State) (m : Mode) : (s.enterMode m).ctrl.mode = m := by
  unfold State.enterMode
  dsimp only
  split
  · simp only [State.stopSprays, State.askAllStop]
    split <;> simp
  · simp

/-- A mode that stops every spray leaves none in GRANTED or SPRAYING (R133). -/
theorem State.enterMode_stops {s : State} (hn : s.oneOrderPerBed) {m : Mode} (hm : m.stops = true) :
    (s.enterMode m).runKeys = [] := by
  have told : Calm s ({ s with ctrl := { s.ctrl with mode := m } } : State).makeMode.askAllStop := by
    refine .same ?_ ?_ ?_ <;> unfold State.askAllStop <;> split <;> simp
  unfold State.enterMode
  dsimp only
  rw [if_pos hm]
  exact State.stopWhere_all (told.oneOrder hn)

/-- Entry to any mode but STARTING keeps the law: a mode that does not stop every spray grants. -/
theorem State.enterMode_runLaw {s : State} (hn : s.oneOrderPerBed) (h : s.runLaw) {m : Mode} (hm : m ≠ .starting) :
    (s.enterMode m).runLaw := by
  have calm := s.enterMode_calm m
  cases hs : m.stops with
  | true => exact State.runLaw_of_none (calm.bedsDefined (s.runLaw_iff.mp h).1) (State.enterMode_stops hn hs)
  | false =>
    refine calm.runLaw h (fun k hk => ⟨?_, ?_⟩) ?_ ?_
    · unfold State.modeGrants
      rw [State.enterMode_mode]
      cases m <;> simp_all [Mode.stops]
    · have := ((s.runLaw_iff.mp h).2.1 k (calm.runKeys_subset k hk)).2
      unfold State.claimed at this ⊢
      simpa using this
    · simp
    · simp

/-- The two facts about the orders that every part of a step keeps. -/
def State.runsClear (s : State) : Prop := s.oneOrderPerBed ∧ s.runLaw

theorem Calm.runsClear {s t : State} (hc : Calm s t) (hq : Quiet s t) (h : s.runsClear) : t.runsClear :=
  ⟨hc.oneOrder h.1, hc.runLaw_of_quiet hq h.2⟩

theorem State.enterMode_runsClear {s : State} {m : Mode} (hm : m ≠ .starting) (h : s.runsClear) : (s.enterMode m).runsClear :=
  ⟨(s.enterMode_calm m).oneOrder h.1, State.enterMode_runLaw h.1 h.2 hm⟩

theorem State.makeMode_runsClear {s : State} (h : s.runsClear) : s.makeMode.runsClear :=
  s.makeMode_calm.runsClear (by simp [Quiet]) h

theorem State.reply_runsClear {s : State} (n : Node) (c : Nat) (r : Result) (d : List Byte) (h : s.runsClear) :
    (s.reply n c r d).runsClear := (s.reply_calm n c r d).runsClear (.reply ..) h

theorem State.judgeBasis_runsClear {s : State} (h : s.runsClear) : s.judgeBasis.runsClear := by
  unfold State.judgeBasis
  split
  · split
    · exact State.enterMode_runsClear (by decide) h
    · exact h
  · split
    · exact h
    · exact State.enterMode_runsClear (by decide) h
  · exact h

theorem State.setReasons_runsClear {s : State} (a b : Bool) (h : s.runsClear) : (s.setReasons a b).runsClear := by
  have set : State.runsClear { s with ctrl := { s.ctrl with operator := a, freeze := b } } :=
    Calm.runsClear (.same rfl rfl rfl) (.refl s) h
  have run : ∀ u : State, u.runMode ≠ .starting := fun u => by unfold State.runMode; split <;> decide
  unfold State.setReasons
  split
  · exact h
  · dsimp only
    split
    · exact set
    · exact State.makeMode_runsClear set
    · split
      · exact State.makeMode_runsClear set
      · exact State.enterMode_runsClear (run _) set
    · split
      · exact State.enterMode_runsClear (by decide) set
      · exact State.makeMode_runsClear set
    · split
      · exact State.enterMode_runsClear (by decide) set
      · exact State.makeMode_runsClear set

theorem State.judgeFreeze_runsClear {s : State} (h : s.runsClear) : s.judgeFreeze.runsClear :=
  State.setReasons_runsClear _ _ h

theorem State.changeHour_runsClear {s : State} (h : s.runsClear) : s.changeHour.runsClear :=
  State.judgeFreeze_runsClear (s.judgeForecast_calm.runsClear (by simp [Quiet, State.judgeForecast]; split <;> simp) h)

/-! ### The capacity drop -/

theorem laterGranted_some (s : State) (l : List Order) : ∀ best, (best.isSome = true ∨ l ≠ []) →
    (∀ o, best = some o → o ∈ s.runningOrders) → (∀ o ∈ l, o ∈ s.runningOrders) →
    ∃ o ∈ s.runningOrders, l.foldl (laterGranted s) best = some o := by
  induction l with
  | nil =>
    intro best hb hin _
    obtain ⟨o, ho⟩ := Option.isSome_iff_exists.mp (hb.resolve_right (fun h => h rfl))
    exact ⟨o, hin o ho, ho⟩
  | cons x rest ih =>
    intro best _ hin hl
    refine ih (laterGranted s best x) (.inl ?_) (fun o ho => ?_) (fun o ho => hl o (List.mem_cons_of_mem _ ho))
    · unfold laterGranted; split
      · rfl
      · split <;> rfl
    · unfold laterGranted at ho
      split at ho
      · injection ho with ho; exact ho ▸ hl x List.mem_cons_self
      · split at ho
        · injection ho with ho; exact ho ▸ hl x List.mem_cons_self
        · rename_i b _; injection ho with ho; exact hin o (ho ▸ rfl)

theorem State.latestGranted_mem {s : State} (h : s.runningOrders ≠ []) : ∃ o ∈ s.runningOrders, s.latestGranted = some o :=
  laterGranted_some s _ none (.inr h) (fun _ h => by cases h) (fun _ h => h)

/-- A stop of an order in GRANTED or SPRAYING leaves fewer such orders. -/
theorem State.stopOrder_fewer {s : State} (hn : s.oneOrderPerBed) {o : Order} (ho : o ∈ s.runningOrders) :
    (s.stopOrder o.bed none).runKeys.length < s.runKeys.length := by
  obtain ⟨hm, hr⟩ := List.mem_filter.mp ho
  have sub := (s.stopOrder_calm o.bed none).running
  refine Nat.lt_of_le_of_ne sub.length_le (fun e => ?_)
  have key : o.runKey ∈ (s.stopOrder o.bed none).runKeys :=
    (sub.perm_of_length_le e.ge).mem_iff.mpr (mem_runKeysOf.mpr ⟨o, hm, hr, rfl⟩)
  exact State.stopOrder_clears hn o.bed none _ key rfl

theorem State.headerFits_iff (s : State) (n f : Nat) :
    s.headerFits n f = true ↔ n ≤ s.water.slotCapacity ∧ f ≤ s.water.flowCapacity := by
  simp [State.headerFits]

/-- With as many stops as orders in GRANTED or SPRAYING, what runs after a capacity drop fits the header (R132). -/
theorem dropCapacity_fits (n : Nat) : ∀ s : State, s.oneOrderPerBed → s.runKeys.length ≤ n →
    (dropCapacity n s).headerFits (dropCapacity n s).runningOrders.length
      ((dropCapacity n s).flowSum (dropCapacity n s).runningOrders) = true := by
  induction n with
  | zero =>
    intro s _ h
    have none : s.runningOrders = [] := by
      rw [← List.length_eq_zero_iff]
      have : s.runKeys.length = s.runningOrders.length := by simp [runKeysOf, State.runningOrders]
      omega
    simp [dropCapacity, none, State.flowSum, State.headerFits]
  | succ n ih =>
    intro s hn h
    unfold dropCapacity
    split
    · assumption
    · rename_i hfit
      have some : s.runningOrders ≠ [] := fun e => hfit (by simp [e, State.flowSum, State.headerFits])
      obtain ⟨o, ho, hl⟩ := State.latestGranted_mem some
      rw [hl]
      have fewer := State.stopOrder_fewer hn ho
      exact ih _ ((s.stopOrder_calm o.bed none).oneOrder hn) (by omega)

end Sys2Proof.Machine
end

section
/-! No order in GRANTED or SPRAYING is on a claimed bed or in a mode that stops it, and these orders fit the header (R122, R129,
R132). -/

namespace Sys2Proof.Machine

/-! ### The grant -/

/-- An order as its grant leaves it (R127). -/
def State.granted (s : State) (o : Order) (a : Award) : Order :=
  { o with state := .granted, blocked := none, start := some ⟨a.entry.cannon, a.source, s.startVolume o a, false, none,
    (s.disp.grantSequence + 1) % 65536, s.grantCount o.bed⟩ }

theorem State.grant_orders (s : State) (o : Order) (a : Award) : (s.grant o a).disp.orders =
    insertOrder (s.granted o a) (ordersWithout o.bed s.disp.orders) := by
  simp [State.grant, State.reserveWater, State.granted]

/-- What the award of an order says of the mode, the claims and the header (R122, R125). -/
theorem State.judgeOrder_ok {s : State} {o : Order} {a : Award} (h : s.judgeOrder o = .ok a) :
    s.modeGrants ∧ s.claimed o.bed = false ∧ s.hasCapacity a.entry.cannon = true := by
  unfold State.judgeOrder at h
  split at h
  · cases h
  · rename_i hm
    split at h
    · cases h
    · rename_i hclaim
      split at h
      · cases h
      · split at h
        · cases h
        · split at h
          · cases h
          · split at h
            · rename_i hcap
              injection h with h
              subst h
              refine ⟨?_, by simpa using hclaim, hcap⟩
              unfold State.modeGrants
              cases hs : s.ctrl.mode <;> simp_all [Mode.grants]
            · cases h

theorem running_inStart {o : Order} (h : o.running = true) : o.inStart = true := by
  unfold Order.running at h
  unfold Order.inStart
  cases hs : o.state <;> simp_all

/-- The orders in GRANTED or SPRAYING are among those that the CAPACITY check counts. -/
theorem State.runningOrders_sublist (s : State) : s.runningOrders.Sublist s.startedOrders :=
  List.monotone_filter_right _ (fun _ h => running_inStart h)

theorem State.grant_runsClear {s : State} {b : Nat} {o : Order} {a : Award} (ho : s.order b = some o)
    (ha : s.judgeOrder o = .ok a) (h : s.runsClear) : (s.grant o a).runsClear := by
  obtain ⟨hmode, hclaim, hcap⟩ := State.judgeOrder_ok ha
  obtain ⟨hm, _⟩ := State.order_mem ho
  obtain ⟨hd, hk, _, _⟩ := s.runLaw_iff.mp h.2
  have quiet : Quiet s (s.grant o a) := by simp [Quiet]
  obtain ⟨qmode, qentries, qslot, qflow⟩ := quiet
  have calm := Calm.putOrder s { o with state := .waiting } (.inr ⟨o, hm, rfl⟩) (fun hr => by simp [Order.running] at hr)
  have perm : (s.grant o a).disp.orders.Perm (s.granted o a :: ordersWithout o.bed s.disp.orders) := by
    rw [State.grant_orders]; exact insertOrder_perm _ _
  refine ⟨?_, (s.grant o a).runLaw_iff.mpr ⟨?_, ?_, ?_⟩⟩
  · have waits := calm.oneOrder h.1
    unfold State.oneOrderPerBed at waits ⊢
    rw [State.putOrder_orders] at waits
    rw [(perm.map Order.bed).nodup_iff]
    have beds := ((insertOrder_perm _ _).map Order.bed).nodup_iff.mp waits
    exact beds
  · intro q hq
    rw [State.grant_conf]
    rcases List.mem_cons.mp (perm.mem_iff.mp hq) with rfl | hq
    · exact hd o hm
    · exact hd q (mem_ordersWithout.mp hq).1
  · intro k hk'
    obtain ⟨q, hq, hr, rfl⟩ := mem_runKeysOf.mp hk'
    unfold State.modeGrants State.claimed
    rw [qmode, qentries]
    rcases List.mem_cons.mp (perm.mem_iff.mp hq) with rfl | hq
    · exact ⟨hmode, hclaim⟩
    · exact hk q.runKey (mem_runKeysOf.mpr ⟨q, (mem_ordersWithout.mp hq).1, hr, rfl⟩)
  · have keys : (s.grant o a).runKeys.Subperm ((o.bed, some a.entry.cannon) :: s.startedOrders.map Order.runKey) := by
      refine (runKeysOf_subperm perm.subperm).trans ?_
      rw [runKeysOf_cons, if_pos (show (s.granted o a).running = true from rfl)]
      refine (List.subperm_cons _).mpr (List.Sublist.subperm ?_)
      exact ((List.filter_sublist.filter Order.running).trans s.runningOrders_sublist).map Order.runKey
    unfold State.hasCapacity at hcap
    obtain ⟨hslot, hflow⟩ := (s.headerFits_iff _ _).mp hcap
    have sum : s.flowSum s.startedOrders = ((s.startedOrders.map Order.runKey).map (keyFlow s.conf)).sum := by
      unfold State.flowSum
      rw [List.map_map]
      exact congrArg List.sum (List.map_congr_left fun o _ => s.flowOf_eq_keyFlow o)
    rw [qslot, qflow, State.grant_conf]
    refine ⟨keys.length_le.trans (by simpa using hslot), (sum_le_of_subperm _ keys).trans ?_⟩
    simp only [List.map_cons, List.sum_cons]
    rw [← sum, Nat.add_comm]
    exact hflow

/-! ### The pump header -/

theorem State.pumpState_runsClear {s : State} (n : Node) (p f : Nat) (h : s.runsClear) : (s.pumpState n p f).runsClear := by
  have formed : Calm s ({ s with water := { s.water with pumps := min 8 p, flowLimit := f } } : State).formCapacities :=
    .same rfl rfl rfl
  have calm := s.pumpState_calm n p f
  obtain ⟨hd, hk, hl, hf⟩ := s.runLaw_iff.mp h.2
  refine ⟨calm.oneOrder h.1, ?_⟩
  revert calm
  unfold State.pumpState
  dsimp only
  generalize hu : ({ s with water := { s.water with pumps := min 8 p, flowLimit := f } } : State).formCapacities = u at formed ⊢
  have mode : u.ctrl.mode = s.ctrl.mode := hu ▸ rfl
  have entries : u.zones = s.zones := hu ▸ rfl
  have clear : ∀ v : State, v.ctrl.mode = u.ctrl.mode → v.zones = u.zones → ∀ k ∈ s.runKeys,
      v.modeGrants ∧ v.claimed k.1 = false := by
    intro v hm hz k hkey
    unfold State.modeGrants State.claimed
    rw [hm, hz, mode, entries]
    exact hk k hkey
  have law : (if u.water.slotCapacity < s.water.slotCapacity ∨ u.water.flowCapacity < s.water.flowCapacity
      then dropCapacity u.disp.orders.length u else u).runLaw := by
    split
    · have dropped := formed.trans (dropCapacity_calm u.disp.orders.length u)
      have fits := dropCapacity_fits u.disp.orders.length u (formed.oneOrder h.1)
        (by simpa [State.runKeys, runKeysOf] using List.length_filter_le _ _)
      rw [State.headerFits_iff] at fits
      refine ⟨fun o ho => ⟨dropped.bedsDefined hd o ho, fun hr => ?_⟩, fits⟩
      exact clear _ (by simp) (by simp) o.runKey (dropped.runKeys_subset _ (mem_runKeysOf.mpr ⟨o, ho, hr, rfl⟩))
    · rename_i hcap
      exact formed.runLaw h.2 (fun k hkey => clear u rfl rfl k (formed.runKeys_subset k hkey))
        (by omega) (by omega)
  intro _
  split
  · exact law
  · exact law

/-! ### The evaluation and the requests that move a reason or the clock -/

theorem evaluateBed_quiet (f : Bool) (s : State) (b : Nat) : Quiet s (evaluateBed f s b) := by simp [Quiet]

theorem execEvaluation_runsClear {s t : State} (hx : execEvaluation s = .next t) (h : s.runsClear) : t.runsClear := by
  unfold execEvaluation at hx
  injection hx with hx
  subst hx
  split
  · have timed : ∀ due, State.runsClear { s.reach due with evalDue := some (due + 60000) } := fun due =>
      Calm.runsClear (.same rfl rfl rfl) (.refl s) h
    have beds : ∀ (f : Bool) (u : State), u.runsClear → (bedNumbers.foldl (evaluateBed f) u).runsClear := fun f u hu =>
      Calm.runsClear (Calm.foldl (evaluateBed f) (evaluateBed_calm f) bedNumbers u)
        (Quiet.foldl (evaluateBed f) (evaluateBed_quiet f) bedNumbers u) hu
    unfold State.evaluate
    exact beds _ _ (State.judgeFreeze_runsClear (State.judgeBasis_runsClear (timed _)))
  · exact h

theorem State.forecastSlot_runsClear {s : State} (n : Node) (i k p : Nat) (f : BitVec 40) (h : s.runsClear) :
    (s.forecastSlot n i k p f).runsClear := by
  have stored : ((s.openIssue i).storePart k p f).runsClear := by
    refine Calm.runsClear (.same ?_ ?_ ?_) ?_ h <;> (try unfold Quiet) <;> unfold State.openIssue <;> split <;> simp [State.storePart]
  unfold State.forecastSlot
  split
  · exact State.reply_runsClear _ _ _ _ h
  · split
    · exact State.reply_runsClear _ _ _ _ h
    · exact State.reply_runsClear _ _ _ _ (State.changeHour_runsClear stored)

theorem State.weatherNow_runsClear {s : State} (n : Node) (r : Nat) (hu te : Byte) (h : s.runsClear) :
    (s.weatherNow n r hu te).runsClear := by
  have noted : (s.noteWeather (clampField 100 (field8 hu)) (clampTemperature (fieldTemperature te))).runsClear :=
    Calm.runsClear (.same rfl rfl rfl) (.refl s) h
  have rained : (bedNumbers.foldl (rainOn ((field16 r).getD 0))
      (s.noteWeather (clampField 100 (field8 hu)) (clampTemperature (fieldTemperature te)))).runsClear :=
    Calm.runsClear (Calm.foldl _ (rainOn_calm ((field16 r).getD 0)) bedNumbers _)
      (Quiet.foldl (rainOn ((field16 r).getD 0)) (fun u b => by simp [Quiet]) bedNumbers _) noted
  unfold State.weatherNow
  refine State.reply_runsClear _ _ _ _ ?_
  split
  · exact State.judgeFreeze_runsClear rained
  · exact rained

theorem State.setClock_runsClear {s : State} (d n : Nat) (h : s.runsClear) : (s.setClock d n).runsClear :=
  (s.setClock_calm d n).runsClear (.refl s) h

theorem State.changeDay_runsClear {s : State} (h : s.runsClear) : s.changeDay.runsClear :=
  s.changeDay_calm.runsClear (.refl s) h

theorem execYardSecond_runsClear {s t : State} (hx : execYardSecond s = .next t) (h : s.runsClear) : t.runsClear := by
  have second : State.runsClear { s.reach s.ctrl.yardDue with
      ctrl := { (s.reach s.ctrl.yardDue).ctrl with yardDue := s.ctrl.yardDue + 1000 } } :=
    Calm.runsClear (.same rfl rfl rfl) (.refl s) h
  unfold execYardSecond at hx
  injection hx with hx
  subst hx
  dsimp only
  split
  · exact State.changeHour_runsClear (State.changeDay_runsClear (State.setClock_runsClear _ _ second))
  · split
    · exact State.changeHour_runsClear (State.setClock_runsClear _ _ second)
    · exact State.setClock_runsClear _ _ second

theorem State.timeSet_runsClear {s : State} (n : Node) (d v : Nat) (h : s.runsClear) : (s.timeSet n d v).runsClear := by
  have set : (s.setClock d (min 86399 v)).clearTimeUnset.runsClear := Calm.runsClear (.same rfl rfl rfl) (.refl s) h
  have day : (if d = s.ctrl.day then (s.setClock d (min 86399 v)).clearTimeUnset
      else (s.setClock d (min 86399 v)).clearTimeUnset.changeDay).runsClear := by
    split
    · exact set
    · exact State.changeDay_runsClear set
  unfold State.timeSet
  refine State.reply_runsClear _ _ _ _ ?_
  split
  · exact day
  · exact State.changeHour_runsClear day

theorem State.maintEnter_runsClear {s : State} (n : Node) (h : s.runsClear) : (s.maintEnter n).runsClear := by
  have long : State.runsClear { s with port := { s.port with long := some ⟨n, 0x33⟩ } } :=
    Calm.runsClear (.same rfl rfl rfl) (.refl s) h
  have due : ∀ u : State, u.runsClear → State.runsClear { u with ctrl := { u.ctrl with drain := some (u.osc + 30000) } } :=
    fun u hu => Calm.runsClear (.same rfl rfl rfl) (.refl u) hu
  unfold State.maintEnter
  split
  · exact State.reply_runsClear _ _ _ _ h
  · exact (State.checkDrained_calm _).runsClear (by simp [Quiet])
      (due _ (State.enterMode_runsClear (m := .maintenance) (by decide) long))

/-! ### The settings restart -/

/-- A settings restart leaves no order (R136). -/
theorem State.cancelOrders_orders (s : State) : s.cancelOrders.disp.orders = [] := by
  have gone : ∀ (l : List Order) (u : State), (∀ o ∈ u.disp.orders, o.bed ∈ l.map Order.bed) →
      (l.foldl (fun t o => t.removeOrder o .cancelled) u).disp.orders = [] := by
    intro l
    induction l with
    | nil => exact fun u h => List.eq_nil_iff_forall_not_mem.mpr (fun o ho => by simpa using h o ho)
    | cons o rest ih =>
      intro u h
      refine ih _ (fun q hq => ?_)
      have left : (u.removeOrder o .cancelled).disp.orders = ordersWithout o.bed u.disp.orders := by
        unfold State.removeOrder
        dsimp only
        split <;> simp
      rw [left, mem_ordersWithout] at hq
      exact (List.mem_cons.mp (h q hq.1)).resolve_left hq.2
  exact gone s.disp.orders s (fun o ho => List.mem_map_of_mem ho)

theorem State.beginRestart_orders (s : State) (i : Option (List Byte)) : (s.beginRestart i).disp.orders = [] := by
  have left : ∀ u : State, u.leaveBus.disp = u.disp := fun _ => rfl
  unfold State.beginRestart
  dsimp only
  rw [left]
  exact State.cancelOrders_orders _

theorem State.runsClear_of_noOrders {s : State} (h : s.disp.orders = []) : s.runsClear :=
  ⟨by unfold State.oneOrderPerBed; rw [h]; exact List.nodup_nil, State.runLaw_of_noOrders h⟩

theorem State.maintExit_runsClear {s : State} (n : Node) (h : s.runsClear) : (s.maintExit n).runsClear := by
  unfold State.maintExit
  split
  · exact State.reply_runsClear _ _ _ _ h
  · split
    · exact State.reply_runsClear _ _ _ _ h
    · exact State.runsClear_of_noOrders (State.beginRestart_orders _ _)

theorem execReadBack_runsClear {d : List Host.Cell} {s t : State} (hx : execReadBack d s = .next t) (h : s.runsClear) :
    t.runsClear := by
  unfold execReadBack at hx
  injection hx with hx
  subst hx
  split
  · split
    · exact h
    · dsimp only
      split
      · refine Calm.runsClear (Calm.trans (.same rfl rfl rfl) (State.failCommit_calm _ _)) ?_ h
        unfold State.failCommit State.replyCommit
        split <;> exact ⟨rfl, rfl, rfl, rfl⟩
      · exact State.runsClear_of_noOrders (State.beginRestart_orders _ _)
  · exact h

end Sys2Proof.Machine
end

section
/-! SUPPORT. The machine table but for the prior states its entries keep: what the operations on beds leave of it, and how a claim,
a release and an expiry change it. -/

namespace Sys2Proof.Machine

/-- An entry of the machine table but for its prior states. -/
def Claim.bare (e : Claim) : Claim := { e with prior := [] }

/-- The machine table but for the prior states. -/
def State.bareEntries (s : State) : List Claim := s.zones.entries.map Claim.bare

theorem State.bareEntries_congr {s t : State} (h : t.zones.entries = s.zones.entries) : t.bareEntries = s.bareEntries := by
  unfold State.bareEntries; rw [h]

theorem State.any_bareEntries (s : State) (p : Claim → Bool) (hp : ∀ e, p e.bare = p e) :
    s.zones.entries.any p = s.bareEntries.any p := by
  unfold State.bareEntries
  rw [List.any_map]
  exact congrArg _ (funext fun e => (hp e).symm)

theorem State.claimed_eq (s : State) (b : Nat) : s.claimed b = s.bareEntries.any (fun e => e.covers b) :=
  s.any_bareEntries _ (fun _ => rfl)

theorem State.touched_eq (s : State) (b : Nat) :
    s.touched b = s.bareEntries.any (fun e => e.covers b && e.activity.touches) := s.any_bareEntries _ (fun _ => rfl)

theorem State.touched_congr {s t : State} (h : t.bareEntries = s.bareEntries) (b : Nat) : t.touched b = s.touched b := by
  rw [State.touched_eq, State.touched_eq, h]

theorem mem_rangeBeds {b f l : Nat} : b ∈ rangeBeds f l ↔ f ≤ b ∧ b ≤ l := by
  unfold rangeBeds
  rw [mem_numbersFrom]
  omega

theorem nodup_rangeBeds (f l : Nat) : (rangeBeds f l).Nodup := nodup_numbersFrom _ _

theorem Claim.covers_iff (e : Claim) (b : Nat) : e.covers b = true ↔ e.first ≤ b ∧ b ≤ e.last := by simp [Claim.covers]

/-- A rewriting of prior states leaves the bare entries. -/
theorem State.bareEntries_map (s : State) (f : Claim → Claim) (hf : ∀ e, (f e).bare = e.bare) :
    (s.setEntries (s.zones.entries.map f)).bareEntries = s.bareEntries := by
  unfold State.bareEntries
  rw [State.setEntries_entries, List.map_map]
  exact List.map_congr_left fun e _ => hf e

@[simp] theorem State.writePrior_bare (s : State) (m b : Nat) (p : Surface) : (s.writePrior m b p).bareEntries = s.bareEntries :=
  s.bareEntries_map _ (fun e => by split <;> rfl)

@[simp] theorem State.sharePrior_bare (s : State) (b : Nat) (p : Surface) : (s.sharePrior b p).bareEntries = s.bareEntries :=
  s.bareEntries_map _ (fun e => by split <;> rfl)

@[simp] theorem State.dropPrior_bare (s : State) (b : Nat) : (s.dropPrior b).bareEntries = s.bareEntries :=
  s.bareEntries_map _ (fun _ => rfl)

@[simp] theorem State.stopOrder_bare (s : State) (b : Nat) (e : Option OrderOutcome) :
    (s.stopOrder b e).bareEntries = s.bareEntries := State.bareEntries_congr (by simp)

@[simp] theorem State.setSurface_bare (s : State) (b : Nat) (f : Surface) : (s.setSurface b f).bareEntries = s.bareEntries := rfl

@[simp] theorem State.stackReset_bare (s : State) (b : Nat) : (s.stackReset b).bareEntries = s.bareEntries := rfl

@[simp] theorem State.becomeEmpty_zones (s : State) (b : Nat) : (s.becomeEmpty b).zones = s.zones := by
  simp [State.becomeEmpty]

@[simp] theorem State.becomeEmpty_bare (s : State) (b : Nat) : (s.becomeEmpty b).bareEntries = s.bareEntries :=
  State.bareEntries_congr (by rw [State.becomeEmpty_zones])

@[simp] theorem State.applyActivity_bare (s : State) (b : Nat) (a : ZoneActivity) (p : Surface) :
    (s.applyActivity b a p).bareEntries = s.bareEntries := by
  unfold State.applyActivity
  split <;> simp

@[simp] theorem State.enterRange_bare (s : State) (m : Nat) (a : ZoneActivity) (b : Nat) :
    (s.enterRange m a b).bareEntries = s.bareEntries := by
  unfold State.enterRange
  split <;> simp

@[simp] theorem State.releaseUncovered_zones (s : State) (b : Nat) (o : ReleaseOutcome) (p : Surface) :
    (s.releaseUncovered b o p).zones = s.zones := by
  unfold State.releaseUncovered
  split
  case h_6 => split <;> simp
  all_goals simp

@[simp] theorem State.foldOutcome_bare (s : State) (b : Nat) (o : ReleaseOutcome) (p : Surface) :
    (s.foldOutcome b o p).bareEntries = s.bareEntries := by
  unfold State.foldOutcome
  split
  case h_2 => split <;> simp
  all_goals simp

@[simp] theorem State.releaseBed_bare (s : State) (b : Nat) (o : ReleaseOutcome) (p : Surface) :
    (s.releaseBed b o p).bareEntries = s.bareEntries := by
  unfold State.releaseBed
  split
  · split
    · split <;> simp
    · exact State.bareEntries_congr (by simp)
  · rfl

@[simp] theorem replaceBed_bare (m : Nat) (e : Claim) (a : ZoneActivity) (s : State) (b : Nat) :
    (replaceBed m e a s b).bareEntries = s.bareEntries := by
  unfold replaceBed
  dsimp only
  split
  · rfl
  · split
    · split
      · split <;> simp
      · split <;> split <;> simp
    · simp

theorem foldl_bare {α : Type} (f : State → α → State) (h : ∀ s x, (f s x).bareEntries = s.bareEntries) (l : List α)
    (s : State) : (l.foldl f s).bareEntries = s.bareEntries :=
  foldl_keeps (fun s t => t.bareEntries = s.bareEntries) (fun _ => rfl) (fun _ _ _ h1 h2 => h2.trans h1) f h l s

@[simp] theorem State.causeIfUncovered_zones (s t : State) : (s.causeIfUncovered t).zones = s.zones := by
  unfold State.causeIfUncovered
  split <;> rfl

/-! ### Claims, releases and expiries -/

theorem State.newClaim_bare (s : State) (m : Nat) (a : ZoneActivity) (f l : Nat) :
    (s.newClaim m a f l).bareEntries = s.bareEntries ++ [⟨m, a, f, l, s.osc, []⟩] := by
  unfold State.newClaim
  rw [foldl_bare _ (fun t b => t.enterRange_bare m a b)]
  simp [State.bareEntries, Claim.bare]

/-- An entry of a replaced claim, or another entry as it was (R95). -/
def replacedBare (now : Nat) (old : Claim) (a : ZoneActivity) (f l : Nat) (e : Claim) : Claim :=
  if e.machine = old.machine then ⟨old.machine, a, f, l, now, []⟩ else e

theorem State.replaceClaim_bare (s : State) (old : Claim) (a : ZoneActivity) (f l : Nat) :
    (s.replaceClaim old a f l).bareEntries = s.bareEntries.map (replacedBare s.osc old a f l) := by
  have table : ∀ new : Claim, new.bare = ⟨old.machine, a, f, l, s.osc, []⟩ →
      (s.setEntries (s.zones.entries.map (fun e => if e.machine = old.machine then new else e))).bareEntries =
        s.bareEntries.map (replacedBare s.osc old a f l) := by
    intro new hnew
    unfold State.bareEntries
    rw [State.setEntries_entries, List.map_map, List.map_map]
    refine List.map_congr_left fun e _ => ?_
    simp only [Function.comp_apply, replacedBare]
    have : e.bare.machine = e.machine := rfl
    rw [this]
    split
    · exact hnew
    · rfl
  unfold State.replaceClaim
  dsimp only
  split
  · exact table _ rfl
  · rw [State.bareEntries_congr (congrArg Zones.entries (State.causeIfUncovered_zones _ _)),
      foldl_bare _ (replaceBed_bare old.machine old a), foldl_bare _ (fun t b => t.releaseBed_bare b _ _)]
    exact table _ rfl

theorem State.removeClaim_bare (s : State) (e : Claim) (o : ReleaseOutcome) :
    (s.removeClaim e o).bareEntries = s.bareEntries.filter (fun x => x.machine != e.machine) := by
  unfold State.removeClaim State.releaseRange
  rw [foldl_bare _ (fun t b => t.releaseBed_bare b _ _)]
  unfold State.bareEntries
  rw [State.setEntries_entries, List.filter_map]
  rfl

theorem State.expireClaim_bare (s : State) (e : Claim) :
    (s.expireClaim e).bareEntries = s.bareEntries.filter (fun x => x.machine != e.machine) := by
  rw [← State.removeClaim_bare s e .expiry]
  exact State.bareEntries_congr (by simp [State.expireClaim])

theorem State.claimOf_mem {s : State} {m : Nat} {e : Claim} (h : s.claimOf m = some e) :
    e ∈ s.zones.entries ∧ e.machine = m :=
  ⟨List.mem_of_find?_eq_some h, by simpa using List.find?_some h⟩

theorem State.bare_mem {s : State} {e : Claim} (h : e ∈ s.zones.entries) : e.bare ∈ s.bareEntries := List.mem_map_of_mem h

end Sys2Proof.Machine
end

section
/-! No order in GRANTED or SPRAYING is on a claimed bed or in a mode that stops it (continued): claims, the load, and the step. -/

namespace Sys2Proof.Machine

/-! ### Claims -/

/-- An operation that leaves no claim over a bed without one keeps the law. -/
theorem Calm.runsClear_of_claims {s t : State} (hc : Calm s t) (hm : t.ctrl.mode = s.ctrl.mode)
    (hslot : t.water.slotCapacity = s.water.slotCapacity) (hflow : t.water.flowCapacity = s.water.flowCapacity)
    (hclaims : ∀ k ∈ t.runKeys, s.conf.bedDefined k.1 = true → s.claimed k.1 = false → t.claimed k.1 = false)
    (h : s.runsClear) : t.runsClear := by
  refine ⟨hc.oneOrder h.1, hc.runLaw h.2 (fun k hk => ?_) hslot.ge hflow.ge⟩
  obtain ⟨hd, hkeys, _⟩ := s.runLaw_iff.mp h.2
  have before := hc.runKeys_subset k hk
  obtain ⟨o, ho, _, rfl⟩ := mem_runKeysOf.mp before
  obtain ⟨hmode, hclear⟩ := hkeys _ before
  refine ⟨?_, hclaims _ hk (hd o ho) hclear⟩
  unfold State.modeGrants
  rw [hm]
  exact hmode

theorem State.enterRange_clears {s : State} (hn : s.oneOrderPerBed) (m : Nat) (a : ZoneActivity) (b : Nat)
    (hb : s.conf.bedDefined b = true) : ∀ k ∈ (s.enterRange m a b).runKeys, k.1 ≠ b := by
  unfold State.enterRange
  rw [if_pos hb]
  exact State.stopOrder_clears (((s.writePrior_calm ..).trans (State.applyActivity_calm ..)).oneOrder hn) b none

/-- A new claim leaves no order in GRANTED or SPRAYING on a defined bed of its range (R96). -/
theorem State.newClaim_clears {s : State} (m : Nat) (a : ZoneActivity) (f l : Nat) (hn : s.oneOrderPerBed) :
    ∀ k ∈ (s.newClaim m a f l).runKeys, s.conf.bedDefined k.1 = true → ¬(f ≤ k.1 ∧ k.1 ≤ l) := by
  intro k hk hd
  unfold State.newClaim at hk
  have outside : k.1 ∉ rangeBeds f l := foldl_clears (fun t b => t.enterRange m a b) (fun t b => t.enterRange_calm m a b)
    (fun S b => S.bedDefined b = true) _ (fun t b ht hb => State.enterRange_clears ht m a b hb)
    (s.setEntries (s.zones.entries ++ [(⟨m, a, f, l, s.osc, []⟩ : Claim)])) hn k hk hd
  rwa [mem_rangeBeds] at outside

theorem State.newClaim_runsClear {s : State} (m : Nat) (a : ZoneActivity) (f l : Nat) (h : s.runsClear) :
    (s.newClaim m a f l).runsClear := by
  have frame := s.newClaim_frame m a f l
  refine (s.newClaim_calm m a f l).runsClear_of_claims (by simp) (by simp) (by simp) (fun k hk hd hclear => ?_) h
  have outside := State.newClaim_clears m a f l h.1 k hk hd
  rw [State.claimed_eq] at hclear ⊢
  rw [State.newClaim_bare, List.any_append, hclear]
  simpa [Claim.covers] using outside

theorem replaceBed_clears {s : State} (hn : s.oneOrderPerBed) (m : Nat) (old : Claim) (a : ZoneActivity) (b : Nat)
    (hb : s.conf.bedDefined b = true ∧ old.covers b = false) : ∀ k ∈ (replaceBed m old a s b).runKeys, k.1 ≠ b := by
  unfold replaceBed
  rw [if_neg (by simp [hb.1]), if_neg (by simp [hb.2])]
  exact State.enterRange_clears hn m a b hb.1

/-- A replaced claim leaves no order in GRANTED or SPRAYING on a defined bed that its range gains (R96). -/
theorem State.replaceClaim_clears {s : State} (old : Claim) (a : ZoneActivity) (f l : Nat) (hn : s.oneOrderPerBed) :
    ∀ k ∈ (s.replaceClaim old a f l).runKeys, s.conf.bedDefined k.1 = true → old.covers k.1 = false →
      ¬(f ≤ k.1 ∧ k.1 ≤ l) := by
  intro k hk hd notOld hin
  unfold State.replaceClaim at hk
  dsimp only at hk
  split at hk
  · rename_i same
    obtain ⟨_, rfl, rfl⟩ := same
    exact absurd ((old.covers_iff k.1).mpr hin) (by simp [notOld])
  · have hk := (State.causeIfUncovered_calm _ _).runKeys_subset k hk
    set new : Claim := { old with activity := a, first := f, last := l, since := s.osc, prior := old.prior.filter (fun k => decide (f ≤ k.1 ∧ k.1 ≤ l)) } with hnew
    have dropped : Calm s ((((rangeBeds old.first old.last).filter (fun b => !new.covers b)).foldl
        (fun t b => t.releaseBed b .none (old.priorOf b))
        (s.setEntries (s.zones.entries.map (fun e => if e.machine = old.machine then new else e))))) :=
      (s.setEntries_calm _).trans (.foldl _ (fun t b => t.releaseBed_calm b _ _) _ _)
    refine foldl_clears (replaceBed old.machine old a) (replaceBed_calm old.machine old a)
      (fun S b => S.bedDefined b = true ∧ old.covers b = false) (rangeBeds f l)
      (fun t b ht hb => replaceBed_clears ht old.machine old a b hb) _ (dropped.oneOrder hn) k hk ?_
      (mem_rangeBeds.mpr hin)
    rw [dropped.conf]
    exact ⟨hd, notOld⟩

theorem State.replaceClaim_runsClear {s : State} {old : Claim} (hold : old ∈ s.zones.entries) (a : ZoneActivity) (f l : Nat)
    (h : s.runsClear) : (s.replaceClaim old a f l).runsClear := by
  refine (s.replaceClaim_calm old a f l).runsClear_of_claims (by simp) (by simp) (by simp) (fun k hk hd hclear => ?_) h
  have notOld : old.covers k.1 = false := by
    rw [State.claimed] at hclear
    simpa [Claim.covers] using List.any_eq_false.mp hclear old hold
  have outside := State.replaceClaim_clears old a f l h.1 k hk hd notOld
  rw [State.claimed_eq] at hclear ⊢
  rw [State.replaceClaim_bare, List.any_map, List.any_eq_false]
  intro e he
  rw [List.any_eq_false] at hclear
  simp only [Function.comp_apply, replacedBare]
  split
  · simpa [Claim.covers] using outside
  · exact hclear e he

theorem State.removeClaim_runsClear {s : State} (e : Claim) (o : ReleaseOutcome) (h : s.runsClear) :
    (s.removeClaim e o).runsClear := by
  refine (s.removeClaim_calm e o).runsClear_of_claims (by simp) (by simp) (by simp) (fun k _ _ hclear => ?_) h
  rw [State.claimed_eq] at hclear ⊢
  rw [State.removeClaim_bare]
  exact List.any_eq_false.mpr (fun x hx => List.any_eq_false.mp hclear x (List.mem_filter.mp hx).1)

theorem State.causeIfUncovered_runsClear {s : State} (u : State) (h : s.runsClear) : (s.causeIfUncovered u).runsClear :=
  (s.causeIfUncovered_calm u).runsClear (by simp [Quiet]) h

theorem State.expireClaim_runsClear {s : State} (e : Claim) (h : s.runsClear) : (s.expireClaim e).runsClear :=
  (State.makeClaimExpired_calm _ _).runsClear (by simp [Quiet])
    (State.causeIfUncovered_runsClear s (State.removeClaim_runsClear e .expiry h))

theorem State.zoneClaim_runsClear {s : State} (n : Node) (m : Nat) (a : Byte) (f l : Nat) (h : s.runsClear) :
    (s.zoneClaim n m a f l).runsClear := by
  unfold State.zoneClaim
  split
  · exact State.reply_runsClear _ _ _ _ h
  · split
    · exact State.reply_runsClear _ _ _ _ h
    · split
      · exact State.reply_runsClear _ _ _ _ h
      · split
        · rename_i old hold
          exact State.reply_runsClear _ _ _ _ (State.replaceClaim_runsClear (State.claimOf_mem hold).1 _ f l h)
        · split
          · exact State.reply_runsClear _ _ _ _ h
          · exact State.reply_runsClear _ _ _ _ (State.newClaim_runsClear m _ f l h)

theorem State.zoneRelease_runsClear {s : State} (n : Node) (m : Nat) (o : Byte) (h : s.runsClear) :
    (s.zoneRelease n m o).runsClear := by
  unfold State.zoneRelease
  split
  · exact State.reply_runsClear _ _ _ _ h
  · split
    · exact State.reply_runsClear _ _ _ _ h
    · split
      · exact State.reply_runsClear _ _ _ _ h
      · exact State.reply_runsClear _ _ _ _ (State.causeIfUncovered_runsClear s (State.removeClaim_runsClear _ _ h))

/-! ### The load -/

/-- Beds are defined and have one order at most, and no order is in GRANTED or SPRAYING. -/
def State.noneRuns (s : State) : Prop :=
  s.oneOrderPerBed ∧ (∀ o ∈ s.disp.orders, s.conf.bedDefined o.bed = true) ∧ s.runKeys = []

theorem Calm.noneRuns {s t : State} (hc : Calm s t) (h : s.noneRuns) : t.noneRuns :=
  ⟨hc.oneOrder h.1, hc.bedsDefined h.2.1, List.eq_nil_iff_forall_not_mem.mpr (fun k hk => by
    have := hc.runKeys_subset k hk
    rw [h.2.2] at this
    cases this)⟩

theorem State.noneRuns_of_noOrders {s : State} (h : s.disp.orders = []) : s.noneRuns := by
  unfold State.noneRuns State.oneOrderPerBed State.runKeys
  rw [h]
  exact ⟨List.nodup_nil, fun o ho => absurd ho List.not_mem_nil, rfl⟩

theorem State.noneRuns_runsClear {s : State} (h : s.noneRuns) : s.runsClear := ⟨h.1, State.runLaw_of_none h.2.1 h.2.2⟩

theorem restartBed_noneRuns (before : Settings) (s : State) (b : Nat) (h : s.noneRuns) : (restartBed before s b).noneRuns := by
  unfold restartBed
  split
  · exact (s.keepBed_calm b).noneRuns h
  · exact (s.resetBed_calm b).noneRuns h

theorem State.load_runsClear {s : State} (S : Settings) (v : Bool) (h : s.disp.orders = []) : (s.load S v).runsClear := by
  have blocks : (s.loadSettings S v).loadBlocks.noneRuns := State.noneRuns_of_noOrders (by
    rw [State.loadBlocks_orders, State.loadSettings_disp, h])
  have left := (s.loadLeft_calm S v).noneRuns blocks
  rw [State.load_eq]
  refine State.noneRuns_runsClear (((State.sweep_calm _).trans (State.cause_calm _)).noneRuns ?_)
  split
  · refine (State.restartEffects_calm _ s.conf).noneRuns ?_
    exact foldl_keeps (fun s t => s.noneRuns → t.noneRuns) (fun _ => id) (fun _ _ _ h1 h2 h => h2 (h1 h)) _
      (restartBed_noneRuns s.conf) bedNumbers _ ((State.loadGate_calm _).noneRuns left)
  · exact left

/-! ### Every command -/

/-- A request keeps the law when its owner's event does. -/
theorem State.serve_runsClear {s : State} (node : Node) (code : Nat) (data : List Byte) (owner : State → State)
    (ho : ∀ u : State, u.runsClear → (owner u).runsClear) (h : s.runsClear) : (s.serve node code data owner).runsClear := by
  have taken : s.takeRequest.runsClear :=
    Calm.runsClear (.same (by simp) (by simp) (by simp)) (by simp [Quiet]) h
  rcases s.serve_cases node code data owner with ⟨_, e⟩ | ⟨_, _, e⟩ | ⟨_, _, _, _, e⟩ | ⟨_, e⟩ <;> rw [e]
  · exact h
  · exact State.reply_runsClear _ _ _ _ taken
  · exact State.reply_runsClear _ _ _ _ taken
  · exact ho _ taken

theorem runsClear_of_next {s u t : State} (hx : (Host.Outcome.next u : Out) = .next t) (h : s.runsClear → u.runsClear) :
    s.runsClear → t.runsClear := by
  injection hx with hx
  exact hx ▸ h

theorem exec_runsClear {c : Instr} {s t : State} (hstart : s.ctrl.mode = .starting → s.disp.orders = []) (h : s.runsClear)
    (hx : exec c s = .next t) : t.runsClear := by
  cases hq : Instr.isQuiet c with
  | true =>
    cases hc : Instr.isCalm c with
    | true => exact (exec_calm hc hx).runsClear (exec_quiet hq hx) h
    | false =>
      cases c with
      | dispatchAttempt =>
        exact execDispatchAttempt_keeps State.runsClear (fun _ _ hc hf => hc.runsClear (by simp_all [Quiet, AttemptFrame]))
          (fun _ _ _ _ ho _ ha => State.grant_runsClear ho ha) hx h
      | powerOnReset => cases hq
      | externalReset => cases hq
      | load => cases hq
      | _ => cases hc
  | false =>
    cases c with
    | powerOnReset => exact runsClear_of_next hx (fun _ => State.runsClear_of_noOrders rfl) h
    | externalReset => exact runsClear_of_next hx (fun _ => State.runsClear_of_noOrders rfl) h
    | load a =>
      rcases execLoad_cases hx with rfl | ⟨S, v, hm, _, rfl⟩
      · exact h
      · exact State.load_runsClear S v (hstart hm)
    | forecastSlot n i k p f =>
      exact runsClear_of_next hx (State.serve_runsClear _ _ _ _ (fun _ => State.forecastSlot_runsClear n _ _ _ f)) h
    | weatherNow n r hu te =>
      exact runsClear_of_next hx (State.serve_runsClear _ _ _ _ (fun _ => State.weatherNow_runsClear n _ hu te)) h
    | evaluation => exact execEvaluation_runsClear hx h
    | pumpState n p f =>
      exact runsClear_of_next hx (State.serve_runsClear _ _ _ _ (fun _ => State.pumpState_runsClear n _ _)) h
    | zoneClaim n m a f l =>
      exact runsClear_of_next hx (State.serve_runsClear _ _ _ _ (fun _ => State.zoneClaim_runsClear n _ a _ _)) h
    | zoneRelease n m o =>
      exact runsClear_of_next hx (State.serve_runsClear _ _ _ _ (fun _ => State.zoneRelease_runsClear n _ o)) h
    | claimExpiry m =>
      refine runsClear_of_next hx (fun h => ?_) h
      split
      · exact State.expireClaim_runsClear _ ((s.reach_calm _).runsClear (.refl s) h)
      · exact h
    | allHold n =>
      exact runsClear_of_next hx (State.serve_runsClear _ _ _ _ (fun _ h =>
        State.reply_runsClear _ _ _ _ (State.setReasons_runsClear _ _ h))) h
    | holdRelease n =>
      refine runsClear_of_next hx (State.serve_runsClear _ _ _ _ (fun u hu => ?_)) h
      unfold State.holdRelease
      split
      · exact State.reply_runsClear _ _ _ _ (State.setReasons_runsClear _ _ hu)
      · exact State.reply_runsClear _ _ _ _ hu
    | maintEnter n =>
      exact runsClear_of_next hx (State.serve_runsClear _ _ _ _ (fun _ => State.maintEnter_runsClear n)) h
    | maintExit n =>
      exact runsClear_of_next hx (State.serve_runsClear _ _ _ _ (fun _ => State.maintExit_runsClear n)) h
    | yardSecond => exact execYardSecond_runsClear hx h
    | timeSet n d v =>
      exact runsClear_of_next hx (State.serve_runsClear _ _ _ _ (fun _ => State.timeSet_runsClear n _ _)) h
    | readBack d => exact execReadBack_runsClear hx h
    | _ => cases hq

/-- Settles O14: each part of a step keeps both the law and that no bed has two orders. -/
theorem runningOrdersKeepClear : Obligations.RunningOrdersKeepClear := by
  intro s t horder hmode hrun hx
  obtain ⟨_, _, hstart, _⟩ := hmode
  unfold step at hx
  split at hx
  · rename_i c rest _
    exact (exec_runsClear (s := { s with pending := rest }) (fun h => (hstart h).1) ⟨horder.1, hrun⟩ hx).2
  · injection hx with hx
    exact hx ▸ hrun

end Sys2Proof.Machine
end

section
/-! The reset state keeps every law, both resets return to it, three timers fall due, and the queries change nothing. -/

namespace Sys2Proof.Machine

/-! ### The reset state -/

theorem State.reset_bed_hold (b : Nat) : (State.reset.bed b).hold = none := by
  unfold State.bed nth
  split
  · rfl
  · cases h : State.reset.beds.records[b - 1]? with
    | none => rfl
    | some r =>
      have records : State.reset.beds.records = Vector.replicate 32 (Bed.initial Settings.builtIn.wInit) := rfl
      rw [records, Vector.getElem?_replicate] at h
      split at h
      · injection h with h
        exact h ▸ rfl
      · cases h

theorem State.reset_cannon (c : Nat) : State.reset.cannon c = Cannon.initial := nth_replicate 24 Cannon.initial c

theorem reset_reservedLaw : State.reset.reservedLaw := fun w => by cases w <;> decide

theorem reset_scoreLaw : State.reset.scoreLaw := fun c => by
  rw [State.reset_cannon]
  decide

theorem reset_freshLaw : State.reset.freshLaw :=
  ⟨.inr rfl, fun c h => absurd (congrArg Cannon.test (State.reset_cannon c)) h⟩

theorem reset_holdLaw : State.reset.holdLaw := fun b h hb => by
  rw [State.reset_bed_hold] at hb
  cases hb

theorem State.reset_asksNoTrim (limit hold : Nat) : ¬State.reset.asksTrim limit hold := by
  rintro (⟨c, h⟩ | h)
  · rw [State.reset_cannon] at h
    cases h
  · cases h

theorem reset_trimLaw : State.reset.trimLaw :=
  ⟨fun b h hb => (by rw [State.reset_bed_hold] at hb; cases hb),
    fun limit hold h => absurd h (State.reset_asksNoTrim limit hold), fun _ ho => absurd ho List.not_mem_nil⟩

/-- Settles O4: the reset state has no order, no claim, no hold and no held command, and its settings are the built-in ones. -/
theorem resetKeepsTheLaws : Obligations.ResetKeepsTheLaws :=
  ⟨by decide, by decide, by decide, reset_wetnessLaw, by decide, reset_scoreLaw, reset_eeprom_wf, by decide, reset_reservedLaw,
    State.runLaw_of_noOrders rfl, reset_freshLaw, by decide, fun _ ho => absurd ho List.not_mem_nil, by decide, reset_holdLaw,
    reset_cursorLaw, reset_trimLaw⟩

/-! ### The resets -/

theorem numbersFrom_length (lo n : Nat) : (numbersFrom lo n).length = n := by
  induction n generalizing lo with
  | zero => rfl
  | succ n ih => simp [numbersFrom, ih]

theorem doubtBytes_length (free a n : Nat) : (doubtBytes free a n).length = n := by
  rw [doubtBytes, List.length_map, numbersFrom_length]

theorem pageBytes_length (image : List Byte) (page : Nat) : (pageBytes image page).length ≤ 32 := by
  simp [pageBytes]

/-- A page in doubt leaves every byte outside it alone. -/
theorem State.eepromRead_abandonCommit (s : State) (a : Nat)
    (ha : ∀ m, s.store.commit = some m → a < m.page * 32 ∨ m.page * 32 + 32 ≤ a) :
    eepromRead s.abandonCommit.store.eeprom a = eepromRead s.store.eeprom a := by
  unfold State.abandonCommit
  split
  · rename_i m hm
    split
    · refine eepromRead_writeBlock_outside _ _ _ _ ?_
      rw [doubtBytes_length]
      have := pageBytes_length m.image m.page
      have := ha m hm
      omega
    · rfl
  · rfl

/-- A commit with no page in doubt is abandoned without a write. -/
theorem State.abandonCommit_idle {s : State}
    (h : ∀ m, s.store.commit = some m → m.page = 0 ∨ pageCount m.image ≤ m.page) : s.abandonCommit = s := by
  unfold State.abandonCommit
  split
  · rename_i m hm
    have := h m hm
    exact if_neg (by omega)
  · rfl

/-- Settles O21: a reset is `State.resetAs`, and only a page in doubt moves the EEPROM and the free-value counter. -/
theorem resetsReturnToTheResetState : Obligations.ResetsReturnToTheResetState := by
  intro s c k hk
  have reset : exec c s = .next (s.resetAs k) := by rcases hk with ⟨rfl, rfl⟩ | ⟨rfl, rfl⟩ <;> rfl
  refine ⟨_, reset, rfl, fun a ha => s.eepromRead_abandonCommit a ha, fun h => ?_⟩
  unfold State.resetAs
  rw [State.abandonCommit_idle h]
  exact ⟨rfl, rfl⟩

/-! ### The timers -/

/-- Settles O50: each timer's command writes the one bed or cannon. -/
theorem timersFallDue : Obligations.TimersFallDue := by
  refine fun s => ⟨fun b since h1 h2 hs => ?_, fun b hs => ?_, fun c ended h1 h2 he ha => ⟨fun hspray hheld => ?_,
    fun hpinged huse => ?_⟩, fun c hidle => ?_⟩
  · have due : exec (.settleTimerExpiry b) s = .next ((s.reach (since + s.conf.tSettle * 1000)).settle b) := by
      change execSettleTimerExpiry b s = _
      simp only [execSettleTimerExpiry, hs, ms]
    refine ⟨_, due, rfl, ?_, fun a ha => State.bed_setBed_ne _ _ ha, rfl, rfl, rfl⟩
    exact State.bed_setBed_same _ _ h1 h2
  · change execSettleTimerExpiry b s = _
    simp only [execSettleTimerExpiry, hs]
  · have due : exec (.pollDue c) s = .next ((s.reach (ended + 1000)).setCannon c { s.cannon c with pollDue := true }) := by
      change execPollDue c s = _
      simp [execPollDue, he, hspray, hheld, ha]
    exact ⟨_, due, rfl, State.cannon_setCannon_same _ _ h1 h2, fun a ha => State.cannon_setCannon_ne _ _ ha, rfl, rfl, rfl⟩
  · have pinged : (s.cannon c).activity.pinged = true := by rcases hpinged with h | h | h <;> rw [h] <;> rfl
    have due : exec (.pingDue c) s = .next ((s.reach (ended + 30000)).setCannon c { s.cannon c with pingDue := true }) := by
      change execPingDue c s = _
      simp only [execPingDue, he, pinged, huse, ha, and_self, if_true]
    exact ⟨_, due, rfl, State.cannon_setCannon_same _ _ h1 h2, fun a ha => State.cannon_setCannon_ne _ _ ha, rfl, rfl, rfl⟩
  · constructor
    · change execPollDue c s = _
      unfold execPollDue
      split <;> simp [hidle]
    · change execPingDue c s = _
      unfold execPingDue
      split <;> simp [hidle, CannonActivity.pinged]

/-! ### The queries -/

/-- The take of a request moves nothing but the port. -/
theorem State.takeRequest_port (s : State) : ∃ p, s.takeRequest = { s with port := p } := by
  unfold State.takeRequest
  split
  · exact ⟨_, rfl⟩
  · exact ⟨_, rfl⟩

theorem State.bedPart_takeRequest (s : State) (b part : Nat) : s.takeRequest.bedPart b part = s.bedPart b part := by
  obtain ⟨p, e⟩ := s.takeRequest_port
  rw [e]
  rfl

theorem State.waterPart_takeRequest (s : State) (part : Nat) : s.takeRequest.waterPart part = s.waterPart part := by
  obtain ⟨p, e⟩ := s.takeRequest_port
  rw [e]
  rfl

theorem State.cannonPart_takeRequest (s : State) (c part : Nat) : s.takeRequest.cannonPart c part = s.cannonPart c part := by
  obtain ⟨p, e⟩ := s.takeRequest_port
  rw [e]
  rfl

theorem State.statusPart_takeRequest (s : State) (part : Nat) : s.takeRequest.statusPart part = s.statusPart part := by
  obtain ⟨p, e⟩ := s.takeRequest_port
  rw [e]
  rfl

/-- The five bits of a condition byte. -/
theorem conditionByte_five (a b c d e : Bool) :
    conditionByte [a, b, c, d, e] = flagByte a + 2 * flagByte b + 4 * flagByte c + 8 * flagByte d + 16 * flagByte e := by
  simp only [conditionByte]
  omega

theorem conditionByte_four (a b c d : Bool) :
    conditionByte [a, b, c, d] = flagByte a + 2 * flagByte b + 4 * flagByte c + 8 * flagByte d := by
  simp only [conditionByte]
  omega

theorem conditionByte_two (a b : Bool) : conditionByte [a, b] = flagByte a + 2 * flagByte b := by
  simp only [conditionByte]
  omega

theorem Settings.rawList_eq (S : Settings) (b : Nat) :
    S.rawList b = [S.listAddress b 0, S.listAddress b 1, S.listAddress b 2, S.listAddress b 3] := rfl

/-- What BED_QUERY does for a taken request. -/
theorem bedQuery_ready {s : State} {node : Node} {bed part : Byte} (h : s.ready node 0x29 [bed, part]) :
    exec (.bedQuery node bed part) s = .next (s.takeRequest.bedQuery node bed.toNat part.toNat) :=
  congrArg Host.Outcome.next (State.serve_ready _ h)

theorem waterQuery_ready {s : State} {node : Node} {part : Byte} (h : s.ready node 0x2A [part]) :
    exec (.waterQuery node part) s = .next (s.takeRequest.waterQuery node part.toNat) :=
  congrArg Host.Outcome.next (State.serve_ready _ h)

theorem cannonQuery_ready {s : State} {node : Node} {cannon part : Byte} (h : s.ready node 0x2B [cannon, part]) :
    exec (.cannonQuery node cannon part) s = .next (s.takeRequest.cannonQuery node cannon.toNat part.toNat) :=
  congrArg Host.Outcome.next (State.serve_ready _ h)

theorem statusQuery_ready {s : State} {node : Node} {part : Byte} (h : s.ready node 0x28 [part]) :
    exec (.statusQuery node part) s = .next (s.takeRequest.statusQuery node part.toNat) :=
  congrArg Host.Outcome.next (State.serve_ready _ h)

theorem settingRead_ready {s : State} {node : Node} {item index : Byte} (h : s.ready node 0x31 [item, index]) :
    exec (.settingRead node item index) s = .next (s.takeRequest.settingRead node item.toNat index.toNat) :=
  congrArg Host.Outcome.next (State.serve_ready _ h)

theorem State.bedQuery_answer {s : State} {node : Node} {b part : Nat} {d : List Byte} (hd : s.conf.bedDefined b = true)
    (hp : part ≤ 5) (h : s.bedPart b part = some d) :
    s.takeRequest.bedQuery node b part = s.takeRequest.reply node 0x29 .ok d := by
  unfold State.bedQuery
  simp [hd, Nat.not_lt.mpr hp, State.bedPart_takeRequest, h]

theorem State.bedQuery_empty {s : State} {node : Node} {b part : Nat} (hd : s.conf.bedDefined b = true)
    (hp : part ≤ 5) (h : s.bedPart b part = none) :
    s.takeRequest.bedQuery node b part = s.takeRequest.reply node 0x29 .empty [] := by
  unfold State.bedQuery
  simp [hd, Nat.not_lt.mpr hp, State.bedPart_takeRequest, h]

theorem State.waterQuery_answer {s : State} {node : Node} {part : Nat} (hp : part ≤ 6) :
    s.takeRequest.waterQuery node part = s.takeRequest.reply node 0x2A .ok (s.waterPart part) := by
  unfold State.waterQuery
  rw [if_neg (by omega), State.waterPart_takeRequest]

theorem State.cannonQuery_answer {s : State} {node : Node} {c part : Nat} (h1 : 1 ≤ c) (h2 : c ≤ 24) (hp : part ≤ 2) :
    s.takeRequest.cannonQuery node c part = s.takeRequest.reply node 0x2B .ok (s.cannonPart c part) := by
  unfold State.cannonQuery
  rw [if_neg (by omega), if_neg (by omega), State.cannonPart_takeRequest]

theorem State.statusQuery_answer {s : State} {node : Node} {part : Nat} (hp : part ≤ 1) :
    s.takeRequest.statusQuery node part = s.takeRequest.reply node 0x28 .ok (s.statusPart part) := by
  unfold State.statusQuery
  rw [if_neg (by omega), State.statusPart_takeRequest]

/-- Settles O35: a query replies with its part, which the take of the request does not move. -/
theorem queriesChangeNothing : Obligations.QueriesChangeNothing := by
  refine fun s node => ⟨fun bed part h => ?_, fun part h => ?_, fun cannon part h => ?_, fun part h => ?_, fun item index h => ?_⟩
  · simp only [bedQuery_ready h, Host.Outcome.next.injEq]
    refine ⟨fun hd => ?_, fun hd => ⟨fun hp => ?_, fun hp => ?_, fun hp hr => ?_, fun e hp hr => ?_, fun hp hr => ?_,
      fun g hp hr => ?_, fun g hp hr => ?_, fun hp => ?_, fun hp => ?_⟩⟩
    · simp [State.bedQuery, hd]
    · simp [State.bedQuery, hd, hp]
    · subst hp
      refine State.bedQuery_answer hd (by decide) ?_
      rw [← conditionByte_five]
      rfl
    · subst hp
      refine State.bedQuery_answer hd (by decide) ?_
      simp [State.bedPart, State.sinceSpray, hr]
    · subst hp
      refine State.bedQuery_answer hd (by decide) ?_
      simp [State.bedPart, State.sinceSpray, hr, saturate]
    · rcases hp with rfl | rfl
      · exact State.bedQuery_empty hd (by decide) (by simp [State.bedPart, hr])
      · exact State.bedQuery_empty hd (by decide) (by simp [State.bedPart, hr])
    · subst hp
      exact State.bedQuery_answer hd (by decide) (by simp [State.bedPart, hr])
    · subst hp
      exact State.bedQuery_answer hd (by decide) (by simp [State.bedPart, hr, saturate, Hold.room])
    · subst hp
      exact State.bedQuery_answer hd (by decide) (by simp [State.bedPart])
    · subst hp
      exact State.bedQuery_answer hd (by decide) (by simp [State.bedPart, Settings.rawList_eq])
  · simp only [waterQuery_ready h, Host.Outcome.next.injEq]
    refine ⟨fun hp => by simp [State.waterQuery, hp], ?_, ?_, ?_, ?_, ?_, ?_, ?_⟩ <;>
      (rintro rfl; rw [State.waterQuery_answer (by decide)]; rfl)
  · simp only [cannonQuery_ready h, Host.Outcome.next.injEq]
    refine ⟨fun hc => ?_, fun h1 h2 => ⟨fun hp => ?_, fun hp => ?_, fun hp => ?_, fun hp => ?_⟩⟩
    · have : cannon.toNat = 0 ∨ 24 < cannon.toNat := hc.imp_left (fun h => by rw [h]; rfl)
      simp [State.cannonQuery, this]
    · have : ¬(cannon.toNat = 0 ∨ 24 < cannon.toNat) := by omega
      simp [State.cannonQuery, this, hp]
    all_goals
      subst hp
      rw [State.cannonQuery_answer h1 h2 (by decide)]
      rfl
  · simp only [statusQuery_ready h, Host.Outcome.next.injEq]
    refine ⟨fun hp => by simp [State.statusQuery, hp], fun hp => ?_, fun hp => ?_⟩
    · subst hp
      rw [State.statusQuery_answer (by decide), ← conditionByte_two, ← conditionByte_four]
      rfl
    · subst hp
      rw [State.statusQuery_answer (by decide)]
      rfl
  · simp only [settingRead_ready h, Host.Outcome.next.injEq]
    refine ⟨fun hc => ?_, fun hc hr => ?_, fun hc hr => ?_⟩
    · simp [State.settingRead, hc]
    · simp [State.settingRead, hc, hr]
    · have : (itemRange item.toNat index.toNat).isNone = false := by simpa [Option.isSome_iff_ne_none] using hr
      simp [State.settingRead, hc, this, settingBytes]

end Sys2Proof.Machine
end

section
/-! SUPPORT. Operations that tell and stop: the outbound queue only grows, and no bed changes but in its water-short flag. -/

namespace Sys2Proof.Machine

/-- A bed without its water-short flag, which the end of an order clears (R135). -/
def Bed.unshort (r : Bed) : Bed := { r with waterShort := false }

/-- The outbound queue of `t` continues that of `s`, and their beds are the same but for water-short flags. -/
structure Aside (s t : State) : Prop where
  outbound : s.port.outbound <+: t.port.outbound
  beds : ∀ b, (t.bed b).unshort = (s.bed b).unshort

theorem Aside.refl (s : State) : Aside s s := ⟨List.prefix_refl _, fun _ => rfl⟩

theorem Aside.trans {s t u : State} (h1 : Aside s t) (h2 : Aside t u) : Aside s u :=
  ⟨h1.outbound.trans h2.outbound, fun b => (h2.beds b).trans (h1.beds b)⟩

theorem Aside.same {s t : State} (ho : t.port.outbound = s.port.outbound) (hb : t.beds.records = s.beds.records) : Aside s t :=
  ⟨ho ▸ List.prefix_refl _, fun b => congrArg _ (State.bed_congr hb b)⟩

/-- An operation that keeps the beds and whose outbound queue grows. -/
theorem Aside.grows {s t : State} (ho : s.port.outbound <+: t.port.outbound) (hb : t.beds.records = s.beds.records) :
    Aside s t := ⟨ho, fun b => congrArg _ (State.bed_congr hb b)⟩

theorem Aside.foldl {α : Type} (f : State → α → State) (h : ∀ s a, Aside s (f s a)) (l : List α) (s : State) :
    Aside s (l.foldl f s) :=
  foldl_keeps Aside Aside.refl (fun _ _ _ h1 h2 => h1.trans h2) f h l s

section
variable {s t : State} (h : Aside s t) (b : Nat)
include h

theorem Aside.surface : (t.bed b).surface = (s.bed b).surface := (congrArg Bed.surface (h.beds b) :)
theorem Aside.wetness : (t.bed b).wetness = (s.bed b).wetness := (congrArg Bed.wetness (h.beds b) :)
theorem Aside.risk : (t.bed b).risk = (s.bed b).risk := (congrArg Bed.risk (h.beds b) :)
theorem Aside.band : (t.bed b).band = (s.bed b).band := (congrArg Bed.band (h.beds b) :)
theorem Aside.hold : (t.bed b).hold = (s.bed b).hold := (congrArg Bed.hold (h.beds b) :)

end

/-! ### Notices and replies -/

theorem State.join_aside (s : State) (f : Frame) : Aside s (s.join f) := .grows (List.prefix_append _ _) rfl

theorem State.reply_aside (s : State) (n : Node) (c : Nat) (r : Result) (d : List Byte) : Aside s (s.reply n c r d) :=
  s.join_aside _

theorem State.notice_aside (s : State) (k : NoticeKind) (d : List Byte) : Aside s (s.notice k d) := s.join_aside _

theorem State.cause_aside (s : State) : Aside s s.cause := .same rfl rfl

theorem State.setCannon_aside (s : State) (c : Nat) (r : Cannon) : Aside s (s.setCannon c r) := .same rfl rfl

theorem State.setSource_aside (s : State) (w : WaterSource) (r : Source) : Aside s (s.setSource w r) := .same (by simp) (by simp)

theorem State.putOrder_aside (s : State) (o : Order) : Aside s (s.putOrder o) := .same rfl rfl

theorem State.place_aside (s : State) (c : Nat) (k : LineCommand) : Aside s (s.place c k) := .same rfl rfl

theorem State.overflowIf_aside (s : State) (b : Bool) : Aside s (s.overflowIf b) := .same (by unfold State.overflowIf State.setFlag; split <;> rfl) (by simp)

theorem sendWhileRoom_aside (k : NoticeKind) (l : List (List Byte)) : ∀ s : State, Aside s (sendWhileRoom k l s).1 := by
  induction l with
  | nil => exact Aside.refl
  | cons d rest ih =>
    intro s
    unfold sendWhileRoom
    split
    · exact (s.notice_aside k d).trans (ih _)
    · exact .refl s

theorem State.flushSprayDone_aside (s : State) : Aside s s.flushSprayDone :=
  (sendWhileRoom_aside .sprayDone _ s).trans (.same rfl rfl)

theorem State.makeSprayDone_aside (s : State) (d : SprayDone) : Aside s (s.makeSprayDone d) := by
  unfold State.makeSprayDone
  split
  · exact .refl s
  · refine s.flushSprayDone_aside.trans ?_
    dsimp only
    split
    · exact State.notice_aside _ _ _
    · exact (State.overflowIf_aside _ _).trans (.same rfl rfl)

theorem State.flushClaimExpired_aside (s : State) : Aside s s.flushClaimExpired :=
  (sendWhileRoom_aside .claimExpired _ s).trans (.same rfl rfl)

theorem State.makeClaimExpired_aside (s : State) (m : Nat) : Aside s (s.makeClaimExpired m) := by
  unfold State.makeClaimExpired
  split
  · exact .refl s
  · refine s.flushClaimExpired_aside.trans ?_
    dsimp only
    split
    · exact State.notice_aside _ _ _
    · exact (State.overflowIf_aside _ _).trans (.same rfl rfl)

theorem State.flushHoldEnded_aside (s : State) : Aside s s.flushHoldEnded :=
  (sendWhileRoom_aside .holdEnded _ s).trans (.same rfl rfl)

theorem State.makeHoldEnded_aside (s : State) (h : HoldEnded) : Aside s (s.makeHoldEnded h) := by
  unfold State.makeHoldEnded
  split
  · exact .refl s
  · refine s.flushHoldEnded_aside.trans ?_
    dsimp only
    split
    · exact State.notice_aside _ _ _
    · refine (State.overflowIf_aside _ (decide (8 ≤ s.flushHoldEnded.beds.pending.length))).trans ?_
      exact .same rfl (by simp)

theorem State.flushMode_aside (s : State) : Aside s s.flushMode := by
  unfold State.flushMode
  split
  · split
    · exact .same rfl rfl
    · split
      · exact (s.notice_aside _ _).trans (.same rfl rfl)
      · exact .refl s
  · exact .refl s

theorem State.makeMode_aside (s : State) : Aside s s.makeMode := by
  unfold State.makeMode
  refine Aside.trans ?_ (State.flushMode_aside _)
  exact .same rfl rfl

theorem flushReader_aside (s : State) (c : ReaderClass) : Aside s (flushReader s c) := by
  unfold flushReader
  split
  · dsimp only
    split
    · exact .same rfl rfl
    · refine Aside.trans ?_ (State.join_aside _ _)
      exact .same rfl rfl
  · exact .refl s

theorem State.askRecord_aside (s : State) (k : RecordKind) (a v : Nat) (b : Option Band) : Aside s (s.askRecord k a v b) := by
  unfold State.askRecord
  dsimp only
  split
  · exact .refl s
  · refine Aside.trans ?_ (.foldl flushReader flushReader_aside _ _)
    refine Aside.trans ?_ (State.overflowIf_aside _ _)
    exact .same rfl rfl

theorem State.judgeForecast_aside (s : State) : Aside s s.judgeForecast := by
  unfold State.judgeForecast
  dsimp only
  split
  · refine Aside.trans ?_ (State.askRecord_aside _ _ _ _ _)
    exact .same rfl rfl
  · exact .same rfl rfl

/-! ### Ends and stops of orders -/

theorem State.endDrain_aside (s : State) (f : Bool) : Aside s (s.endDrain f) := by
  unfold State.endDrain
  split
  · refine Aside.trans ?_ (State.reply_aside _ _ _ _ _)
    exact .same rfl rfl
  · exact .same rfl rfl

theorem State.checkDrained_aside (s : State) : Aside s s.checkDrained := by
  unfold State.checkDrained
  split
  · exact s.endDrain_aside false
  · exact .refl s

theorem State.removeOrder_aside (s : State) (o : Order) (k : OrderOutcome) : Aside s (s.removeOrder o k) := by
  have cleared : Aside s (({ s with disp := { s.disp with orders := ordersWithout o.bed s.disp.orders } } : State).setBed o.bed
      { s.bed o.bed with waterShort := false }) := by
    refine ⟨List.prefix_refl _, fun b => ?_⟩
    rw [State.bed_setBed]
    split
    · rename_i h
      rw [h.1]
      rfl
    · rfl
  unfold State.removeOrder
  dsimp only
  split
  · exact cleared.trans (State.makeSprayDone_aside _ _)
  · exact cleared

theorem State.settleRefused_aside (s : State) (o : Order) : Aside s (s.settleRefused o) := by
  unfold State.settleRefused
  split
  · exact s.removeOrder_aside _ _
  · split
    · exact s.removeOrder_aside _ _
    · exact s.putOrder_aside _

theorem State.refuseStart_aside (s : State) (b : Nat) : Aside s (s.refuseStart b) := by
  unfold State.refuseStart
  split
  · exact .refl s
  · split
    · exact .refl s
    · exact ((((s.setSource_aside _ _).trans (State.setCannon_aside _ _ _)).trans (State.settleRefused_aside _ _)).trans
        (State.cause_aside _)).trans (State.checkDrained_aside _)

theorem State.refuseOn_aside (s : State) (c : Nat) : Aside s (s.refuseOn c) := by
  unfold State.refuseOn
  split
  · exact s.refuseStart_aside _
  · exact .refl s

theorem State.endTest_aside (s : State) (c d : Nat) : Aside s (s.endTest c d) := .same rfl rfl

theorem State.askStop_aside (s : State) (c : Nat) : Aside s (s.askStop c) := by
  unfold State.askStop
  split
  · exact .refl s
  · exact (s.place_aside _ _).trans (State.refuseOn_aside _ _)
  · exact (s.place_aside _ _).trans (State.endTest_aside _ _ _)
  · exact s.place_aside _ _

theorem State.stopOrder_aside (s : State) (b : Nat) (e : Option OrderOutcome) : Aside s (s.stopOrder b e) := by
  unfold State.stopOrder
  split
  · exact .refl s
  · split
    · split
      · exact (s.putOrder_aside _).trans (State.askStop_aside _ _)
      · exact s.putOrder_aside _
    · exact .refl s

theorem State.stopWhere_aside (s : State) (p : Order → Bool) : Aside s (s.stopWhere p) :=
  .foldl _ (fun t b => t.stopOrder_aside b none) _ s

/-! ### Changes of mode -/

theorem State.askAllStop_aside (s : State) : Aside s s.askAllStop := by
  unfold State.askAllStop
  split
  · exact .same rfl rfl
  · exact .refl s

theorem State.stopSprays_aside (s : State) : Aside s s.stopSprays := s.askAllStop_aside.trans (State.stopWhere_aside _ _)

theorem State.enterMode_aside (s : State) (m : Mode) : Aside s (s.enterMode m) := by
  have told : Aside s ({ s with ctrl := { s.ctrl with mode := m } } : State).makeMode := by
    refine Aside.trans ?_ (State.makeMode_aside _)
    exact .same rfl rfl
  unfold State.enterMode
  dsimp only
  split
  · exact (told.trans (State.stopSprays_aside _)).trans (State.cause_aside _)
  · exact told.trans (State.cause_aside _)

theorem State.judgeBasis_aside (s : State) : Aside s s.judgeBasis := by
  unfold State.judgeBasis
  split
  · split
    · exact s.enterMode_aside _
    · exact .refl s
  · split
    · exact .refl s
    · exact s.enterMode_aside _
  · exact .refl s

theorem State.setReasons_aside (s : State) (o f : Bool) : Aside s (s.setReasons o f) := by
  have noted : Aside s { s with ctrl := { s.ctrl with operator := o, freeze := f } } := .same rfl rfl
  unfold State.setReasons
  split
  · exact .refl s
  · dsimp only
    split
    · exact noted
    · exact noted.trans (State.makeMode_aside _)
    · split
      · exact noted.trans (State.makeMode_aside _)
      · exact noted.trans (State.enterMode_aside _ _)
    · split
      · exact noted.trans (State.enterMode_aside _ _)
      · exact noted.trans (State.makeMode_aside _)
    · split
      · exact noted.trans (State.enterMode_aside _ _)
      · exact noted.trans (State.makeMode_aside _)

theorem State.judgeFreeze_aside (s : State) : Aside s s.judgeFreeze := s.setReasons_aside _ _

/-! ### The hold reasons after a judgment -/

theorem State.enterMode_freeze (s : State) (m : Mode) : (s.enterMode m).ctrl.freeze = s.ctrl.freeze := by
  unfold State.enterMode State.cause
  dsimp only
  split
  · unfold State.stopSprays State.askAllStop
    split <;> simp
  · simp

theorem State.enterMode_operator (s : State) (m : Mode) : (s.enterMode m).ctrl.operator = s.ctrl.operator := by
  unfold State.enterMode State.cause
  dsimp only
  split
  · unfold State.stopSprays State.askAllStop
    split <;> simp
  · simp

theorem State.setReasons_freeze (s : State) (o f : Bool) : (s.setReasons o f).ctrl.freeze = f := by
  unfold State.setReasons
  split
  · rename_i h
    exact h.2.symm
  · dsimp only
    split <;> (try split) <;> simp [State.enterMode_freeze]

theorem State.judgeFreeze_freeze (s : State) :
    s.judgeFreeze.ctrl.freeze = freezeAt s.conf.tFreeze s.currentTemperature s.ctrl.freeze := s.setReasons_freeze _ _

/-- A judgment that leaves the reasons changes nothing. -/
theorem State.judgeFreeze_still {s : State}
    (h : freezeAt s.conf.tFreeze s.currentTemperature s.ctrl.freeze = s.ctrl.freeze) : s.judgeFreeze = s := by
  unfold State.judgeFreeze State.setReasons
  exact if_pos ⟨rfl, h⟩

end Sys2Proof.Machine
end

section
/-! The current weather (R15, R51, R180). -/

namespace Sys2Proof.Machine

/-! ### Fields -/

theorem field8_absent {v : Byte} (h : v = 255#8) : field8 v = none := if_pos h

theorem field8_present {v : Byte} (h : v ≠ 255#8) : field8 v = some v.toNat := if_neg h

theorem fieldTemperature_absent {v : Byte} (h : v = 128#8) : fieldTemperature v = none := if_pos h

theorem fieldTemperature_present {v : Byte} (h : v ≠ 128#8) : fieldTemperature v = some v.toInt := if_neg h

theorem clampInt_eq {lo hi : Int} (h : lo ≤ hi) (v : Int) : clampInt lo hi v = max lo (min hi v) := by
  unfold clampInt
  split
  · omega
  · split
    · omega
    · omega

theorem field16_getD (n : Nat) : (field16 n).getD 0 = if n = 65535 then 0 else n := by
  unfold field16
  split
  · rfl
  · rfl

/-- A reading is clamped when it is present and out of its range. -/
theorem weather_clamped (humidity temperature : Byte) :
    (clampField 100 (field8 humidity) != field8 humidity ||
      clampTemperature (fieldTemperature temperature) != fieldTemperature temperature) =
    decide ((100 < humidity.toNat ∧ humidity ≠ 255#8) ∨
      (temperature ≠ 128#8 ∧ (temperature.toInt < -40 ∨ 60 < temperature.toInt))) := by
  have wet : (clampField 100 (field8 humidity) != field8 humidity) = decide (100 < humidity.toNat ∧ humidity ≠ 255#8) := by
    by_cases h : humidity = 255#8
    · rw [field8_absent h]
      simp [clampField, h]
    · simp only [field8_present h, clampField, Option.map_some, bne, Option.some_beq_some]
      simp only [h, ne_eq, not_false_eq_true, and_true]
      by_cases big : 100 < humidity.toNat
      · simp [big, Nat.min_eq_left big.le]
        omega
      · simp [big, Nat.min_eq_right (Nat.not_lt.mp big)]
  have warm : (clampTemperature (fieldTemperature temperature) != fieldTemperature temperature) =
      decide (temperature ≠ 128#8 ∧ (temperature.toInt < -40 ∨ 60 < temperature.toInt)) := by
    by_cases h : temperature = 128#8
    · rw [fieldTemperature_absent h]
      simp [clampTemperature, h]
    · simp only [fieldTemperature_present h, clampTemperature, Option.map_some, bne, Option.some_beq_some]
      simp only [h, ne_eq, not_false_eq_true, true_and]
      unfold clampInt
      by_cases low : temperature.toInt < -40
      · simp [low]
        omega
      · by_cases high : 60 < temperature.toInt
        · simp [low, high]
          omega
        · simp [low, high]
  rw [wet, warm, Bool.decide_or]

/-! ### Rain -/

theorem rainOn_only_beds (rain : Nat) (s : State) (b : Nat) : rainOn rain s b = { s with beds := (rainOn rain s b).beds } := by
  unfold rainOn State.setBed
  split <;> rfl

/-- Rain moves nothing but the beds. -/
theorem rain_beds (rain : Nat) (l : List Nat) (s : State) :
    l.foldl (rainOn rain) s = { s with beds := (l.foldl (rainOn rain) s).beds } :=
  foldl_keeps (fun s t => t = { s with beds := t.beds }) (fun _ => rfl) (fun s t u h1 h2 => by rw [h2, h1]) _
    (rainOn_only_beds rain) l s

/-- What rain makes of a bed (R15). -/
def Bed.rained (S : Settings) (rain b : Nat) (r : Bed) : Bed :=
  if S.bedDefined b = true ∧ r.surface ≠ .empty then
    { r with wetness := min 1000 (r.wetness + rain * 10000 / S.saturation) }
  else r

theorem rainOn_bed (rain : Nat) (s : State) {b : Nat} (h1 : 1 ≤ b) (h2 : b ≤ 32) :
    (rainOn rain s b).bed b = (s.bed b).rained s.conf rain b := by
  unfold rainOn Bed.rained
  split
  · exact State.bed_setBed_same _ _ h1 h2
  · rfl

theorem rainOn_bed_ne (rain : Nat) (s : State) {a b : Nat} (h : b ≠ a) : (rainOn rain s a).bed b = s.bed b := by
  unfold rainOn
  split
  · exact State.bed_setBed_ne _ _ h
  · rfl

theorem rain_bed (rain : Nat) (s : State) {b : Nat} (h1 : 1 ≤ b) (h2 : b ≤ 32) :
    (bedNumbers.foldl (rainOn rain) s).bed b = (s.bed b).rained s.conf rain b := by
  obtain ⟨u, hu, before, after⟩ := foldl_view_of_mem State.bed (rainOn rain) (fun u => u.conf = s.conf)
    (fun u a hu => by rw [rainOn_only_beds]; exact hu) (fun u a b _ hne => rainOn_bed_ne rain u hne) bedNumbers
    nodup_bedNumbers s rfl b ((mem_bedNumbers b).mpr ⟨h1, h2⟩)
  rw [after, rainOn_bed rain u h1 h2, hu, before]

/-! ### The owner's event -/

theorem State.currentTemperature_now {s : State} {t : Int} (h : s.forecast.temperature = some (t, s.osc)) :
    s.currentTemperature = some t := by
  unfold State.currentTemperature State.recent
  simp [h]

/-- The state in which WEATHER_NOW judges FREEZE (R15, R51). -/
def State.rainedOn (s : State) (rain : Nat) (humidity temperature : Byte) : State :=
  bedNumbers.foldl (rainOn ((field16 rain).getD 0))
    (s.noteWeather (clampField 100 (field8 humidity)) (clampTemperature (fieldTemperature temperature)))

/-- The state in which WEATHER_NOW replies. -/
def State.weathered (s : State) (rain : Nat) (humidity temperature : Byte) : State :=
  if (fieldTemperature temperature).isSome then (s.rainedOn rain humidity temperature).judgeFreeze
  else s.rainedOn rain humidity temperature

theorem State.rainedOn_eq (s : State) (rain : Nat) (humidity temperature : Byte) :
    s.rainedOn rain humidity temperature = { s with
      forecast := { s.forecast with
        humidity := noteReading s.osc (clampField 100 (field8 humidity)) s.forecast.humidity
        temperature := noteReading s.osc (clampTemperature (fieldTemperature temperature)) s.forecast.temperature }
      beds := (s.rainedOn rain humidity temperature).beds } := rain_beds _ _ _

theorem State.weathered_aside (s : State) (rain : Nat) (humidity temperature : Byte) :
    Aside (s.rainedOn rain humidity temperature) (s.weathered rain humidity temperature) := by
  unfold State.weathered
  split
  · exact State.judgeFreeze_aside _
  · exact .refl _

theorem State.weathered_frame (s : State) (rain : Nat) (humidity temperature : Byte) :
    ModeFrame (s.rainedOn rain humidity temperature) (s.weathered rain humidity temperature) := by
  unfold State.weathered
  split
  · exact State.judgeFreeze_frame _
  · simp [ModeFrame]

theorem weatherNow_ready {s : State} {node : Node} {rain : BitVec 16} {humidity temperature : Byte}
    (h : s.ready node 0x21 (be16 rain.toNat ++ [humidity, temperature])) :
    exec (.weatherNow node rain humidity temperature) s =
      .next ((s.takeRequest.weathered rain.toNat humidity temperature).reply node 0x21
        (if (100 < humidity.toNat ∧ humidity ≠ 255#8) ∨
          (temperature ≠ 128#8 ∧ (temperature.toInt < -40 ∨ 60 < temperature.toInt)) then .clamped else .ok) []) := by
  have served : exec (.weatherNow node rain humidity temperature) s =
      .next (s.takeRequest.weatherNow node rain.toNat humidity temperature) :=
    congrArg Host.Outcome.next (State.serve_ready _ h)
  rw [served]
  unfold State.weatherNow okOrClamped
  dsimp only
  rw [weather_clamped]
  simp only [decide_eq_true_eq]
  rfl

/-- The weather-now record after the event (R51). -/
theorem State.weathered_forecast (s : State) (rain : Nat) (humidity temperature : Byte) :
    (s.weathered rain humidity temperature).forecast = { s.forecast with
      humidity := noteReading s.osc (clampField 100 (field8 humidity)) s.forecast.humidity
      temperature := noteReading s.osc (clampTemperature (fieldTemperature temperature)) s.forecast.temperature } := by
  have frame := s.weathered_frame rain humidity temperature
  have kept : (s.weathered rain humidity temperature).forecast = (s.rainedOn rain humidity temperature).forecast := by
    simp_all [ModeFrame]
  rw [kept, s.rainedOn_eq]

theorem State.weathered_kept (s : State) (rain : Nat) (humidity temperature : Byte) :
    (s.weathered rain humidity temperature).meas = s.meas ∧ (s.weathered rain humidity temperature).zones = s.zones ∧
      (s.weathered rain humidity temperature).conf = s.conf ∧ (s.weathered rain humidity temperature).osc = s.osc ∧
      (s.weathered rain humidity temperature).port.urgent = s.port.urgent ∧
      (s.weathered rain humidity temperature).port.routine = s.port.routine := by
  have frame := s.weathered_frame rain humidity temperature
  rw [s.rainedOn_eq] at frame
  obtain ⟨osc, conf, _, urgent, routine, _, _, meas, _, _, _, _, _, _, _, _, _, _, _, zones, _⟩ := frame
  exact ⟨meas, zones, conf, osc, urgent, routine⟩

theorem State.weathered_outbound (s : State) (rain : Nat) (humidity temperature : Byte) :
    s.port.outbound <+: (s.weathered rain humidity temperature).port.outbound := by
  have grown := (s.weathered_aside rain humidity temperature).outbound
  rw [s.rainedOn_eq] at grown
  exact grown

/-- Without a temperature nothing judges FREEZE. -/
theorem State.weathered_ctrl (s : State) (rain : Nat) (humidity : Byte) {temperature : Byte} (h : temperature = 128#8) :
    (s.weathered rain humidity temperature).ctrl = s.ctrl := by
  unfold State.weathered
  rw [if_neg (by simp [fieldTemperature_absent h]), s.rainedOn_eq]

/-- A temperature judges FREEZE as itself (R52, R180). -/
theorem State.weathered_freeze (s : State) (rain : Nat) (humidity : Byte) {temperature : Byte} (h : temperature ≠ 128#8) :
    (s.weathered rain humidity temperature).ctrl.freeze =
      freezeAt s.conf.tFreeze (some (max (-40) (min 60 temperature.toInt))) s.ctrl.freeze := by
  unfold State.weathered
  rw [if_pos (by simp [fieldTemperature_present h]), State.judgeFreeze_freeze, State.currentTemperature_now
    (t := max (-40) (min 60 temperature.toInt)) ?_, s.rainedOn_eq]
  rw [s.rainedOn_eq]
  simp [fieldTemperature_present h, clampTemperature, clampInt_eq, noteReading]

theorem freezeAt_cold {limit t : Int} (before : Bool) (h : t ≤ limit) : freezeAt limit (some t) before = true := if_pos h

theorem freezeAt_warm {limit t : Int} (before : Bool) (h : limit + 2 ≤ t) : freezeAt limit (some t) before = false := by
  simp only [freezeAt]
  rw [if_neg (by omega), if_pos h]

theorem freezeAt_between {limit t : Int} (before : Bool) (h : t = limit + 1) : freezeAt limit (some t) before = before := by
  simp only [freezeAt]
  rw [if_neg (by omega), if_neg (by omega)]

theorem State.rainedOn_bed (s : State) (rain : Nat) (humidity temperature : Byte) {b : Nat} (h1 : 1 ≤ b) (h2 : b ≤ 32) :
    (s.rainedOn rain humidity temperature).bed b = (s.bed b).rained s.conf (if rain = 65535 then 0 else rain) b := by
  unfold State.rainedOn
  rw [rain_bed _ _ h1 h2, field16_getD]
  rfl

/-- A reply after notices answers a request. -/
theorem State.answers_of_reply {s t : State} {node : Node} {code : Nat} {r : Result} {data : List Byte}
    (hu : t.port.urgent = s.takeRequest.port.urgent) (hr : t.port.routine = s.takeRequest.port.routine)
    (ho : s.takeRequest.port.outbound <+: t.port.outbound) : s.answers (t.reply node code r data) node code r data := by
  obtain ⟨notices, e⟩ := ho
  refine ⟨by simp [hu], by simp [hr], notices, ?_⟩
  have outbound : s.takeRequest.port.outbound = s.port.outbound := by simp
  rw [← outbound, e]
  rfl

/-- Settles O28: rain moves wetness alone, and FREEZE is judged by the temperature just noted. -/
theorem weatherReports : Obligations.WeatherReports := by
  intro s node rain humidity temperature ready
  set u := s.takeRequest with hu
  set w := u.weathered rain.toNat humidity temperature with hw
  obtain ⟨hmeas, hzones, hconf, hosc, hurgent, hroutine⟩ := u.weathered_kept rain.toNat humidity temperature
  have forecast := u.weathered_forecast rain.toNat humidity temperature
  have aside := u.weathered_aside rain.toNat humidity temperature
  have uconf : u.conf = s.conf := by simp [hu]
  have uosc : u.osc = s.osc := by simp [hu]
  have ufore : u.forecast = s.forecast := by simp [hu]
  have uctrl : u.ctrl = s.ctrl := by simp [hu]
  rw [← hw] at hmeas hzones hconf hosc hurgent hroutine forecast aside
  refine ⟨_, weatherNow_ready ready, fun h => ?_, fun h => ?_, fun h => ⟨?_, ?_⟩, fun h => ⟨?_, ?_⟩, fun b h1 h2 => ?_,
    State.answers_of_reply hurgent hroutine (u.weathered_outbound _ _ _), ?_, ?_, ?_, ?_, ?_, ?_⟩
  all_goals rw [← hu, ← hw]
  · simp [forecast, field8_absent h, clampField, noteReading, ufore]
  · simp [forecast, field8_present h, clampField, noteReading, uosc]
  · simp [forecast, fieldTemperature_absent h, clampTemperature, noteReading, ufore]
  · have := u.weathered_ctrl rain.toNat humidity h
    rw [← hw] at this
    simp [this, uctrl]
  · simp [forecast, fieldTemperature_present h, clampTemperature, clampInt_eq, noteReading, uosc]
  · have judged := u.weathered_freeze rain.toNat humidity h
    rw [← hw, uconf, uctrl] at judged
    simp only [State.reply_ctrl, judged]
    exact ⟨fun h => freezeAt_cold _ h, fun h => freezeAt_warm _ h, fun h => freezeAt_between _ h⟩
  · have bed : ∀ r n c d, (w.reply node n c d).bed r = w.bed r := fun _ _ _ _ => rfl
    have ubed : u.bed b = s.bed b := by simp [hu]
    have rained := u.rainedOn_bed rain.toNat humidity temperature h1 h2
    rw [uconf, ubed] at rained
    simp only [bed, aside.wetness, aside.surface, aside.risk, aside.band, rained, Bed.rained]
    refine ⟨fun hd he => ?_, fun h => ?_, ?_, ?_, ?_⟩
    · simp [hd, he]
    · rw [if_neg (by rintro ⟨hd, he⟩; rcases h with h | h <;> simp_all)]
    all_goals split <;> rfl
  · simp [forecast, ufore]
  · simp [forecast, ufore]
  · simp [hmeas, hu]
  · simp [hzones, hu]
  · simp [hconf, hu]
  · simp [hosc, hu]

end Sys2Proof.Machine
end

section
/-! The end of an acknowledged start by an IDLE reply within the limit (R16, R74, R108, R130). -/

namespace Sys2Proof.Machine

/-! ### The order of a bed after a write -/

theorem find_insertOrder_other {p : Order → Bool} {o : Order} (h : p o = false) (l : List Order) :
    (insertOrder o l).find? p = l.find? p := by
  induction l with
  | nil => simp [insertOrder, h]
  | cons x rest ih =>
    unfold insertOrder
    split
    · simp [h]
    · simp only [List.find?_cons, ih]

theorem find_ordersWithout_other {a b : Nat} (h : a ≠ b) (l : List Order) :
    (ordersWithout b l).find? (fun o => o.bed == a) = l.find? (fun o => o.bed == a) := by
  rw [ordersWithout, List.find?_filter]
  congr 1
  funext o
  by_cases e : o.bed = a
  · simp [e, h]
  · simp [e]

theorem find_ordersWithout_same (b : Nat) (l : List Order) : (ordersWithout b l).find? (fun o => o.bed == b) = none := by
  rw [List.find?_eq_none]
  intro o ho
  simpa using (mem_ordersWithout.mp ho).2

theorem State.order_putOrder_ne (s : State) {o : Order} {a : Nat} (h : a ≠ o.bed) : (s.putOrder o).order a = s.order a := by
  unfold State.order
  rw [State.putOrder_orders, find_insertOrder_other (by simpa using Ne.symm h), find_ordersWithout_other h]

theorem State.order_putOrder_same (s : State) (o : Order) : (s.putOrder o).order o.bed = some o := by
  cases h : (s.putOrder o).order o.bed with
  | none => simpa using List.find?_eq_none.mp h o (State.mem_putOrder.mpr (.inl rfl))
  | some q =>
    obtain ⟨hq, hb⟩ := State.order_mem h
    rcases State.mem_putOrder.mp hq with rfl | ⟨_, hne⟩
    · rfl
    · exact absurd hb hne

theorem State.removeOrder_orders (s : State) (o : Order) (k : OrderOutcome) :
    (s.removeOrder o k).disp.orders = ordersWithout o.bed s.disp.orders := by
  unfold State.removeOrder
  dsimp only
  split
  · simp
  · rfl

theorem State.order_removeOrder_same (s : State) (o : Order) (k : OrderOutcome) : (s.removeOrder o k).order o.bed = none := by
  unfold State.order
  rw [State.removeOrder_orders, find_ordersWithout_same]

theorem State.order_removeOrder_ne (s : State) {o : Order} (k : OrderOutcome) {a : Nat} (h : a ≠ o.bed) :
    (s.removeOrder o k).order a = s.order a := by
  unfold State.order
  rw [State.removeOrder_orders, find_ordersWithout_other h]

theorem State.order_congr {s t : State} (h : t.disp.orders = s.disp.orders) (b : Nat) : t.order b = s.order b := by
  unfold State.order
  rw [h]

theorem State.startOn_congr {s t : State} (h : t.disp.orders = s.disp.orders) (c : Nat) : t.startOn c = s.startOn c := by
  unfold State.startOn
  rw [h]

theorem State.bed_removeOrder_ne (s : State) {o : Order} (k : OrderOutcome) {a : Nat} (h : a ≠ o.bed) :
    (s.removeOrder o k).bed a = s.bed a := by
  unfold State.removeOrder
  dsimp only
  split
  · rw [State.bed_congr (s := ({ s with disp := { s.disp with orders := ordersWithout o.bed s.disp.orders } } : State).setBed
      o.bed { s.bed o.bed with waterShort := false }) (by simp)]
    exact State.bed_setBed_ne _ _ h
  · exact State.bed_setBed_ne _ _ h

/-! ### The bed charged -/

theorem State.judgeAtRisk_bed (s : State) {b : Nat} (h1 : 1 ≤ b) (h2 : b ≤ 32) :
    ∃ x, (s.judgeAtRisk b).bed b = { s.bed b with cappedAtRisk := x } := by
  unfold State.judgeAtRisk
  dsimp only
  split
  · split
    · exact ⟨_, rfl⟩
    · refine ⟨true, ?_⟩
      rw [State.bed_congr (s := s.setBed b { s.bed b with cappedAtRisk := true }) (by simp)]
      exact State.bed_setBed_same _ _ h1 h2
  · exact ⟨false, State.bed_setBed_same _ _ h1 h2⟩

theorem State.judgeAtRisk_bed_ne (s : State) {a b : Nat} (h : a ≠ b) : (s.judgeAtRisk b).bed a = s.bed a := by
  unfold State.judgeAtRisk
  dsimp only
  split
  · split
    · rfl
    · rw [State.bed_congr (s := s.setBed b { s.bed b with cappedAtRisk := true }) (by simp)]
      exact State.bed_setBed_ne _ _ h
  · exact State.bed_setBed_ne _ _ h

/-- A hold whose tally has risen (R108). -/
def Hold.risen (h : Hold) (n : Nat) : Hold := { h with tally := h.tally + n }

theorem State.chargeTally_bed (s : State) {b : Nat} (n : Nat) (h1 : 1 ≤ b) (h2 : b ≤ 32) :
    ∃ x, (s.chargeTally b n).bed b =
      { s.bed b with hold := (s.bed b).hold.map (Hold.risen · n), cappedAtRisk := x } := by
  unfold State.chargeTally
  split
  · rename_i h hb
    obtain ⟨x, e⟩ := State.judgeAtRisk_bed (s.setBed b { s.bed b with hold := some { h with tally := h.tally + n } }) h1 h2
    refine ⟨x, ?_⟩
    rw [e, State.bed_setBed_same _ _ h1 h2, hb]
    rfl
  · rename_i hb
    exact ⟨(s.bed b).cappedAtRisk, by rw [hb]; cases h : s.bed b; simp_all⟩

theorem State.chargeTally_bed_ne (s : State) {a b : Nat} (n : Nat) (h : a ≠ b) : (s.chargeTally b n).bed a = s.bed a := by
  unfold State.chargeTally
  split
  · rw [State.judgeAtRisk_bed_ne _ h]
    exact State.bed_setBed_ne _ _ h
  · rfl

/-- A bed with a delivered volume charged to it (R16). -/
def Bed.charged (S : Settings) (osc b d : Nat) (r : Bed) : Bed :=
  let w := if r.surface = .empty then r.wetness else min 1000 (r.wetness + d * 1000 / (S.area b * S.saturation))
  let settles := decide (r.surface = .fresh ∧ S.wCrust ≤ w)
  { r with wetness := w, surface := if settles then .settled else r.surface,
           settleSince := if settles then none else r.settleSince, lastSprayEnd := some osc }

theorem State.chargeBed_bed (s : State) {b : Nat} (d : Nat) (h1 : 1 ≤ b) (h2 : b ≤ 32) :
    (s.chargeBed b d).bed b = (s.bed b).charged s.conf s.osc b d := State.bed_setBed_same _ _ h1 h2

/-! ### The end of a start -/

/-- The charges of a start's end (R74, R16, R108), and the cannon free. -/
def State.chargeStart (s : State) (b : Nat) (o : Order) (st : Start) (d : Nat) : State :=
  let s1 := (((s.chargeSource st.source st.volume d).chargeBed b d).chargeTally b (st.counted d)).freeCannon st.cannon
  if deliveredOpen o.delivered d then { s1 with freeCount := s1.freeCount + 1 } else s1

/-- An order whose start has ended with a delivered volume (R112, R130). -/
def Order.afterStart (o : Order) (total d : Nat) : Order :=
  { o with remaining := o.remaining - d, start := none, delivered := total }

theorem State.endStart_eq {s : State} {b d : Nat} {o : Order} {st : Start} (ho : s.order b = some o) (hs : o.start = some st) :
    s.endStart b d = (((s.chargeStart b o st d).settleEnded (o.afterStart (deliveredSum s.freeCount o.delivered d) d)).cause).checkDrained := by
  unfold State.endStart State.chargeStart
  rw [ho]
  dsimp only
  rw [hs]
  rfl

section
variable (s : State) (b : Nat) (o : Order) (st : Start) (d : Nat)

theorem State.chargeStart_beds : (s.chargeStart b o st d).beds =
    (((s.chargeSource st.source st.volume d).chargeBed b d).chargeTally b (st.counted d)).beds := by
  unfold State.chargeStart
  dsimp only
  split <;> rfl

theorem State.chargeStart_water : (s.chargeStart b o st d).water = (s.chargeSource st.source st.volume d).water := by
  have tally : ∀ u : State, (u.chargeTally b (st.counted d)).water = u.water := by
    intro u
    unfold State.chargeTally
    split <;> simp
  unfold State.chargeStart
  dsimp only
  split
  · exact tally _
  · exact tally _

theorem State.chargeStart_conf : (s.chargeStart b o st d).conf = s.conf := by
  unfold State.chargeStart
  dsimp only
  split <;> simp

theorem State.chargeStart_osc : (s.chargeStart b o st d).osc = s.osc := by
  unfold State.chargeStart
  dsimp only
  split <;> simp

theorem State.chargeStart_orders : (s.chargeStart b o st d).disp.orders = s.disp.orders := by
  have tally : ∀ u : State, (u.chargeTally b (st.counted d)).disp = u.disp := by
    intro u
    exact u.chargeTally_disp b _
  unfold State.chargeStart
  dsimp only
  split
  · exact congrArg Dispatcher.orders ((tally _).trans (s.chargeSource_disp _ _ _))
  · exact congrArg Dispatcher.orders ((tally _).trans (s.chargeSource_disp _ _ _))

theorem State.chargeStart_bed (h1 : 1 ≤ b) (h2 : b ≤ 32) : ∃ x, (s.chargeStart b o st d).bed b =
    { (s.bed b).charged s.conf s.osc b d with
      hold := (s.bed b).hold.map (Hold.risen · (st.counted d)), cappedAtRisk := x } := by
  obtain ⟨x, e⟩ := ((s.chargeSource st.source st.volume d).chargeBed b d).chargeTally_bed (st.counted d) h1 h2
  refine ⟨x, ?_⟩
  rw [State.bed_congr (congrArg BedTable.records (s.chargeStart_beds b o st d)), e, State.chargeBed_bed _ d h1 h2,
    State.bed_congr (congrArg BedTable.records (s.chargeSource_beds _ _ _))]
  simp
  rfl

theorem State.chargeStart_bed_ne {a : Nat} (h : a ≠ b) : (s.chargeStart b o st d).bed a = s.bed a := by
  rw [State.bed_congr (congrArg BedTable.records (s.chargeStart_beds b o st d)), State.chargeTally_bed_ne _ _ h,
    State.chargeBed, State.bed_setBed_ne _ _ h, State.bed_congr (congrArg BedTable.records (s.chargeSource_beds _ _ _))]

theorem State.settleEnded_aside (q : Order) : Aside s (s.settleEnded q) := by
  unfold State.settleEnded
  split
  · exact s.removeOrder_aside _ _
  · split
    · exact s.removeOrder_aside _ _
    · exact s.putOrder_aside _

theorem State.settleEnded_bed_ne {q : Order} {a : Nat} (h : a ≠ q.bed) : (s.settleEnded q).bed a = s.bed a := by
  unfold State.settleEnded
  split
  · exact s.bed_removeOrder_ne _ h
  · split
    · exact s.bed_removeOrder_ne _ h
    · rfl

theorem State.settleEnded_water (q : Order) : (s.settleEnded q).water = s.water := by
  unfold State.settleEnded
  split
  · simp
  · split
    · simp
    · rfl

/-- What becomes of the order, as R130 says. -/
theorem State.settleEnded_order (q : Order) : (s.settleEnded q).order q.bed =
    if q.ending.isSome = true ∨ q.remaining < s.conf.vMin then none
    else some { q with state := .waiting, blocked := none, waitStart := s.osc } := by
  unfold State.settleEnded
  split
  · rename_i e he
    rw [he]
    simp [State.order_removeOrder_same]
  · rename_i he
    split
    · rename_i hv
      simp [State.order_removeOrder_same, hv]
    · rename_i hv
      rw [if_neg (by simp [he, hv])]
      exact State.order_putOrder_same s { q with state := .waiting, blocked := none, waitStart := s.osc }

end

/-! ### Operations on cannons and marks -/

/-- What the operations on cannons, their marks and their notices leave alone. -/
abbrev Cannonwise (s t : State) : Prop :=
  t.beds = s.beds ∧ t.water = s.water ∧ t.disp.orders = s.disp.orders ∧ t.line.transaction = s.line.transaction ∧
    t.conf = s.conf ∧ t.osc = s.osc ∧ t.freeCount = s.freeCount ∧ (s.disp.attempt = true → t.disp.attempt = true)

theorem State.setActivity_cannonwise (s : State) (c : Nat) (a : CannonActivity) : Cannonwise s (s.setActivity c a) := by
  unfold State.setActivity
  dsimp only
  split
  · exact ⟨rfl, rfl, rfl, rfl, rfl, rfl, rfl, fun _ => rfl⟩
  · exact ⟨rfl, rfl, rfl, rfl, rfl, rfl, rfl, id⟩

theorem State.showActivity_cannonwise (s : State) (c : Nat) (a : CannonActivity) : Cannonwise s (s.showActivity c a) := by
  unfold State.showActivity
  split
  · exact ⟨rfl, rfl, rfl, rfl, rfl, rfl, rfl, id⟩
  · exact s.setActivity_cannonwise c a

theorem State.goodTransaction_cannonwise (s : State) (c : Nat) : Cannonwise s (s.goodTransaction c) := by
  unfold State.goodTransaction
  dsimp only
  split
  · exact ⟨rfl, rfl, rfl, rfl, rfl, rfl, rfl, id⟩
  · exact ⟨rfl, rfl, rfl, rfl, rfl, rfl, rfl, id⟩

theorem State.flushCannons_cannonwise (s : State) : Cannonwise s s.flushCannons := by
  simp [Cannonwise]

/-! ### Tests -/

/-- No cannon's test begins or ends. -/
def State.sameTests (s t : State) : Prop := ∀ c, (t.cannon c).test = (s.cannon c).test

theorem State.sameTests_trans {s t u : State} (h1 : s.sameTests t) (h2 : t.sameTests u) : s.sameTests u :=
  fun c => (h2 c).trans (h1 c)

theorem State.sameTests_of_cannons {s t : State} (h : t.line.cannons = s.line.cannons) : s.sameTests t :=
  fun c => congrArg Cannon.test (State.cannon_congr h c)

theorem State.setCannon_sameTests (s : State) {c : Nat} {r : Cannon} (h : r.test = (s.cannon c).test) :
    s.sameTests (s.setCannon c r) := by
  intro a
  rw [State.cannon_setCannon]
  split
  · rename_i e
    rw [e.1, h]
  · rfl

theorem State.goodTransaction_sameTests (s : State) (c : Nat) : s.sameTests (s.goodTransaction c) := by
  unfold State.goodTransaction
  dsimp only
  split
  · exact fun _ => rfl
  · exact s.setCannon_sameTests rfl

theorem State.showActivity_sameTests (s : State) (c : Nat) (a : CannonActivity) : s.sameTests (s.showActivity c a) := by
  unfold State.showActivity State.setActivity
  dsimp only
  split
  · exact fun _ => rfl
  · split
    · exact s.setCannon_sameTests rfl
    · exact s.setCannon_sameTests rfl

theorem State.endTransaction_sameTests (s : State) (x : Transaction) : s.sameTests (s.endTransaction x) :=
  State.setCannon_sameTests _ rfl

theorem State.freeCannon_sameTests (s : State) (c : Nat) : s.sameTests (s.freeCannon c) := s.setCannon_sameTests rfl

theorem State.settleEnded_line (s : State) (q : Order) : (s.settleEnded q).line = s.line := by
  unfold State.settleEnded
  split
  · simp
  · split
    · simp
    · rfl

theorem State.chargeStart_line (s : State) (b : Nat) (o : Order) (st : Start) (d : Nat) :
    ∃ u : State, u.line = s.line ∧ (s.chargeStart b o st d).line = (u.freeCannon st.cannon).line := by
  refine ⟨((s.chargeSource st.source st.volume d).chargeBed b d).chargeTally b (st.counted d), ?_, ?_⟩
  · have charged : (s.chargeSource st.source st.volume d).line = s.line := by cases st.source <;> rfl
    unfold State.chargeTally
    split
    · have judged : ∀ (v : State) (r : Bed), ((v.setBed b r).judgeAtRisk b).line = v.line := fun v r => by simp
      rw [judged]
      exact charged
    · exact charged
  · unfold State.chargeStart
    dsimp only
    split <;> rfl

theorem State.endStart_sameTests {s : State} {b d : Nat} {o : Order} {st : Start} (ho : s.order b = some o)
    (hs : o.start = some st) : s.sameTests (s.endStart b d) := by
  obtain ⟨u, hu, charged⟩ := s.chargeStart_line b o st d
  rw [State.endStart_eq ho hs]
  have freed : s.sameTests (s.chargeStart b o st d) :=
    State.sameTests_trans (State.sameTests_of_cannons (congrArg Line.cannons hu))
      (State.sameTests_trans (u.freeCannon_sameTests st.cannon) (State.sameTests_of_cannons (congrArg Line.cannons charged)))
  refine State.sameTests_trans freed (State.sameTests_of_cannons ?_)
  simp [State.settleEnded_line]

theorem State.endBegunTest_idle {s : State} {c : Nat} (h : (s.cannon c).test = .none) (d : Nat) : s.endBegunTest c d = s := by
  unfold State.endBegunTest State.testBegun
  simp [h]

/-! ### The whole effect -/

theorem Bed.eq_of_unshort {q r : Bed} (h : r.unshort = q.unshort) : r = { q with waterShort := r.waterShort } := by
  cases q
  cases r
  simp_all [Bed.unshort]

/-- The end of an acknowledged start of a cannon on a bed with a delivered volume, in the words of R16, R74, R108 and R130. -/
structure State.startEnded (s t : State) (o : Order) (st : Start) (d : Nat) : Prop where
  balance : (t.source st.source).balance = (s.source st.source).balance - d
  reserved : (t.source st.source).reserved = (s.source st.source).reserved - st.volume
  charged : (t.source st.source).charged = min 4294967295 ((s.source st.source).charged + d)
  others : ∀ w, w ≠ st.source → t.source w = s.source w
  today : t.water.freshToday = (if st.source = .fresh then s.water.freshToday + d else s.water.freshToday)
  bed : ∃ x w, t.bed o.bed = { (s.bed o.bed).charged s.conf s.osc o.bed d with
    hold := (s.bed o.bed).hold.map (Hold.risen · (st.counted d)), cappedAtRisk := x, waterShort := w }
  beds : ∀ b, b ≠ o.bed → t.bed b = s.bed b
  attempt : t.disp.attempt = true
  order : t.order o.bed = if o.ending.isSome = true ∨ o.remaining - d < s.conf.vMin then none
    else some { o with remaining := o.remaining - d, delivered := o.delivered + d, start := none, state := .waiting,
                       blocked := none, waitStart := s.osc }

theorem State.chargeSource_source (s : State) (w : WaterSource) (v d : Nat) : (s.chargeSource w v d).source w =
    { s.source w with balance := (s.source w).balance - d, reserved := (s.source w).reserved - v,
                      charged := min 4294967295 ((s.source w).charged + d) } := by
  cases w <;> rfl

theorem State.chargeSource_source_ne (s : State) {w z : WaterSource} (v d : Nat) (h : z ≠ w) :
    (s.chargeSource w v d).source z = s.source z := by
  cases w <;> cases z <;> first | rfl | exact absurd rfl h

theorem State.chargeSource_today (s : State) (w : WaterSource) (v d : Nat) : (s.chargeSource w v d).water.freshToday =
    if w = .fresh then s.water.freshToday + d else s.water.freshToday := by
  cases w <;> rfl

theorem State.source_congr {s t : State} (h : t.water = s.water) (w : WaterSource) : t.source w = s.source w := by
  cases w <;> simp [State.source, h]

theorem State.endStart_startEnded {s : State} {o : Order} {st : Start} {d : Nat} (ho : s.order o.bed = some o)
    (hs : o.start = some st) (h1 : 1 ≤ o.bed) (h2 : o.bed ≤ 32) (hd : o.delivered + d < 4294967296) :
    s.startEnded (s.endStart o.bed d) o st d := by
  have water : (s.endStart o.bed d).water = (s.chargeSource st.source st.volume d).water := by
    rw [State.endStart_eq ho hs]
    simp [State.settleEnded_water, State.chargeStart_water]
  have total : deliveredSum s.freeCount o.delivered d = o.delivered + d := if_pos hd
  have records : (s.endStart o.bed d).beds.records =
      ((s.chargeStart o.bed o st d).settleEnded (o.afterStart (o.delivered + d) d)).beds.records := by
    rw [State.endStart_eq ho hs, total]
    simp
  have orders : (s.endStart o.bed d).disp.orders =
      ((s.chargeStart o.bed o st d).settleEnded (o.afterStart (o.delivered + d) d)).disp.orders := by
    rw [State.endStart_eq ho hs, total]
    simp
  refine ⟨?_, ?_, ?_, fun w hw => ?_, ?_, ?_, fun b hb => ?_, ?_, ?_⟩
  · rw [State.source_congr water, State.chargeSource_source]
  · rw [State.source_congr water, State.chargeSource_source]
  · rw [State.source_congr water, State.chargeSource_source]
  · rw [State.source_congr water, State.chargeSource_source_ne _ _ _ hw]
  · rw [water, State.chargeSource_today]
  · obtain ⟨x, e⟩ := s.chargeStart_bed o.bed o st d h1 h2
    have kept := (State.settleEnded_aside (s.chargeStart o.bed o st d) (o.afterStart (o.delivered + d) d)).beds o.bed
    rw [e, ← State.bed_congr records o.bed] at kept
    exact ⟨x, _, Bed.eq_of_unshort kept⟩
  · rw [State.bed_congr records, State.settleEnded_bed_ne _ (by exact hb), State.chargeStart_bed_ne _ _ _ _ _ hb]
  · rw [State.endStart_eq ho hs]
    simp
  · have := (s.chargeStart o.bed o st d).settleEnded_order (o.afterStart (o.delivered + d) d)
    rw [State.chargeStart_conf, State.chargeStart_osc] at this
    rw [State.order_congr orders]
    exact this

/-- The effect is one on the beds, the water, the orders and the attempt mark, so that the operations on cannons before and
after it do not matter. -/
theorem State.startEnded.around {s u v t : State} {o : Order} {st : Start} {d : Nat} (h : u.startEnded v o st d)
    (before : s.beds = u.beds ∧ s.water = u.water ∧ s.conf = u.conf ∧ s.osc = u.osc) (after : Cannonwise v t) :
    s.startEnded t o st d := by
  obtain ⟨beds, water, conf, osc⟩ := before
  obtain ⟨abeds, awater, aorders, _, _, _, _, attempt⟩ := after
  have bed := fun b => State.bed_congr (congrArg BedTable.records beds) b
  have abed := fun b => State.bed_congr (congrArg BedTable.records abeds) b
  have source := State.source_congr water
  have asource := State.source_congr awater
  constructor
  · rw [asource, source, h.balance]
  · rw [asource, source, h.reserved]
  · rw [asource, source, h.charged]
  · exact fun w hw => by rw [asource, source, h.others w hw]
  · rw [awater, water, h.today]
  · rw [abed, bed, conf, osc]
    exact h.bed
  · exact fun b hb => by rw [abed, bed, h.beds b hb]
  · exact attempt h.attempt
  · rw [State.order_congr aorders, conf, osc]
    exact h.order

/-! ### The replies -/

theorem State.endServed_eq {s : State} {x : Transaction} {o : Order} {st : Start} (hon : s.startOn x.cannon = some o)
    (hs : o.start = some st) (hx : x.sequence = some st.sequence) (d : Nat) : s.endServed x d = s.endStart o.bed d := by
  unfold State.endServed State.startOf
  rw [hon]
  simp [hs, hx]

theorem State.startOf_served {s : State} {x : Transaction} {o : Order} {st : Start} (hon : s.startOn x.cannon = some o)
    (hs : o.start = some st) (hx : x.sequence = some st.sequence) : s.startOf x = some o := by
  unfold State.startOf
  rw [hon]
  simp [hs, hx]

/-- A reply of the polled kind within the limit is taken as it is (R155). -/
theorem State.within_limit {s : State} {x : Transaction} {o : Order} {st : Start} {m : Nat} (hon : s.startOf x = some o)
    (hs : o.start = some st) (hm : m ≤ st.volume) :
    s.overMeter x m = false ∧ s.figure x m = m ∧ s.judgeMeter x m = s := by
  unfold State.overMeter State.figure State.judgeMeter
  rw [hon]
  have volume : servedVolume o = st.volume := by simp [servedVolume, hs]
  simp [volume, hm]

theorem State.replied_taken {s : State} {x : Transaction} {bytes : List Byte} {r : Reply} (h : s.replyTaken x bytes r)
    {mine : LineCommand → Bool} (hm : mine x.command = true) (taken : State → Transaction → Reply → State) :
    s.replied mine bytes taken = (taken (s.endTransaction x) x r).flushCannons := by
  obtain ⟨htrans, hsent, _, _, hlen, hreply⟩ := h
  unfold State.replied
  rw [htrans]
  simp [hm, hsent, hlen, hreply]

theorem Cannonwise.trans {s t u : State} (h1 : Cannonwise s t) (h2 : Cannonwise t u) : Cannonwise s u := by
  obtain ⟨b1, w1, o1, t1, c1, x1, f1, a1⟩ := h1
  obtain ⟨b2, w2, o2, t2, c2, x2, f2, a2⟩ := h2
  exact ⟨b2.trans b1, w2.trans w1, o2.trans o1, t2.trans t1, c2.trans c1, x2.trans x1, f2.trans f1, fun h => a2 (a1 h)⟩

/-- The end of the start that a taken transaction serves, whatever moves on the cannons before and after it. -/
theorem State.served_startEnded {s u t : State} {x : Transaction} {o : Order} {st : Start} {d : Nat} (hs : s.serves x o st)
    (h1 : 1 ≤ o.bed) (h2 : o.bed ≤ 32) (hd : o.delivered + d < 4294967296) (before : Cannonwise (s.endTransaction x) u)
    (after : Cannonwise (u.endServed x d) t) : s.startEnded t o st d ∧ t.line.transaction = none := by
  obtain ⟨hon, hbed, hstart, hseq⟩ := hs
  obtain ⟨beds, water, orders, trans, conf, osc, _⟩ := before
  have uon : u.startOn x.cannon = some o := (State.startOn_congr orders _).trans hon
  have ubed : u.order o.bed = some o := (State.order_congr orders _).trans hbed
  have ended := State.endStart_startEnded (d := d) ubed hstart h1 h2 hd
  rw [State.endServed_eq uon hstart hseq] at after
  refine ⟨ended.around ⟨beds.symm, water.symm, conf.symm, osc.symm⟩ after, ?_⟩
  rw [after.2.2.2.1, (by simp : (u.endStart o.bed d).line.transaction = u.line.transaction), trans]
  rfl

/-- A confirmed STOP of an acknowledged start within the limit ends it with the meter (R152). -/
theorem State.stopConfirmed_eq {s : State} {x : Transaction} {o : Order} {st : Start} {m : Nat} (hon : s.startOf x = some o)
    (hs : o.start = some st) (hack : st.acknowledged = true) (hm : m ≤ st.volume) :
    s.stopConfirmed x m = s.endServed x m := by
  have acknowledged : (o.start.map Start.acknowledged).getD true = true := by simp [hs, hack]
  obtain ⟨_, hfigure, hjudge⟩ := State.within_limit hon hs hm
  have lost : s.settleLostStart x m = s := by
    unfold State.settleLostStart
    rw [hon]
    simp [acknowledged]
  unfold State.stopConfirmed
  dsimp only
  rw [lost, hjudge, hfigure]
  unfold State.confirmStop
  rw [hon]
  exact if_pos acknowledged

/-- What an IDLE reply within the limit to a POLL or a STOP comes to. -/
theorem idleReply_startEnded {s : State} {x : Transaction} {bytes : List Byte} {r : Reply} {o : Order} {st : Start} {c : Instr}
    (hc : (x.command = .poll ∧ c = .poll bytes) ∨ (x.command = .stop ∧ c = .stop bytes)) (hr : s.replyTaken x bytes r)
    (hidle : r.state = .idle) (hs : s.serves x o st) (hack : st.acknowledged = true) (hm : r.meter ≤ st.volume)
    (h1 : 1 ≤ o.bed) (h2 : o.bed ≤ 32) (hd : o.delivered + r.meter < 4294967296)
    (htest : (s.cannon x.cannon).test = .none) :
    ∃ t, exec c s = .next t ∧ s.startEnded t o st r.meter ∧ t.line.transaction = none := by
  obtain ⟨hon, hbed, hstart, hseq⟩ := id hs
  have served : (s.endTransaction x).startOf x = some o := State.startOf_served hon hstart hseq
  obtain ⟨hover, hfigure, hjudge⟩ := State.within_limit served hstart hm
  have good := (s.endTransaction x).goodTransaction_cannonwise x.cannon
  rcases hc with ⟨hx, rfl⟩ | ⟨hx, rfl⟩
  · have taken : exec (.poll bytes) s = .next (((((((s.endTransaction x).goodTransaction x.cannon).showActivity x.cannon .idle).endServed x
        r.meter).endBegunTest x.cannon r.meter)).flushCannons) := by
      refine congrArg Host.Outcome.next ((State.replied_taken hr (by rw [hx]; rfl) _).trans ?_)
      unfold State.takePoll State.goodUnless
      rw [hover, hfigure, hjudge, hidle]
      rfl
    have shown := good.trans (State.showActivity_cannonwise _ x.cannon .idle)
    set u := ((s.endTransaction x).goodTransaction x.cannon).showActivity x.cannon .idle with hu
    obtain ⟨_, _, orders, _⟩ := id shown
    have tests : s.sameTests (u.endServed x r.meter) := by
      rw [State.endServed_eq ((State.startOn_congr orders _).trans hon) hstart hseq]
      exact State.sameTests_trans (s.endTransaction_sameTests x) (State.sameTests_trans (State.goodTransaction_sameTests _ _)
        (State.sameTests_trans (State.showActivity_sameTests _ _ _)
          (State.endStart_sameTests ((State.order_congr orders _).trans hbed) hstart)))
    rw [State.endBegunTest_idle ((tests _).trans htest)] at taken
    exact ⟨_, taken, State.served_startEnded hs h1 h2 hd shown (State.flushCannons_cannonwise _)⟩
  · have taken : exec (.stop bytes) s = .next ((((s.endTransaction x).goodTransaction x.cannon).stopConfirmed x
        r.meter).showActivity x.cannon .idle).flushCannons := by
      refine congrArg Host.Outcome.next ((State.replied_taken hr (by rw [hx]; rfl) _).trans ?_)
      unfold State.takeStop State.goodUnless
      rw [hover, hidle]
      rfl
    obtain ⟨_, _, orders, _⟩ := id good
    rw [State.stopConfirmed_eq (State.startOf_served ((State.startOn_congr orders _).trans hon) hstart hseq) hstart hack hm]
      at taken
    exact ⟨_, taken, State.served_startEnded hs h1 h2 hd good
      ((State.showActivity_cannonwise _ _ _).trans (State.flushCannons_cannonwise _))⟩

/-- The counted delivery by how the start counts (R101, R108). -/
theorem Start.counted_granted {st : Start} {d : Nat} (h : st.count = .granted) (hd : d ≤ st.volume) : st.counted d = d := by
  simp [Start.counted, Start.holdPoint, Start.share, h, hd]

theorem Start.counted_uncounted {st : Start} (d : Nat) (h : st.count = .uncounted) : st.counted d = 0 := by
  simp [Start.counted, Start.holdPoint, Start.share, h]

theorem Start.counted_running {st : Start} {d dh cap : Nat} (h : st.count = .running dh cap) :
    st.counted d = min (d - dh) (min (st.volume - dh) cap) := by
  simp [Start.counted, Start.holdPoint, Start.share, h]

theorem Start.counted_trimmed {st : Start} {d dt : Nat} (h : st.count = .trimmed dt) (hd : d ≤ st.volume) :
    st.counted d = d - dt := by
  simp only [Start.counted, Start.holdPoint, Start.share, h]
  omega

theorem State.startEnded.hold {s t : State} {o : Order} {st : Start} {d : Nat} (h : s.startEnded t o st d) :
    (t.bed o.bed).hold = (s.bed o.bed).hold.map (Hold.risen · (st.counted d)) := by
  obtain ⟨x, w, e⟩ := h.bed
  rw [e]

/-- Settles O48: an IDLE reply within the limit ends the start it serves with its meter. -/
theorem endedStartsAreCharged : Obligations.EndedStartsAreCharged := by
  intro s x bytes r o st c hc hr hidle hs hack hm h1 h2 hd htest
  obtain ⟨t, run, ended, quiet⟩ := idleReply_startEnded hc hr hidle hs hack hm h1 h2 hd htest
  obtain ⟨cappedAtRisk, short, bed⟩ := ended.bed
  refine ⟨t, run, quiet, ended.balance, ended.reserved, ended.charged, ended.others, ended.today, fun he => ?_, fun he => ?_,
    ?_, fun hf hw => ?_, fun hh => ?_, fun h hh => ⟨fun hk => ?_, fun hk => ?_, fun dh cap hk => ?_, fun dt hk => ?_⟩,
    ended.beds, ended.attempt, fun h => ?_, fun hend hv => ?_⟩
  · simp [bed, Bed.charged, he]
  · simp [bed, Bed.charged, he]
  · simp [bed, Bed.charged]
  · rw [bed] at hw
    simp only [Bed.charged, hf] at hw
    simp [bed, Bed.charged, hf] at hw ⊢
    simp [hw]
  · simp [ended.hold, hh]
  · rw [ended.hold, hh, Start.counted_uncounted _ hk]
    rfl
  · rw [ended.hold, hh, Start.counted_granted hk hm]
    rfl
  · rw [ended.hold, hh, Start.counted_running hk]
    rfl
  · rw [ended.hold, hh, Start.counted_trimmed hk hm]
    rfl
  · rw [ended.order, if_pos h]
  · rw [ended.order, if_neg (by simp [hend, hv])]

end Sys2Proof.Machine
end

section
/-! SUPPORT. What the Zone Register sees of a bed, and what claims, releases and expiries make of it bed by bed (R6 to R10, R18). -/

namespace Sys2Proof.Machine

/-- What claims and releases read and write of one bed: its surface state, wetness and hold, and for each entry of the machine table
its bare form with the prior state it keeps for the bed. -/
structure ZoneBed where
  surface : Surface
  wetness : Nat
  hold : Option Hold
  priors : List (Claim × Option Surface)

/-- The prior states kept for a bed, entry by entry. -/
def State.priors (s : State) (b : Nat) : List (Claim × Option Surface) :=
  s.zones.entries.map (fun e => (e.bare, sparseFind b e.prior))

/-- What the Zone Register sees of bed `b`. -/
def State.zoneBed (s : State) (b : Nat) : ZoneBed :=
  ⟨(s.bed b).surface, (s.bed b).wetness, (s.bed b).hold, s.priors b⟩

/-- The prior state is written into the entry of one machine. -/
def writtenTo (m : Nat) (p : Surface) (q : Claim × Option Surface) : Claim × Option Surface :=
  if q.1.machine = m then (q.1, some p) else q

/-- The prior state is written into the entries that cover the bed. -/
def sharedTo (b : Nat) (p : Surface) (q : Claim × Option Surface) : Claim × Option Surface :=
  if q.1.covers b then (q.1, some p) else q

namespace ZoneBed
variable (z : ZoneBed)

/-- A claim of activity STACK or RECLAIM covers the bed (R7). -/
def touched (b : Nat) : Bool := z.priors.any (fun q => q.1.covers b && q.1.activity.touches)

/-- The prior state kept for the bed (R7, log 30). -/
def kept : Surface := (z.priors.findSome? Prod.snd).getD .settled

/-- The prior state handed for the bed (R7). -/
def priorFor : Surface := if z.surface = .worked then z.kept else z.surface

/-- The bed takes an activity (R6). -/
def applied (b : Nat) (a : ZoneActivity) (p : Surface) : ZoneBed :=
  if worksOn a z.surface then { z with surface := .worked, priors := z.priors.map (sharedTo b p) } else z

/-- The prior state of the bed is written into the entry of one machine (R7). -/
def written (m : Nat) (p : Surface) : ZoneBed := { z with priors := z.priors.map (writtenTo m p) }

/-- The bed enters a machine's range (R94). -/
def entered (S : Settings) (m : Nat) (a : ZoneActivity) (b : Nat) : ZoneBed :=
  if S.bedDefined b then (z.written m z.priorFor).applied b a z.priorFor else z

/-- The bed is EMPTY and its hold has ended (R12). -/
def emptied : ZoneBed := { z with surface := .empty, hold := none }

/-- The bed is left without STACK or RECLAIM cover (R8, R10). -/
def uncovered (S : Settings) (o : ReleaseOutcome) (p : Surface) : ZoneBed :=
  match o, z.surface with
  | .stacked, _ => { z with surface := .fresh, wetness := S.wStack }
  | .reclaimed, .empty => z
  | .reclaimed, _ => { z with surface := .fresh }
  | .emptied, .empty => z
  | .emptied, _ => z.emptied
  | .none, .worked => if p = .empty then z.emptied else { z with surface := p }
  | .none, _ => z
  | .expiry, .worked => { z with surface := .fresh }
  | .expiry, _ => z

/-- The outcome is folded into the prior states of a bed that stays WORKED (R9, R10). -/
def folded (S : Settings) (b : Nat) (o : ReleaseOutcome) (p : Surface) : ZoneBed :=
  match o with
  | .stacked => { z with wetness := S.wStack, priors := z.priors.map (sharedTo b .fresh) }
  | .reclaimed => if p = .empty then z else { z with priors := z.priors.map (sharedTo b .fresh) }
  | .emptied => { z with priors := z.priors.map (sharedTo b .empty) }
  | .none => z
  | .expiry => { z with priors := z.priors.map (sharedTo b .fresh) }

/-- The bed leaves a machine's range (R97). -/
def released (S : Settings) (b : Nat) (o : ReleaseOutcome) (p : Surface) : ZoneBed :=
  if S.bedDefined b then
    if z.touched b then (if z.surface = .worked then z.folded S b o p else z) else z.uncovered S o p
  else z

/-- The bed of a replaced claim's new range (R95). -/
def replaced (S : Settings) (m : Nat) (old : Claim) (a : ZoneActivity) (b : Nat) : ZoneBed :=
  if !S.bedDefined b then z
  else if old.covers b then
    let z1 := if z.surface = .worked then z else z.written m z.surface
    if a.touches then z1.applied b a z1.priorFor
    else if old.activity.touches then z1.released S b .none (old.priorOf b)
    else z1
  else z.entered S m a b

end ZoneBed

/-! ### The readings of the view -/

theorem State.touched_zoneBed (s : State) (b : Nat) : s.touched b = (s.zoneBed b).touched b := by
  unfold State.touched ZoneBed.touched State.zoneBed State.priors
  rw [List.any_map]
  rfl

theorem State.keptPrior_zoneBed (s : State) (b : Nat) : s.keptPrior b = (s.zoneBed b).kept := by
  unfold State.keptPrior ZoneBed.kept State.zoneBed State.priors
  rw [List.findSome?_map]
  rfl

theorem State.priorFor_zoneBed (s : State) (b : Nat) : s.priorFor b = (s.zoneBed b).priorFor := by
  unfold State.priorFor ZoneBed.priorFor
  rw [State.keptPrior_zoneBed]
  rfl

/-! ### What leaves the view of a bed -/

theorem State.zoneBed_congr {s t : State} {b : Nat} (hb : t.bed b = s.bed b) (hz : t.zones.entries = s.zones.entries) :
    t.zoneBed b = s.zoneBed b := by
  unfold State.zoneBed State.priors
  rw [hb, hz]

/-- Notices and stops leave what the Zone Register sees. -/
theorem Aside.zoneBed {s t : State} (h : Aside s t) (hz : t.zones.entries = s.zones.entries) (b : Nat) :
    t.zoneBed b = s.zoneBed b := by
  unfold State.zoneBed State.priors
  rw [h.surface, h.wetness, h.hold, hz]

theorem State.zoneBed_setBed_ne (s : State) (r : Bed) {a b : Nat} (h : b ≠ a) : (s.setBed a r).zoneBed b = s.zoneBed b :=
  State.zoneBed_congr (State.bed_setBed_ne _ _ h) rfl

theorem State.priors_map (s : State) (b : Nat) (f : Claim → Claim) (g : Claim × Option Surface → Claim × Option Surface)
    (h : ∀ e : Claim, ((f e).bare, sparseFind b (f e).prior) = g (e.bare, sparseFind b e.prior)) :
    (s.setEntries (s.zones.entries.map f)).priors b = (s.priors b).map g := by
  unfold State.priors
  rw [State.setEntries_entries, List.map_map, List.map_map]
  exact List.map_congr_left fun e _ => h e

theorem State.writePrior_priors (s : State) (m b : Nat) (p : Surface) :
    (s.writePrior m b p).priors b = (s.priors b).map (writtenTo m p) := by
  refine s.priors_map b _ _ fun e => ?_
  unfold writtenTo
  by_cases h : e.machine = m
  · have : e.bare.machine = m := h
    simp only [h, this, if_true]
    simp only [Claim.withPrior, sparseFind_insert_same]
    rfl
  · have : ¬e.bare.machine = m := h
    simp only [h, this, if_false]

theorem State.sharePrior_priors (s : State) (b : Nat) (p : Surface) :
    (s.sharePrior b p).priors b = (s.priors b).map (sharedTo b p) := by
  refine s.priors_map b _ _ fun e => ?_
  have same : e.bare.covers b = e.covers b := rfl
  unfold sharedTo
  by_cases h : e.covers b = true
  · simp only [h, same, if_true]
    simp only [Claim.withPrior, sparseFind_insert_same]
    rfl
  · simp only [same, h]
    rfl

theorem State.priors_map_ne (s : State) {a b : Nat} (hne : b ≠ a) (c : Claim → Prop) [DecidablePred c] (p : Surface) :
    (s.setEntries (s.zones.entries.map (fun e => if c e then e.withPrior a p else e))).priors b = s.priors b := by
  refine (s.priors_map b _ id fun e => ?_).trans (List.map_id _)
  by_cases h : c e
  · simp only [h, if_true, id]
    simp only [Claim.withPrior, sparseFind_insert_ne hne]
    rfl
  · simp only [h, if_false, id]

theorem State.zoneBed_writePrior (s : State) (m b : Nat) (p : Surface) :
    (s.writePrior m b p).zoneBed b = (s.zoneBed b).written m p := by
  have := s.writePrior_priors m b p
  unfold State.zoneBed ZoneBed.written
  rw [this]
  rfl

theorem State.zoneBed_sharePrior (s : State) (b : Nat) (p : Surface) :
    (s.sharePrior b p).zoneBed b = { s.zoneBed b with priors := (s.priors b).map (sharedTo b p) } := by
  have := s.sharePrior_priors b p
  unfold State.zoneBed
  rw [this]
  rfl

theorem State.zoneBed_writePrior_ne (s : State) (m : Nat) {a b : Nat} (p : Surface) (h : b ≠ a) :
    (s.writePrior m a p).zoneBed b = s.zoneBed b := by
  have := s.priors_map_ne h (fun e => e.machine = m) p
  unfold State.zoneBed
  rw [State.writePrior, this]
  rfl

theorem State.zoneBed_sharePrior_ne (s : State) {a b : Nat} (p : Surface) (h : b ≠ a) :
    (s.sharePrior a p).zoneBed b = s.zoneBed b := by
  have := s.priors_map_ne h (fun e => e.covers a = true) p
  unfold State.zoneBed
  rw [State.sharePrior, this]
  rfl

/-! ### Surface states -/

theorem State.zoneBed_setSurface (s : State) {b : Nat} (f : Surface) (h1 : 1 ≤ b) (h2 : b ≤ 32) :
    (s.setSurface b f).zoneBed b = { s.zoneBed b with surface := f } := by
  unfold State.zoneBed
  rw [State.setSurface, State.bed_setBed_same _ _ h1 h2]
  rfl

theorem State.zoneBed_stackReset (s : State) {b : Nat} (h1 : 1 ≤ b) (h2 : b ≤ 32) :
    (s.stackReset b).zoneBed b = { s.zoneBed b with wetness := s.conf.wStack } := by
  unfold State.zoneBed
  rw [State.stackReset, State.bed_setBed_same _ _ h1 h2]
  rfl

theorem State.satisfyOrder_aside (s : State) (b : Nat) : Aside s (s.satisfyOrder b) := by
  unfold State.satisfyOrder
  split
  · exact .refl s
  · split
    · exact s.removeOrder_aside _ _
    · exact s.putOrder_aside _

theorem uncountStart_aside (s : State) (b : Nat) : Aside s (uncountStart s b) := by
  unfold uncountStart
  split
  · split
    · exact s.putOrder_aside _
    · exact .refl s
  · exact .refl s

/-- The end of a hold takes it off its bed and tells. -/
theorem State.removeHold_aside (s : State) (b : Nat) :
    Aside (s.setBed b { s.bed b with hold := none, cappedAtRisk := false }) (s.removeHold b) :=
  (uncountStart_aside _ b).trans (State.cause_aside _)

theorem State.zoneBed_endHold (s : State) {b : Nat} (h1 : 1 ≤ b) (h2 : b ≤ 32) :
    (s.endHold b).zoneBed b = { s.zoneBed b with hold := none } := by
  unfold State.endHold
  split
  · refine (((s.removeHold_aside b).trans (State.makeHoldEnded_aside _ _)).zoneBed (by simp) b).trans ?_
    unfold State.zoneBed
    rw [State.bed_setBed_same _ _ h1 h2]
    rfl
  · rename_i h
    unfold State.zoneBed
    rw [h]

theorem State.zoneBed_endHold_ne (s : State) {a b : Nat} (h : b ≠ a) : (s.endHold a).zoneBed b = s.zoneBed b := by
  unfold State.endHold
  split
  · exact (((s.removeHold_aside a).trans (State.makeHoldEnded_aside _ _)).zoneBed (by simp) b).trans
      (s.zoneBed_setBed_ne _ h)
  · rfl

theorem State.zoneBed_becomeEmpty (s : State) {b : Nat} (h1 : 1 ≤ b) (h2 : b ≤ 32) :
    (s.becomeEmpty b).zoneBed b = (s.zoneBed b).emptied := by
  unfold State.becomeEmpty
  rw [(State.satisfyOrder_aside _ b).zoneBed (by simp) b, State.zoneBed_endHold _ h1 h2, State.zoneBed_setSurface _ _ h1 h2]
  rfl

theorem State.zoneBed_becomeEmpty_ne (s : State) {a b : Nat} (h : b ≠ a) : (s.becomeEmpty a).zoneBed b = s.zoneBed b := by
  unfold State.becomeEmpty
  rw [(State.satisfyOrder_aside _ a).zoneBed (by simp) b, State.zoneBed_endHold_ne _ h]
  exact s.zoneBed_setBed_ne _ h

/-! ### Claims and releases on one bed -/

theorem State.zoneBed_applyActivity (s : State) {b : Nat} (a : ZoneActivity) (p : Surface) (h1 : 1 ≤ b) (h2 : b ≤ 32) :
    (s.applyActivity b a p).zoneBed b = (s.zoneBed b).applied b a p := by
  have surface : (s.zoneBed b).surface = (s.bed b).surface := rfl
  unfold State.applyActivity ZoneBed.applied
  rw [surface]
  split
  · rw [State.zoneBed_sharePrior, State.zoneBed_setSurface _ _ h1 h2]
    rfl
  · rfl

theorem State.zoneBed_applyActivity_ne (s : State) {a b : Nat} (k : ZoneActivity) (p : Surface) (h : b ≠ a) :
    (s.applyActivity a k p).zoneBed b = s.zoneBed b := by
  unfold State.applyActivity
  split
  · rw [State.zoneBed_sharePrior_ne _ _ h]
    exact s.zoneBed_setBed_ne _ h
  · rfl

theorem State.zoneBed_enterRange (s : State) (m : Nat) (a : ZoneActivity) {b : Nat} (h1 : 1 ≤ b) (h2 : b ≤ 32) :
    (s.enterRange m a b).zoneBed b = (s.zoneBed b).entered s.conf m a b := by
  unfold State.enterRange ZoneBed.entered
  split
  · rw [(State.stopOrder_aside _ _ _).zoneBed (by simp), State.zoneBed_applyActivity _ _ _ h1 h2, State.zoneBed_writePrior,
      State.priorFor_zoneBed]
  · rfl

theorem State.zoneBed_enterRange_ne (s : State) (m : Nat) (k : ZoneActivity) {a b : Nat} (h : b ≠ a) :
    (s.enterRange m k a).zoneBed b = s.zoneBed b := by
  unfold State.enterRange
  split
  · rw [(State.stopOrder_aside _ _ _).zoneBed (by simp), State.zoneBed_applyActivity_ne _ _ _ h,
      State.zoneBed_writePrior_ne _ _ _ h]
  · rfl

theorem State.zoneBed_releaseUncovered (s : State) {b : Nat} (o : ReleaseOutcome) (p : Surface) (h1 : 1 ≤ b) (h2 : b ≤ 32) :
    (s.releaseUncovered b o p).zoneBed b = (s.zoneBed b).uncovered s.conf o p := by
  have surface : (s.zoneBed b).surface = (s.bed b).surface := rfl
  have fresh := s.zoneBed_setSurface .fresh h1 h2
  have empty := s.zoneBed_becomeEmpty h1 h2
  cases o with
  | stacked =>
    change ((s.setSurface b .fresh).stackReset b).zoneBed b = { s.zoneBed b with surface := .fresh, wetness := s.conf.wStack }
    rw [State.zoneBed_stackReset _ h1 h2, fresh]
    rfl
  | reclaimed =>
    unfold State.releaseUncovered ZoneBed.uncovered
    rw [surface]
    cases (s.bed b).surface <;> first | rfl | exact fresh
  | emptied =>
    unfold State.releaseUncovered ZoneBed.uncovered
    rw [surface]
    cases (s.bed b).surface <;> first | rfl | exact empty
  | none =>
    unfold State.releaseUncovered ZoneBed.uncovered
    rw [surface]
    cases (s.bed b).surface with
    | worked =>
      dsimp only
      split
      · exact empty
      · exact s.zoneBed_setSurface p h1 h2
    | _ => rfl
  | expiry =>
    unfold State.releaseUncovered ZoneBed.uncovered
    rw [surface]
    cases (s.bed b).surface <;> first | rfl | exact fresh

theorem State.zoneBed_releaseUncovered_ne (s : State) {a b : Nat} (o : ReleaseOutcome) (p : Surface) (h : b ≠ a) :
    (s.releaseUncovered a o p).zoneBed b = s.zoneBed b := by
  have surface : ∀ f, (s.setSurface a f).zoneBed b = s.zoneBed b := fun f => s.zoneBed_setBed_ne _ h
  have empty := s.zoneBed_becomeEmpty_ne h
  unfold State.releaseUncovered
  split
  case h_1 => exact ((s.setSurface a .fresh).zoneBed_setBed_ne _ h).trans (surface _)
  case h_3 => exact surface _
  case h_5 => exact empty
  case h_6 =>
    split
    · exact empty
    · exact surface _
  case h_8 => exact surface _
  all_goals rfl

theorem State.zoneBed_foldOutcome (s : State) {b : Nat} (o : ReleaseOutcome) (p : Surface) (h1 : 1 ≤ b) (h2 : b ≤ 32) :
    (s.foldOutcome b o p).zoneBed b = (s.zoneBed b).folded s.conf b o p := by
  have shared := fun f => s.zoneBed_sharePrior b f
  cases o with
  | stacked =>
    change ((s.sharePrior b .fresh).stackReset b).zoneBed b = _
    rw [State.zoneBed_stackReset _ h1 h2, shared]
    rfl
  | reclaimed =>
    change (if p = .empty then s else s.sharePrior b .fresh).zoneBed b = if p = .empty then _ else _
    split
    · rfl
    · exact shared _
  | emptied => exact shared _
  | none => rfl
  | expiry => exact shared _

theorem State.zoneBed_foldOutcome_ne (s : State) {a b : Nat} (o : ReleaseOutcome) (p : Surface) (h : b ≠ a) :
    (s.foldOutcome a o p).zoneBed b = s.zoneBed b := by
  have shared := fun f => s.zoneBed_sharePrior_ne (b := b) f h
  cases o with
  | stacked => exact ((s.sharePrior a .fresh).zoneBed_setBed_ne _ h).trans (shared _)
  | reclaimed =>
    change (if p = .empty then s else s.sharePrior a .fresh).zoneBed b = _
    split
    · rfl
    · exact shared _
  | emptied => exact shared _
  | none => rfl
  | expiry => exact shared _

theorem State.zoneBed_releaseBed (s : State) {b : Nat} (o : ReleaseOutcome) (p : Surface) (h1 : 1 ≤ b) (h2 : b ≤ 32) :
    (s.releaseBed b o p).zoneBed b = (s.zoneBed b).released s.conf b o p := by
  have surface : (s.zoneBed b).surface = (s.bed b).surface := rfl
  unfold State.releaseBed ZoneBed.released
  rw [State.touched_zoneBed, surface]
  split
  · split
    · split
      · exact s.zoneBed_foldOutcome o p h1 h2
      · rfl
    · exact s.zoneBed_releaseUncovered o p h1 h2
  · rfl

theorem State.zoneBed_releaseBed_ne (s : State) {a b : Nat} (o : ReleaseOutcome) (p : Surface) (h : b ≠ a) :
    (s.releaseBed a o p).zoneBed b = s.zoneBed b := by
  unfold State.releaseBed
  split
  · split
    · split
      · exact s.zoneBed_foldOutcome_ne o p h
      · rfl
    · exact s.zoneBed_releaseUncovered_ne o p h
  · rfl

theorem zoneBed_replaceBed (m : Nat) (old : Claim) (a : ZoneActivity) (s : State) {b : Nat} (h1 : 1 ≤ b) (h2 : b ≤ 32) :
    (replaceBed m old a s b).zoneBed b = (s.zoneBed b).replaced s.conf m old a b := by
  have surface : (s.zoneBed b).surface = (s.bed b).surface := rfl
  have prepared : (if (s.bed b).surface = .worked then s else s.writePrior m b (s.bed b).surface).zoneBed b =
      if (s.bed b).surface = .worked then s.zoneBed b else (s.zoneBed b).written m (s.bed b).surface := by
    split
    · rfl
    · exact s.zoneBed_writePrior m b _
  have conf : (if (s.bed b).surface = .worked then s else s.writePrior m b (s.bed b).surface).conf = s.conf := by
    split <;> rfl
  unfold replaceBed ZoneBed.replaced
  rw [surface]
  split
  · rfl
  · split
    · dsimp only
      split
      · rw [State.zoneBed_applyActivity _ _ _ h1 h2, State.priorFor_zoneBed, prepared]
      · split
        · rw [State.zoneBed_releaseBed _ _ _ h1 h2, prepared, conf]
        · exact prepared
    · exact s.zoneBed_enterRange m a h1 h2

theorem zoneBed_replaceBed_ne (m : Nat) (old : Claim) (k : ZoneActivity) (s : State) {a b : Nat} (h : b ≠ a) :
    (replaceBed m old k s a).zoneBed b = s.zoneBed b := by
  have prepared : (if (s.bed a).surface = .worked then s else s.writePrior m a (s.bed a).surface).zoneBed b = s.zoneBed b := by
    split
    · rfl
    · exact s.zoneBed_writePrior_ne m _ h
  unfold replaceBed
  split
  · rfl
  · split
    · dsimp only
      split
      · rw [State.zoneBed_applyActivity_ne _ _ _ h, prepared]
      · split
        · rw [State.zoneBed_releaseBed_ne _ _ _ h, prepared]
        · exact prepared
    · exact s.zoneBed_enterRange_ne m k h

/-! ### Folds over beds -/

section
variable (f : State → Nat → State) (g : Settings → Nat → ZoneBed → ZoneBed)

/-- A fold over beds, each step of which works on the view of its own bed, works on the view of every bed of the list. -/
theorem zoneBed_foldl (conf : ∀ u b, (f u b).conf = u.conf) (own : ∀ u b, 1 ≤ b → b ≤ 32 → (f u b).zoneBed b = g u.conf b (u.zoneBed b))
    (other : ∀ u a b, b ≠ a → (f u a).zoneBed b = u.zoneBed b) (l : List Nat) (hl : l.Nodup) (s : State) {b : Nat} (h1 : 1 ≤ b)
    (h2 : b ≤ 32) : (l.foldl f s).zoneBed b = if b ∈ l then g s.conf b (s.zoneBed b) else s.zoneBed b := by
  split
  · rename_i hb
    obtain ⟨u, hu, before, after⟩ := foldl_view_of_mem State.zoneBed f (fun u => u.conf = s.conf)
      (fun u a hu => (conf u a).trans hu) (fun u a b _ h => other u a b h) l hl s rfl b hb
    rw [after, own u b h1 h2, hu, before]
  · rename_i hb
    exact foldl_view_of_not_mem State.zoneBed f (fun u => u.conf = s.conf) (fun u a hu => (conf u a).trans hu)
      (fun u a b _ h => other u a b h) l s rfl b hb

end

end Sys2Proof.Machine
end

section
/-! ZONE_RELEASE and CLAIM_EXPIRY (R8 to R10, R97 to R99). -/

namespace Sys2Proof.Machine

/-! ### The outbound queue -/

theorem State.endHold_outbound (s : State) (b : Nat) : s.port.outbound <+: (s.endHold b).port.outbound := by
  unfold State.endHold
  split
  · exact ((s.removeHold_aside b).trans (State.makeHoldEnded_aside _ _)).outbound
  · exact List.prefix_refl _

theorem State.becomeEmpty_outbound (s : State) (b : Nat) : s.port.outbound <+: (s.becomeEmpty b).port.outbound :=
  ((s.setSurface b .empty).endHold_outbound b).trans (State.satisfyOrder_aside _ b).outbound

theorem State.releaseUncovered_outbound (s : State) (b : Nat) (o : ReleaseOutcome) (p : Surface) :
    s.port.outbound <+: (s.releaseUncovered b o p).port.outbound := by
  unfold State.releaseUncovered
  split
  case h_5 => exact s.becomeEmpty_outbound b
  case h_6 =>
    split
    · exact s.becomeEmpty_outbound b
    · exact List.prefix_refl _
  all_goals exact List.prefix_refl _

theorem State.foldOutcome_port (s : State) (b : Nat) (o : ReleaseOutcome) (p : Surface) : (s.foldOutcome b o p).port = s.port := by
  unfold State.foldOutcome
  split
  case h_2 => split <;> rfl
  all_goals rfl

theorem State.releaseBed_outbound (s : State) (b : Nat) (o : ReleaseOutcome) (p : Surface) :
    s.port.outbound <+: (s.releaseBed b o p).port.outbound := by
  unfold State.releaseBed
  split
  · split
    · split
      · rw [State.foldOutcome_port]
      · exact List.prefix_refl _
    · exact s.releaseUncovered_outbound b o p
  · exact List.prefix_refl _

theorem foldl_outbound {α : Type} (f : State → α → State) (h : ∀ s x, s.port.outbound <+: (f s x).port.outbound) (l : List α)
    (s : State) : s.port.outbound <+: (l.foldl f s).port.outbound :=
  foldl_keeps (fun s t => s.port.outbound <+: t.port.outbound) (fun _ => List.prefix_refl _) (fun _ _ _ h1 h2 => h1.trans h2)
    f h l s

theorem State.removeClaim_outbound (s : State) (e : Claim) (o : ReleaseOutcome) :
    s.port.outbound <+: (s.removeClaim e o).port.outbound :=
  foldl_outbound _ (fun t b => t.releaseBed_outbound b o (e.priorOf b)) (rangeBeds e.first e.last)
    (s.setEntries (s.zones.entries.filter (fun x => x.machine != e.machine)))

theorem State.causeIfUncovered_aside (s u : State) : Aside s (s.causeIfUncovered u) := by
  unfold State.causeIfUncovered
  split
  · exact s.cause_aside
  · exact .refl s

/-! ### An expiry tells nothing bed by bed -/

/-- What the outcome of an expiry leaves alone, so that its one notice finds the queue as it was. -/
abbrev Untold (s t : State) : Prop := t.port = s.port ∧ t.zones.pending = s.zones.pending ∧ t.conf = s.conf

theorem State.releaseBed_expiry_untold (s : State) (b : Nat) (p : Surface) : Untold s (s.releaseBed b .expiry p) := by
  unfold State.releaseBed
  split
  · split
    · split
      · exact ⟨rfl, rfl, rfl⟩
      · exact ⟨rfl, rfl, rfl⟩
    · unfold State.releaseUncovered
      cases (s.bed b).surface <;> exact ⟨rfl, rfl, rfl⟩
  · exact ⟨rfl, rfl, rfl⟩

theorem State.removeClaim_expiry_untold (s : State) (e : Claim) : Untold s (s.removeClaim e .expiry) := by
  have range : Untold (s.setEntries (s.zones.entries.filter (fun x => x.machine != e.machine))) (s.removeClaim e .expiry) :=
    foldl_keeps (fun s t => Untold s t) (fun _ => ⟨rfl, rfl, rfl⟩)
      (fun _ _ _ h1 h2 => ⟨h2.1.trans h1.1, h2.2.1.trans h1.2.1, h2.2.2.trans h1.2.2⟩) _
      (fun t b => t.releaseBed_expiry_untold b (e.priorOf b)) _ _
  exact range

theorem State.causeIfUncovered_untold (s u : State) : Untold s (s.causeIfUncovered u) := by
  unfold State.causeIfUncovered
  split <;> exact ⟨rfl, rfl, rfl⟩

/-! ### The beds of a removed entry -/

/-- The machine table without the entry of a machine. -/
def State.without (s : State) (m : Nat) : List Claim := s.zones.entries.filter (fun x => x.machine != m)

/-- What the Zone Register sees of a bed once an entry has left the table. -/
def State.leftBed (s : State) (m b : Nat) : ZoneBed :=
  ⟨(s.bed b).surface, (s.bed b).wetness, (s.bed b).hold, (s.without m).map (fun e => (e.bare, sparseFind b e.prior))⟩

theorem State.removeClaim_zoneBed (s : State) (e : Claim) (o : ReleaseOutcome) {b : Nat} (h1 : 1 ≤ b) (h2 : b ≤ 32) :
    (s.removeClaim e o).zoneBed b = if e.first ≤ b ∧ b ≤ e.last then (s.leftBed e.machine b).released s.conf b o (e.priorOf b)
      else s.leftBed e.machine b := by
  have fold := zoneBed_foldl (fun t b => t.releaseBed b o (e.priorOf b)) (fun S b z => z.released S b o (e.priorOf b))
    (fun u b => by simp) (fun u b h1 h2 => u.zoneBed_releaseBed o _ h1 h2) (fun u a b h => u.zoneBed_releaseBed_ne o _ h)
    (rangeBeds e.first e.last) (nodup_rangeBeds _ _) (s.setEntries (s.without e.machine)) h1 h2
  simp only [mem_rangeBeds] at fold
  exact fold

theorem State.leftBed_touched (s : State) (m b : Nat) : (s.leftBed m b).touched b =
    (s.without m).any (fun x => decide (x.first ≤ b ∧ b ≤ x.last) && x.activity.touches) := by
  unfold State.leftBed ZoneBed.touched
  rw [List.any_map]
  rfl

/-- The bed takes its outcome where no other STACK or RECLAIM covers it (R8, R10). -/
theorem ZoneBed.released_uncovered {z : ZoneBed} {S : Settings} {b : Nat} (hd : S.bedDefined b = true)
    (ht : z.touched b = false) (o : ReleaseOutcome) (p : Surface) : z.released S b o p = z.uncovered S o p := by
  unfold ZoneBed.released
  rw [if_pos hd, if_neg (by simp [ht])]

theorem ZoneBed.released_worked {z : ZoneBed} {S : Settings} {b : Nat} (hd : S.bedDefined b = true)
    (ht : z.touched b = true) (hw : z.surface = .worked) (o : ReleaseOutcome) (p : Surface) :
    z.released S b o p = z.folded S b o p := by
  unfold ZoneBed.released
  rw [if_pos hd, if_pos ht, if_pos hw]

theorem ZoneBed.released_covered {z : ZoneBed} {S : Settings} {b : Nat}
    (ht : z.touched b = true) (hw : z.surface ≠ .worked) (o : ReleaseOutcome) (p : Surface) : z.released S b o p = z := by
  unfold ZoneBed.released
  rw [if_pos ht, if_neg hw]
  exact ite_self _

theorem ZoneBed.released_undefined {z : ZoneBed} {S : Settings} {b : Nat} (hd : S.bedDefined b = false)
    (o : ReleaseOutcome) (p : Surface) : z.released S b o p = z := by
  unfold ZoneBed.released
  rw [if_neg (by simp [hd])]

/-- A fold changes wetness and prior states alone. -/
theorem ZoneBed.folded_kept (z : ZoneBed) (S : Settings) (b : Nat) (o : ReleaseOutcome) (p : Surface) :
    (z.folded S b o p).surface = z.surface ∧ (z.folded S b o p).hold = z.hold ∧
      (o ≠ .stacked → (z.folded S b o p).wetness = z.wetness) := by
  cases o with
  | stacked => exact ⟨rfl, rfl, fun h => absurd rfl h⟩
  | reclaimed =>
    unfold ZoneBed.folded
    dsimp only
    split <;> exact ⟨rfl, rfl, fun _ => rfl⟩
  | _ => exact ⟨rfl, rfl, fun _ => rfl⟩

/-- A prior state written into the entries that cover a bed is what they keep for it. -/
theorem State.prior_of_shared {s : State} {b : Nat} {p : Surface} {l : List (Claim × Option Surface)}
    (h : s.priors b = l.map (sharedTo b p)) : ∀ x ∈ s.zones.entries, x.first ≤ b → b ≤ x.last → sparseFind b x.prior = some p := by
  intro x hx hf hl
  have seen : (x.bare, sparseFind b x.prior) ∈ s.priors b := List.mem_map_of_mem hx
  rw [h] at seen
  obtain ⟨q, _, hq⟩ := List.mem_map.mp seen
  have covers : x.bare.covers b = true := (x.covers_iff b).mpr ⟨hf, hl⟩
  unfold sharedTo at hq
  split at hq
  · exact (congrArg Prod.snd hq).symm
  · rename_i hn
    rw [hq] at hn
    exact absurd covers hn

/-- The prior states kept for a bed, entry by entry. -/
theorem State.priors_snd {s : State} {b : Nat} : (s.priors b).map Prod.snd = s.zones.entries.map (fun x => sparseFind b x.prior) := by
  unfold State.priors
  rw [List.map_map]
  rfl

theorem State.priors_of_left {s t : State} {m b : Nat} (h : t.priors b = (s.leftBed m b).priors) :
    t.zones.entries.map (fun x => sparseFind b x.prior) = (s.without m).map (fun x => sparseFind b x.prior) := by
  rw [← State.priors_snd, h]
  unfold State.leftBed
  rw [List.map_map]
  rfl

/-! ### The outcome in the words of R8 to R10 -/

/-- The outcome of a release or expiry on one bed without other cover. -/
theorem ZoneBed.uncovered_reclaimed (z : ZoneBed) (S : Settings) (p : Surface) : z.uncovered S .reclaimed p =
    { z with surface := if z.surface = .empty then .empty else .fresh } := by
  unfold ZoneBed.uncovered
  obtain ⟨surface, wetness, hold, priors⟩ := z
  cases surface <;> rfl

theorem ZoneBed.uncovered_emptied (z : ZoneBed) (S : Settings) (p : Surface) :
    (z.uncovered S .emptied p).surface = .empty ∧ (z.uncovered S .emptied p).wetness = z.wetness ∧
      (z.surface ≠ .empty → (z.uncovered S .emptied p).hold = none) := by
  unfold ZoneBed.uncovered
  obtain ⟨surface, wetness, hold, priors⟩ := z
  cases surface with
  | empty => exact ⟨rfl, rfl, fun h => absurd rfl h⟩
  | _ => exact ⟨rfl, rfl, fun _ => rfl⟩

theorem ZoneBed.uncovered_none_surface (z : ZoneBed) (S : Settings) (p : Surface) :
    (z.uncovered S .none p).surface = (if z.surface = .worked then p else z.surface) ∧
      (z.uncovered S .none p).wetness = z.wetness := by
  unfold ZoneBed.uncovered
  obtain ⟨surface, wetness, hold, priors⟩ := z
  cases surface with
  | worked =>
    dsimp only
    by_cases h : p = .empty
    · rw [if_pos h]
      exact ⟨by simp [ZoneBed.emptied, h], rfl⟩
    · rw [if_neg h]
      exact ⟨rfl, rfl⟩
  | _ => exact ⟨rfl, rfl⟩

theorem ZoneBed.uncovered_expiry (z : ZoneBed) (S : Settings) (p : Surface) : z.uncovered S .expiry p =
    { z with surface := if z.surface = .worked then .fresh else z.surface } := by
  unfold ZoneBed.uncovered
  obtain ⟨surface, wetness, hold, priors⟩ := z
  cases surface <;> rfl

/-! ### The requests -/

theorem zoneRelease_ready {s : State} {node : Node} {machine outcome : Byte} (h : s.ready node 0x05 [machine, outcome]) :
    exec (.zoneRelease node machine outcome) s = .next (s.takeRequest.zoneRelease node machine.toNat outcome) :=
  congrArg Host.Outcome.next (State.serve_ready _ h)

theorem outcomeOf_none {v : Byte} (h : 3 < v.toNat) : outcomeOf v = none := by
  unfold outcomeOf
  have ne : ∀ k : Byte, k.toNat ≤ 3 → v ≠ k := fun k hk e => by rw [e] at h; omega
  rw [if_neg (ne _ (by decide)), if_neg (ne _ (by decide)), if_neg (ne _ (by decide)), if_neg (ne _ (by decide))]

theorem byte_le_three {v : Byte} (h : v.toNat ≤ 3) : v = 0#8 ∨ v = 1#8 ∨ v = 2#8 ∨ v = 3#8 := by
  rcases (by omega : v.toNat = 0 ∨ v.toNat = 1 ∨ v.toNat = 2 ∨ v.toNat = 3) with e | e | e | e
  · exact .inl (BitVec.eq_of_toNat_eq e)
  · exact .inr (.inl (BitVec.eq_of_toNat_eq e))
  · exact .inr (.inr (.inl (BitVec.eq_of_toNat_eq e)))
  · exact .inr (.inr (.inr (BitVec.eq_of_toNat_eq e)))

/-- The outcomes of the request (R97). -/
theorem outcomeOf_some {v : Byte} (h : v.toNat ≤ 3) : ∃ o, outcomeOf v = some o ∧
    (v = 0#8 → o = .none) ∧ (v = 1#8 → o = .stacked) ∧ (v = 2#8 → o = .reclaimed) ∧ (v = 3#8 → o = .emptied) ∧
    (v ≠ 1#8 → o ≠ .stacked) := by
  rcases byte_le_three h with rfl | rfl | rfl | rfl <;> exact ⟨_, rfl, by decide⟩

theorem State.zoneRelease_refusals {s : State} {node : Node} {machine outcome : Byte} :
    (machine = 0#8 ∨ 15 < machine.toNat ∨ 3 < outcome.toNat →
      s.zoneRelease node machine.toNat outcome = s.reply node 0x05 .badValue []) ∧
    (¬(machine = 0#8 ∨ 15 < machine.toNat ∨ 3 < outcome.toNat) → s.claimOf machine.toNat = none →
      s.zoneRelease node machine.toNat outcome = s.reply node 0x05 .noMatch []) := by
  have zero : machine = 0#8 ↔ machine.toNat = 0 := ⟨fun h => by rw [h]; rfl, fun h => BitVec.eq_of_toNat_eq h⟩
  rw [zero]
  refine ⟨fun hbad => ?_, fun hok hnone => ?_⟩
  · unfold State.zoneRelease
    split
    · rfl
    · rename_i o ho
      have : ¬3 < outcome.toNat := fun h => by rw [outcomeOf_none h] at ho; cases ho
      rw [if_pos (by omega)]
  · obtain ⟨o, ho, _⟩ := outcomeOf_some (v := outcome) (by omega)
    unfold State.zoneRelease
    rw [ho]
    dsimp only
    rw [if_neg (by omega), hnone]

theorem State.zoneRelease_takes {s : State} {node : Node} {m : Nat} {outcome : Byte} {o : ReleaseOutcome} {e : Claim}
    (ho : outcomeOf outcome = some o) (h1 : 1 ≤ m) (h2 : m ≤ 15) (he : s.claimOf m = some e) :
    s.zoneRelease node m outcome = ((s.removeClaim e o).causeIfUncovered s).reply node 0x05 .ok
      (be8 (8 - (s.without e.machine).length)) := by
  have entries : ((s.removeClaim e o).causeIfUncovered s).zones.entries.length = (s.without e.machine).length := by
    rw [State.causeIfUncovered_zones]
    have := congrArg List.length (s.removeClaim_bare e o)
    unfold State.bareEntries at this
    rw [List.filter_map, List.length_map, List.length_map] at this
    exact this
  unfold State.zoneRelease
  rw [ho]
  dsimp only
  rw [if_neg (by omega), he]
  dsimp only
  rw [State.freeClaims, entries]

theorem State.removeClaim_machines (s : State) (e : Claim) (o : ReleaseOutcome) :
    (s.removeClaim e o).zones.entries.map Claim.machine = (s.without e.machine).map Claim.machine := by
  have := congrArg (List.map Claim.machine) (s.removeClaim_bare e o)
  unfold State.bareEntries at this
  rw [List.filter_map, List.map_map, List.map_map] at this
  exact this

/-! ### The outcome on the beds of the range -/

section
variable {s t : State} {m b : Nat} {o : ReleaseOutcome} {p : Surface}
  (hz : t.zoneBed b = (s.leftBed m b).released s.conf b o p)
include hz

theorem State.release_uncovered (hd : s.conf.bedDefined b = true) (hc : (s.leftBed m b).touched b = false) :
    (o = .stacked → (t.bed b).surface = .fresh ∧ (t.bed b).wetness = s.conf.wStack) ∧
    (o = .reclaimed → (t.bed b).surface = (if (s.bed b).surface = .empty then .empty else .fresh) ∧
      (t.bed b).wetness = (s.bed b).wetness) ∧
    (o = .emptied → (t.bed b).surface = .empty ∧ (t.bed b).wetness = (s.bed b).wetness ∧
      ((s.bed b).surface ≠ .empty → (t.bed b).hold = none)) ∧
    (o = .none → (t.bed b).surface = (if (s.bed b).surface = .worked then p else (s.bed b).surface)) := by
  rw [ZoneBed.released_uncovered hd hc] at hz
  have surface : (t.bed b).surface = _ := congrArg ZoneBed.surface hz
  have wetness : (t.bed b).wetness = _ := congrArg ZoneBed.wetness hz
  have hold : (t.bed b).hold = _ := congrArg ZoneBed.hold hz
  rw [surface, wetness, hold]
  refine ⟨?_, ?_, ?_, ?_⟩
  · rintro rfl
    exact ⟨rfl, rfl⟩
  · rintro rfl
    rw [ZoneBed.uncovered_reclaimed]
    exact ⟨rfl, rfl⟩
  · rintro rfl
    exact ZoneBed.uncovered_emptied _ _ _
  · rintro rfl
    exact (ZoneBed.uncovered_none_surface _ _ _).1

theorem State.release_covered (hd : s.conf.bedDefined b = true) (hc : (s.leftBed m b).touched b = true) :
    (t.bed b).surface = (s.bed b).surface ∧ (t.bed b).hold = (s.bed b).hold ∧
    ((s.bed b).surface = .worked →
      (o = .stacked → (t.bed b).wetness = s.conf.wStack ∧ t.priors b = (s.leftBed m b).priors.map (sharedTo b .fresh)) ∧
      (o ≠ .stacked → (t.bed b).wetness = (s.bed b).wetness) ∧
      (o = .reclaimed → p ≠ .empty → t.priors b = (s.leftBed m b).priors.map (sharedTo b .fresh)) ∧
      (o = .reclaimed → p = .empty → t.priors b = (s.leftBed m b).priors) ∧
      (o = .emptied → t.priors b = (s.leftBed m b).priors.map (sharedTo b .empty)) ∧
      (o = .none → t.priors b = (s.leftBed m b).priors) ∧
      (o = .expiry → t.priors b = (s.leftBed m b).priors.map (sharedTo b .fresh))) ∧
    ((s.bed b).surface ≠ .worked → (t.bed b).wetness = (s.bed b).wetness ∧ t.priors b = (s.leftBed m b).priors) := by
  have view : t.zoneBed b = if (s.bed b).surface = .worked then (s.leftBed m b).folded s.conf b o p else s.leftBed m b := by
    rw [hz]
    split
    · rename_i hw
      exact ZoneBed.released_worked hd hc hw o p
    · rename_i hw
      exact ZoneBed.released_covered hc hw o p
  have surface : (t.bed b).surface = _ := congrArg ZoneBed.surface view
  have wetness : (t.bed b).wetness = _ := congrArg ZoneBed.wetness view
  have hold : (t.bed b).hold = _ := congrArg ZoneBed.hold view
  have priors : t.priors b = _ := congrArg ZoneBed.priors view
  obtain ⟨ksurface, khold, kwetness⟩ := (s.leftBed m b).folded_kept s.conf b o p
  rw [surface, wetness, hold, priors]
  by_cases hw : (s.bed b).surface = .worked
  · simp only [if_pos hw]
    refine ⟨ksurface, khold, fun _ => ⟨?_, kwetness, ?_, ?_, ?_, ?_, ?_⟩, fun h => absurd hw h⟩
    · rintro rfl
      exact ⟨rfl, rfl⟩
    · rintro rfl hp
      simp [ZoneBed.folded, hp]
    · rintro rfl hp
      simp [ZoneBed.folded, hp]
    all_goals
      rintro rfl
      rfl
  · simp only [if_neg hw]
    exact ⟨rfl, rfl, fun h => absurd h hw, fun _ => ⟨rfl, trivial⟩⟩

end

/-- The bed of an expired entry (R98). -/
theorem State.expiry_bed {s t : State} {m b : Nat} {p : Surface}
    (hz : t.zoneBed b = (s.leftBed m b).released s.conf b .expiry p) :
    (t.bed b).wetness = (s.bed b).wetness ∧ (t.bed b).hold = (s.bed b).hold ∧
    (s.conf.bedDefined b = true → (s.bed b).surface = .worked →
      ((s.leftBed m b).touched b = false → (t.bed b).surface = .fresh) ∧
      ((s.leftBed m b).touched b = true → t.priors b = (s.leftBed m b).priors.map (sharedTo b .fresh))) ∧
    ((s.bed b).surface ≠ .worked ∨ (s.leftBed m b).touched b = true → (t.bed b).surface = (s.bed b).surface) := by
  have surface : (t.bed b).surface = _ := congrArg ZoneBed.surface hz
  have wetness : (t.bed b).wetness = _ := congrArg ZoneBed.wetness hz
  have hold : (t.bed b).hold = _ := congrArg ZoneBed.hold hz
  cases hd : s.conf.bedDefined b with
  | false =>
    rw [ZoneBed.released_undefined hd] at surface wetness hold
    exact ⟨wetness, hold, fun h => absurd h (by simp), fun _ => surface⟩
  | true =>
    cases hc : (s.leftBed m b).touched b with
    | true =>
      obtain ⟨ksurface, khold, worked, other⟩ := State.release_covered hz hd hc
      refine ⟨?_, khold, fun _ hw => ⟨fun h => absurd h (by simp), fun _ => ?_⟩, fun _ => ksurface⟩
      · by_cases hw : (s.bed b).surface = .worked
        · obtain ⟨_, kept, _⟩ := worked hw
          exact kept (by decide)
        · exact (other hw).1
      · obtain ⟨_, _, _, _, _, _, shared⟩ := worked hw
        exact shared rfl
    | false =>
      rw [ZoneBed.released_uncovered hd hc, ZoneBed.uncovered_expiry] at surface wetness hold
      refine ⟨wetness, hold, fun _ hw => ⟨fun _ => surface.trans (if_pos hw), fun h => absurd h (by simp)⟩, fun h => ?_⟩
      rcases h with h | h
      · exact surface.trans (if_neg h)
      · cases h

/-! ### The notice of an expiry -/

theorem State.makeClaimExpired_room {s : State} (m : Nat) (hc : s.classes .claimExpired ≠ 0) (hp : s.zones.pending = [])
    (hf : 5 ≤ s.free) : (s.makeClaimExpired m).port.outbound =
      s.port.outbound ++ [.notice (s.classes .claimExpired) .claimExpired (be8 m)] ∧ (s.makeClaimExpired m).zones.pending = [] := by
  have flushed : s.flushClaimExpired = { s with zones := { s.zones with pending := [] } } := by
    unfold State.flushClaimExpired
    simp [hp, sendWhileRoom]
  unfold State.makeClaimExpired
  rw [if_neg hc, flushed]
  have room : State.room { s with zones := { s.zones with pending := [] } } = true := decide_eq_true hf
  dsimp only
  rw [if_pos room]
  exact ⟨rfl, rfl⟩

theorem State.makeClaimExpired_full {s : State} (m : Nat) (hc : s.classes .claimExpired ≠ 0) (hf : s.free < 5) :
    (s.makeClaimExpired m).port = s.port ∧ (s.makeClaimExpired m).zones.pending =
      (if 8 ≤ s.zones.pending.length then s.zones.pending.drop 1 else s.zones.pending) ++ [m] := by
  have room : s.room = false := decide_eq_false (by omega)
  have sent : sendWhileRoom .claimExpired (s.zones.pending.map be8) s = (s, 0) := by
    cases s.zones.pending with
    | nil => rfl
    | cons x rest =>
      simp only [List.map_cons, sendWhileRoom, room]
      rfl
  have flushed : s.flushClaimExpired = s := by
    unfold State.flushClaimExpired
    rw [sent]
    rfl
  unfold State.makeClaimExpired
  rw [if_neg hc, flushed]
  dsimp only
  rw [room]
  refine ⟨by simp, ?_⟩
  change pushPending s.zones.pending m = _
  unfold pushPending
  split <;> rfl

theorem State.makeClaimExpired_unrouted {s : State} (m : Nat) (hc : s.classes .claimExpired = 0) : s.makeClaimExpired m = s :=
  if_pos hc

theorem Untold.trans {s t u : State} (h1 : Untold s t) (h2 : Untold t u) : Untold s u := by
  obtain ⟨p1, z1, c1⟩ := h1
  obtain ⟨p2, z2, c2⟩ := h2
  exact ⟨p2.trans p1, z2.trans z1, c2.trans c1⟩

/-! ### The two commands -/

theorem State.zoneBed_takeRequest (s : State) (b : Nat) : s.takeRequest.zoneBed b = s.zoneBed b := by
  obtain ⟨p, e⟩ := s.takeRequest_port
  rw [e]
  rfl

theorem State.leftBed_takeRequest (s : State) (m b : Nat) : s.takeRequest.leftBed m b = s.leftBed m b := by
  obtain ⟨p, e⟩ := s.takeRequest_port
  rw [e]
  rfl

theorem State.without_takeRequest (s : State) (m : Nat) : s.takeRequest.without m = s.without m := by
  obtain ⟨p, e⟩ := s.takeRequest_port
  rw [e]
  rfl

theorem State.claimOf_takeRequest (s : State) (m : Nat) : s.takeRequest.claimOf m = s.claimOf m := by
  obtain ⟨p, e⟩ := s.takeRequest_port
  rw [e]
  rfl

/-- A taken ZONE_RELEASE of a machine in the table (R97): its reply, the table, and what it makes of each bed. -/
theorem zoneRelease_effect {s : State} {node : Node} {machine outcome : Byte} {o : ReleaseOutcome} {e : Claim}
    (he : s.claimOf machine.toNat = some e) (h1 : 1 ≤ machine.toNat) (h2 : machine.toNat ≤ 15)
    (ho : outcomeOf outcome = some o) (h : s.ready node 0x05 [machine, outcome]) :
    ∃ t, exec (.zoneRelease node machine outcome) s = .next t ∧
      t.zones.entries.map Claim.machine = (s.without e.machine).map Claim.machine ∧
      s.answers t node 0x05 .ok (be8 (8 - (s.without e.machine).length)) ∧
      ∀ b, 1 ≤ b → b ≤ 32 → t.zoneBed b =
        if e.first ≤ b ∧ b ≤ e.last then (s.leftBed e.machine b).released s.conf b o (e.priorOf b) else s.leftBed e.machine b := by
  have run := zoneRelease_ready h
  rw [State.zoneRelease_takes ho h1 h2 ((s.claimOf_takeRequest _).trans he), State.without_takeRequest] at run
  set u := s.takeRequest with hu
  have aside := (u.removeClaim e o).causeIfUncovered_aside u
  have urgent : ((u.removeClaim e o).causeIfUncovered u).port.urgent = u.port.urgent := by simp
  have routine : ((u.removeClaim e o).causeIfUncovered u).port.routine = u.port.routine := by simp
  refine ⟨_, run, ?_, State.answers_of_reply urgent routine ((u.removeClaim_outbound e o).trans aside.outbound), fun b h1 h2 => ?_⟩
  · rw [State.reply_zones, State.causeIfUncovered_zones, State.removeClaim_machines, hu, State.without_takeRequest]
  · have view := u.removeClaim_zoneBed e o h1 h2
    rw [hu, State.leftBed_takeRequest, State.takeRequest_conf, ← hu] at view
    rw [← view]
    exact (aside.trans (State.reply_aside _ _ _ _ _)).zoneBed (by simp) b

/-- Settles O37: bed by bed the removed entry's outcome is `ZoneBed.released`, and an expiry tells in one notice. -/
theorem releasesAndClaimExpiries : Obligations.ReleasesAndClaimExpiries := by
  refine ⟨fun s node machine outcome ready => ?_, fun s e he => ⟨fun node machine outcome hm h1 h2 ho ready => ?_, ?_⟩⟩
  · rw [zoneRelease_ready ready]
    obtain ⟨bad, none⟩ := State.zoneRelease_refusals (s := s.takeRequest) (node := node) (machine := machine) (outcome := outcome)
    refine ⟨fun h => congrArg Host.Outcome.next (bad h), fun h hn => congrArg Host.Outcome.next (none h ?_)⟩
    exact (s.claimOf_takeRequest _).trans hn
  · obtain ⟨o, known, is0, is1, is2, is3, not1⟩ := outcomeOf_some ho
    rw [← hm] at he
    obtain ⟨t, run, machines, answers, view⟩ := zoneRelease_effect he h1 h2 known ready
    refine ⟨t, run, machines, answers, fun b h1 h2 hf hl hd => ⟨fun hc => ?_, fun hc => ?_⟩, fun b h1 h2 hout => ?_⟩
    · have taken := view b h1 h2
      rw [if_pos ⟨hf, hl⟩] at taken
      obtain ⟨stacked, reclaimed, emptied, none⟩ := State.release_uncovered taken hd ((s.leftBed_touched _ _).trans hc)
      exact ⟨fun h => stacked (is1 h), fun h => reclaimed (is2 h), fun h => emptied (is3 h), fun h => none (is0 h)⟩
    · have taken := view b h1 h2
      rw [if_pos ⟨hf, hl⟩] at taken
      obtain ⟨surface, hold, worked, other⟩ := State.release_covered taken hd ((s.leftBed_touched _ _).trans hc)
      refine ⟨surface, hold, fun hw => ?_, fun hw => ⟨(other hw).1, State.priors_of_left (other hw).2⟩⟩
      obtain ⟨stacked, wetness, reclaimed, kept, emptied, none, _⟩ := worked hw
      exact ⟨fun h => ⟨(stacked (is1 h)).1, State.prior_of_shared (stacked (is1 h)).2⟩, fun h => wetness (not1 h),
        fun h hp => State.prior_of_shared (reclaimed (is2 h) hp), fun h hp => State.priors_of_left (kept (is2 h) hp),
        fun h => State.prior_of_shared (emptied (is3 h)), fun h => State.priors_of_left (none (is0 h))⟩
    · have left : t.zoneBed b = s.leftBed e.machine b := by
        rw [view b h1 h2]
        split
        · rcases hout with h | h | h
          · omega
          · omega
          · exact ZoneBed.released_undefined h _ _
        · rfl
      exact ⟨congrArg ZoneBed.surface left, congrArg ZoneBed.wetness left, congrArg ZoneBed.hold left⟩
  · set r := s.reach (e.since + ms s.conf.tClaim) with hr
    set q := (r.removeClaim e .expiry).causeIfUncovered r with hq
    have run : exec (.claimExpiry e.machine) s = .next (q.makeClaimExpired e.machine) := by
      change execClaimExpiry e.machine s = _
      unfold execClaimExpiry
      rw [he]
      rfl
    have aside := ((r.removeClaim e .expiry).causeIfUncovered_aside r).trans (q.makeClaimExpired_aside e.machine)
    obtain ⟨port, pending, conf⟩ := (r.removeClaim_expiry_untold e).trans (State.causeIfUncovered_untold _ r)
    have free : q.free = s.free := by
      unfold State.free
      rw [port]
      rfl
    have classes : q.classes .claimExpired = s.classes .claimExpired := by
      unfold State.classes
      rw [conf]
      rfl
    refine ⟨_, run, ?_, ?_, fun b h1 h2 => ?_, fun hc hp hf => ?_, fun hc hf => ?_, fun hc => ?_⟩
    · simp [hq, hr, State.reach, ms]
    · have entries : (q.makeClaimExpired e.machine).zones.entries = (r.removeClaim e .expiry).zones.entries := by simp [hq]
      rw [entries]
      exact r.removeClaim_machines e .expiry
    · have view := r.removeClaim_zoneBed e .expiry h1 h2
      rw [← aside.zoneBed (by simp [hq]) b] at view
      by_cases hin : e.first ≤ b ∧ b ≤ e.last
      · rw [if_pos hin] at view
        obtain ⟨wetness, hold, worked, kept⟩ := State.expiry_bed (s := s) view
        refine ⟨wetness, hold, fun _ _ hd hw => ⟨fun hc => ?_, fun hc => ?_⟩, fun h => kept ?_⟩
        · exact (worked hd hw).1 ((s.leftBed_touched _ _).trans hc)
        · exact State.prior_of_shared ((worked hd hw).2 ((s.leftBed_touched _ _).trans hc))
        · rcases h with h | h | h
          · exact .inl h
          · exact .inr ((s.leftBed_touched _ _).trans h)
          · omega
      · rw [if_neg hin] at view
        refine ⟨congrArg ZoneBed.wetness view, congrArg ZoneBed.hold view, fun hf hl => absurd ⟨hf, hl⟩ hin, fun _ =>
          congrArg ZoneBed.surface view⟩
    · have told := State.makeClaimExpired_room (s := q) e.machine (by rwa [classes]) (pending.trans hp) (by rwa [free])
      rw [classes, port] at told
      exact told
    · have told := State.makeClaimExpired_full (s := q) e.machine (by rwa [classes]) (by rwa [free])
      rw [pending, port] at told
      exact told
    · rw [State.makeClaimExpired_unrouted (s := q) e.machine (by rwa [classes])]
      exact ⟨port, pending⟩

end Sys2Proof.Machine
end

section
/-! The machine table stays lawful in every step (R92). -/

namespace Sys2Proof.Machine

/-- The law of the machine table, on its bare entries. -/
def tableLaw (l : List Claim) : Prop :=
  l.length ≤ 8 ∧ (l.map Claim.machine).Nodup ∧ ∀ e ∈ l, 1 ≤ e.machine ∧ e.machine ≤ 15 ∧ e.first ≤ e.last

theorem State.zoneLaw_iff (s : State) : s.zoneLaw ↔ tableLaw s.bareEntries := by
  have machines : s.bareEntries.map Claim.machine = s.zones.entries.map Claim.machine := by
    unfold State.bareEntries
    rw [List.map_map]
    rfl
  unfold tableLaw State.zoneLaw
  rw [machines]
  unfold State.bareEntries
  simp only [List.length_map, List.forall_mem_map]
  rfl

/-- A table that loses entries stays lawful. -/
theorem tableLaw_of_sublist {l k : List Claim} (h : k.Sublist l) (hl : tableLaw l) : tableLaw k := by
  obtain ⟨count, machines, entries⟩ := hl
  exact ⟨h.length_le.trans count, (h.map Claim.machine).nodup machines, fun e he => entries e (h.subset he)⟩

theorem State.zoneLaw_of_bare {s t : State} (h : t.bareEntries = s.bareEntries) (hs : s.zoneLaw) : t.zoneLaw := by
  rw [State.zoneLaw_iff, h]
  exact s.zoneLaw_iff.mp hs

theorem State.zoneLaw_of_entries {s t : State} (h : t.zones.entries = s.zones.entries) (hs : s.zoneLaw) : t.zoneLaw :=
  State.zoneLaw_of_bare (State.bareEntries_congr h) hs

theorem State.zoneLaw_of_sublist {s t : State} (h : t.bareEntries.Sublist s.bareEntries) (hs : s.zoneLaw) : t.zoneLaw :=
  t.zoneLaw_iff.mpr (tableLaw_of_sublist h (s.zoneLaw_iff.mp hs))

theorem State.zoneLaw_of_noEntries {s : State} (h : s.zones.entries = []) : s.zoneLaw := by
  unfold State.zoneLaw
  rw [h]
  exact ⟨by decide, List.nodup_nil, fun _ he => absurd he List.not_mem_nil⟩

/-! ### Claims and releases -/

theorem State.claimOf_none {s : State} {m : Nat} (h : s.claimOf m = none) : ∀ e ∈ s.zones.entries, e.machine ≠ m := by
  intro e he
  simpa using List.find?_eq_none.mp h e he

theorem State.newClaim_zoneLaw {s : State} {m : Nat} (a : ZoneActivity) {f l : Nat} (hm : 1 ≤ m) (hm2 : m ≤ 15) (hfl : f ≤ l)
    (hn : s.claimOf m = none) (hc : s.zones.entries.length < 8) (h : s.zoneLaw) : (s.newClaim m a f l).zoneLaw := by
  rw [State.zoneLaw_iff, State.newClaim_bare]
  obtain ⟨_, machines, entries⟩ := s.zoneLaw_iff.mp h
  have fresh : ∀ e ∈ s.bareEntries, e.machine ≠ m := by
    intro e he
    obtain ⟨x, hx, rfl⟩ := List.mem_map.mp he
    exact State.claimOf_none hn x hx
  refine ⟨?_, ?_, ?_⟩
  · have : s.bareEntries.length = s.zones.entries.length := List.length_map _
    simp only [List.length_append, List.length_singleton]
    omega
  · rw [List.map_append, List.nodup_append]
    refine ⟨machines, List.nodup_singleton _, fun x hx y hy => ?_⟩
    obtain ⟨e, he, rfl⟩ := List.mem_map.mp hx
    rw [List.map_singleton, List.mem_singleton] at hy
    exact hy ▸ fresh e he
  · intro e he
    rcases List.mem_append.mp he with he | he
    · exact entries e he
    · rw [List.mem_singleton] at he
      subst he
      exact ⟨hm, hm2, hfl⟩

theorem State.replaceClaim_zoneLaw {s : State} {old : Claim} (hold : old ∈ s.zones.entries) (a : ZoneActivity) {f l : Nat}
    (hfl : f ≤ l) (h : s.zoneLaw) : (s.replaceClaim old a f l).zoneLaw := by
  rw [State.zoneLaw_iff, State.replaceClaim_bare]
  obtain ⟨count, machines, entries⟩ := s.zoneLaw_iff.mp h
  have same : ∀ e, (replacedBare s.osc old a f l e).machine = e.machine := by
    intro e
    unfold replacedBare
    split
    · rename_i he
      exact he.symm
    · rfl
  refine ⟨by simpa using count, ?_, ?_⟩
  · rw [List.map_map, (funext same : Claim.machine ∘ replacedBare s.osc old a f l = Claim.machine)]
    exact machines
  · intro e he
    obtain ⟨x, hx, rfl⟩ := List.mem_map.mp he
    unfold replacedBare
    split
    · obtain ⟨h1, h2, _⟩ := entries _ (State.bare_mem hold)
      exact ⟨h1, h2, hfl⟩
    · exact entries x hx

theorem State.removeClaim_zoneLaw {s : State} (e : Claim) (o : ReleaseOutcome) (h : s.zoneLaw) : (s.removeClaim e o).zoneLaw :=
  State.zoneLaw_of_sublist (by rw [State.removeClaim_bare]; exact List.filter_sublist) h

theorem State.zoneClaim_zoneLaw {s : State} (n : Node) (m : Nat) (a : Byte) (f l : Nat) (h : s.zoneLaw) :
    (s.zoneClaim n m a f l).zoneLaw := by
  have replied : ∀ (u : State) (r : Result) (d : List Byte), u.zoneLaw → (u.reply n 0x04 r d).zoneLaw := fun _ _ _ hu => hu
  unfold State.zoneClaim
  split
  · exact replied _ _ _ h
  · split
    · exact replied _ _ _ h
    · split
      · exact replied _ _ _ h
      · rename_i a _ hm _
        have : 1 ≤ m ∧ m ≤ 15 ∧ f ≤ l := by omega
        split
        · rename_i old hold
          exact replied _ _ _ (State.replaceClaim_zoneLaw (State.claimOf_mem hold).1 a this.2.2 h)
        · rename_i hn
          split
          · exact replied _ _ _ h
          · rename_i hc
            exact replied _ _ _ (State.newClaim_zoneLaw a this.1 this.2.1 this.2.2 hn (by omega) h)

theorem State.zoneRelease_zoneLaw {s : State} (n : Node) (m : Nat) (o : Byte) (h : s.zoneLaw) :
    (s.zoneRelease n m o).zoneLaw := by
  have replied : ∀ (u : State) (r : Result) (d : List Byte), u.zoneLaw → (u.reply n 0x05 r d).zoneLaw := fun _ _ _ hu => hu
  unfold State.zoneRelease
  split
  · exact replied _ _ _ h
  · split
    · exact replied _ _ _ h
    · split
      · exact replied _ _ _ h
      · rename_i o _ _ _ e _
        exact replied _ _ _ (State.zoneLaw_of_entries (by simp) (State.removeClaim_zoneLaw e o h))

/-! ### The load -/

theorem State.loadBlocks_entries (s : State) : s.loadBlocks.zones.entries = s.zones.entries := by
  obtain ⟨m, e⟩ := s.loadMeasurement_own
  have joined : ∀ u : State, u.joinBus.zones = u.zones := by
    intro u
    unfold State.joinBus
    dsimp only
    split <;> rfl
  unfold State.loadBlocks
  rw [joined, e]
  split <;> rfl

theorem State.leaveStarting_zones (s : State) (v : Bool) : (s.leaveStarting v).zones = s.zones := by
  unfold State.leaveStarting
  dsimp only
  split
  · split <;> simp
  · simp

theorem State.loadLeft_entries (s : State) (S : Settings) (v : Bool) : (s.loadLeft S v).zones.entries = s.zones.entries := by
  have settings : (s.loadSettings S v).zones = s.zones := by unfold State.loadSettings; dsimp only; split <;> rfl
  have blocks : (s.loadSettings S v).loadBlocks.zones.entries = s.zones.entries := by rw [State.loadBlocks_entries, settings]
  unfold State.loadLeft
  dsimp only
  rw [State.leaveStarting_zones]
  split <;> simpa using blocks

theorem State.loadGate_entries (s : State) : s.loadGate.zones.entries = s.zones.entries := by
  unfold State.loadGate State.judgeGate
  split
  · dsimp only
    split
    · rfl
    · split <;> simp
  · rfl

theorem restartBed_bare (before : Settings) (s : State) (b : Nat) : (restartBed before s b).bareEntries = s.bareEntries := by
  unfold restartBed
  split
  · refine State.bareEntries_congr ?_
    unfold State.keepBed State.settle
    dsimp only
    split
    · split <;> simp
    · simp
  · unfold State.resetBed
    dsimp only
    have renewed : ∀ u : State, u.bareEntries = s.bareEntries →
        (if s.conf.bedDefined b = true then
          if s.touched b = true then (u.setSurface b .worked).sharePrior b .settled else u
        else u.dropPrior b).bareEntries = s.bareEntries := by
      intro u hu
      split
      · split
        · rw [State.sharePrior_bare, State.setSurface_bare, hu]
        · exact hu
      · rw [State.dropPrior_bare, hu]
    refine renewed _ ?_
    split
    · exact State.bareEntries_congr (by simp)
    · rfl

theorem restartClaim_bare (s : State) (e : Claim) : (restartClaim s e).bareEntries.Sublist s.bareEntries := by
  unfold restartClaim
  split
  · rw [State.expireClaim_bare]
    exact List.filter_sublist
  · exact List.Sublist.refl _

theorem State.restartEffects_bare (s : State) (before : Settings) : (s.restartEffects before).bareEntries.Sublist s.bareEntries := by
  have beds := foldl_bare (restartBed before) (restartBed_bare before) bedNumbers s
  unfold State.restartEffects
  dsimp only
  generalize bedNumbers.foldl (restartBed before) s = u at beds ⊢
  have claims : (u.zones.entries.foldl restartClaim u).bareEntries.Sublist u.bareEntries :=
    foldl_keeps (fun s t => t.bareEntries.Sublist s.bareEntries) (fun _ => List.Sublist.refl _)
      (fun _ _ _ h1 h2 => h2.trans h1) restartClaim restartClaim_bare u.zones.entries u
  rw [State.bareEntries_congr (t := (u.zones.entries.foldl restartClaim u).judgeForecast)
    (s := u.zones.entries.foldl restartClaim u) (by simp), ← beds]
  exact claims

theorem State.load_bare (s : State) (S : Settings) (v : Bool) : (s.load S v).bareEntries.Sublist s.bareEntries := by
  have left : (s.loadLeft S v).bareEntries = s.bareEntries := State.bareEntries_congr (s.loadLeft_entries S v)
  have swept : ∀ u : State, u.sweep.cause.bareEntries = u.bareEntries := by
    have caused : ∀ u : State, u.cause.bareEntries = u.bareEntries := fun _ => rfl
    intro u
    obtain ⟨_, entries, _⟩ := u.sweep_quiet
    rw [caused, State.bareEntries_congr entries]
  rw [State.load_eq, swept]
  split
  · refine (State.restartEffects_bare _ _).trans ?_
    rw [State.bareEntries_congr (State.loadGate_entries _), left]
  · rw [left]

/-! ### Every command -/

theorem State.serve_zoneLaw {s : State} (node : Node) (code : Nat) (data : List Byte) (owner : State → State)
    (ho : ∀ u : State, u.zoneLaw → (owner u).zoneLaw) (h : s.zoneLaw) : (s.serve node code data owner).zoneLaw := by
  have taken : s.takeRequest.zoneLaw := State.zoneLaw_of_entries (by simp) h
  rcases s.serve_cases node code data owner with ⟨_, e⟩ | ⟨_, _, e⟩ | ⟨_, _, _, _, e⟩ | ⟨_, e⟩ <;> rw [e]
  · exact h
  · exact taken
  · exact taken
  · exact ho _ taken

theorem zoneLaw_of_next {s u t : State} (hx : (Host.Outcome.next u : Out) = .next t) (h : s.zoneLaw → u.zoneLaw) :
    s.zoneLaw → t.zoneLaw := by
  injection hx with hx
  exact hx ▸ h

theorem State.evaluate_entries (s : State) : s.evaluate.zones.entries = s.zones.entries := by
  have beds : ∀ (f : Bool) (u : State), (bedNumbers.foldl (evaluateBed f) u).zones.entries = u.zones.entries := fun f u =>
    (Quiet.foldl (evaluateBed f) (evaluateBed_quiet f) bedNumbers u).2.1
  unfold State.evaluate
  dsimp only
  rw [beds]
  simp

theorem State.maintEnter_entries (s : State) (n : Node) : (s.maintEnter n).zones.entries = s.zones.entries := by
  unfold State.maintEnter
  split
  · rfl
  · dsimp only
    simp

theorem State.beginRestart_entries (s : State) (image : Option (List Byte)) :
    (s.beginRestart image).zones.entries = s.zones.entries := by
  have tests : (cannonNumbers.foldl endRunningTest s).zones = s.zones :=
    foldl_keeps (fun s t => t.zones = s.zones) (fun _ => rfl) (fun _ _ _ h1 h2 => h2.trans h1) endRunningTest
      (fun u c => by unfold endRunningTest; split <;> simp) cannonNumbers s
  have cancelled : ∀ u : State, u.cancelOrders.zones = u.zones := by
    intro u
    exact foldl_keeps (fun s t => t.zones = s.zones) (fun _ => rfl) (fun _ _ _ h1 h2 => h2.trans h1)
      (fun t o => t.removeOrder o .cancelled) (fun _ _ => by simp) u.disp.orders u
  unfold State.beginRestart
  generalize cannonNumbers.foldl endRunningTest s = u at tests ⊢
  exact congrArg Zones.entries ((cancelled u).trans tests)

theorem execReadBack_entries {d : List Host.Cell} {s t : State} (hx : execReadBack d s = .next t) :
    t.zones.entries = s.zones.entries := by
  have replied : ∀ (u : State) (r : Result) (x : List Byte), (u.replyCommit r x).zones = u.zones := by
    intro u r x
    unfold State.replyCommit
    split <;> rfl
  unfold execReadBack at hx
  injection hx with hx
  subst hx
  split
  · split
    · rfl
    · dsimp only
      split
      · exact congrArg Zones.entries (replied _ _ _)
      · refine (State.beginRestart_entries _ _).trans ?_
        exact congrArg Zones.entries (replied _ _ _)
  · rfl

theorem State.maintExit_entries (s : State) (n : Node) : (s.maintExit n).zones.entries = s.zones.entries := by
  unfold State.maintExit
  split
  · rfl
  · split
    · rfl
    · exact State.beginRestart_entries _ _

theorem State.timeSet_entries (s : State) (n : Node) (d v : Nat) : (s.timeSet n d v).zones.entries = s.zones.entries := by
  unfold State.timeSet
  dsimp only
  rw [State.reply_zones]
  split <;> split <;> simp

theorem State.weatherNow_entries (s : State) (n : Node) (r : Nat) (hu te : Byte) :
    (s.weatherNow n r hu te).zones.entries = s.zones.entries := by
  obtain ⟨_, zones, _⟩ := s.weathered_kept r hu te
  exact congrArg Zones.entries zones

theorem State.forecastSlot_entries (s : State) (n : Node) (i k p : Nat) (f : BitVec 40) :
    (s.forecastSlot n i k p f).zones.entries = s.zones.entries := by
  have opened : (s.openIssue i).zones = s.zones := by unfold State.openIssue; split <;> rfl
  unfold State.forecastSlot
  split
  · rfl
  · split
    · rfl
    · simp [State.replyIssue, State.storePart, opened]

theorem State.pumpState_entries (s : State) (n : Node) (p f : Nat) : (s.pumpState n p f).zones.entries = s.zones.entries := by
  unfold State.pumpState
  dsimp only
  rw [State.reply_zones]
  split
  · change (State.zones (if _ then _ else _)).entries = _
    split
    · simp [State.formCapacities]
    · rfl
  · split
    · simp [State.formCapacities]
    · rfl

theorem execYardSecond_entries {s t : State} (hx : execYardSecond s = .next t) : t.zones.entries = s.zones.entries := by
  unfold execYardSecond at hx
  injection hx with hx
  subst hx
  dsimp only
  split
  · simp [State.setClock]
  · split
    · simp [State.setClock]
    · rfl

/-- Every command keeps the machine table lawful. -/
theorem exec_zoneLaw {c : Instr} {s t : State} (h : s.zoneLaw) (hx : exec c s = .next t) : t.zoneLaw := by
  have served : ∀ (node : Node) (code : Nat) (data : List Byte) (owner : State → State),
      (∀ u : State, (owner u).zones.entries = u.zones.entries) →
      (Host.Outcome.next (s.serve node code data owner) : Out) = .next t → t.zoneLaw := fun node code data owner ho hx =>
    zoneLaw_of_next hx (State.serve_zoneLaw node code data owner (fun u hu => State.zoneLaw_of_entries (ho u) hu)) h
  cases hq : Instr.isQuiet c with
  | true => exact State.zoneLaw_of_entries (exec_quiet hq hx).2.1 h
  | false =>
    cases c with
    | powerOnReset => exact zoneLaw_of_next hx (fun _ => State.zoneLaw_of_noEntries rfl) h
    | externalReset => exact zoneLaw_of_next hx (fun _ => State.zoneLaw_of_noEntries rfl) h
    | load a =>
      rcases execLoad_cases hx with rfl | ⟨S, v, _, _, rfl⟩
      · exact h
      · exact State.zoneLaw_of_sublist (s.load_bare S v) h
    | forecastSlot n i k p f => exact served _ _ _ _ (fun u => u.forecastSlot_entries n _ _ _ f) hx
    | weatherNow n r hu te => exact served _ _ _ _ (fun u => u.weatherNow_entries n _ hu te) hx
    | evaluation =>
      refine zoneLaw_of_next hx (State.zoneLaw_of_entries ?_) h
      split
      · exact State.evaluate_entries _
      · rfl
    | pumpState n p f => exact served _ _ _ _ (fun u => u.pumpState_entries n _ _) hx
    | zoneClaim n m a f l =>
      exact zoneLaw_of_next hx (State.serve_zoneLaw _ _ _ _ (fun _ => State.zoneClaim_zoneLaw n _ a _ _)) h
    | zoneRelease n m o =>
      exact zoneLaw_of_next hx (State.serve_zoneLaw _ _ _ _ (fun _ => State.zoneRelease_zoneLaw n _ o)) h
    | claimExpiry m =>
      refine zoneLaw_of_next hx (fun h => ?_) h
      split
      · rename_i e _
        exact State.zoneLaw_of_sublist (by rw [State.expireClaim_bare]; exact List.filter_sublist)
          (State.zoneLaw_of_entries (t := s.reach (e.since + ms s.conf.tClaim)) rfl h)
      · exact h
    | allHold n => exact served _ _ _ _ (fun u => by simp [State.allHold, State.replyMode]) hx
    | holdRelease n =>
      refine served _ _ _ _ (fun u => ?_) hx
      unfold State.holdRelease State.replyMode
      split <;> simp
    | maintEnter n => exact served _ _ _ _ (fun u => u.maintEnter_entries n) hx
    | maintExit n => exact served _ _ _ _ (fun u => u.maintExit_entries n) hx
    | yardSecond => exact State.zoneLaw_of_entries (execYardSecond_entries hx) h
    | timeSet n d v => exact served _ _ _ _ (fun u => u.timeSet_entries n _ _) hx
    | readBack d => exact State.zoneLaw_of_entries (execReadBack_entries hx) h
    | _ => cases hq

theorem step_zoneLaw {s t : State} (h : s.zoneLaw) (hx : step s = .next t) : t.zoneLaw := by
  unfold step at hx
  split at hx
  · rename_i c rest _
    exact exec_zoneLaw (s := { s with pending := rest }) h hx
  · injection hx with hx
    exact hx ▸ h

end Sys2Proof.Machine
end

section
/-! ZONE_CLAIM: a new entry, a renewal and a replacement (R6, R7, R93 to R96). -/

namespace Sys2Proof.Machine

/-! ### One bed of a claim -/

namespace ZoneBed
variable (z : ZoneBed)

/-- What a claim of an activity makes of a bed's surface state (R6). -/
theorem applied_surface (b : Nat) (a : ZoneActivity) (p : Surface) :
    (a = .stack → (z.applied b a p).surface = .worked) ∧
    (a = .reclaim → (z.applied b a p).surface = if z.surface = .empty then .empty else .worked) ∧
    (a = .travel ∨ a = .load → (z.applied b a p).surface = z.surface) := by
  obtain ⟨surface, wetness, hold, priors⟩ := z
  refine ⟨?_, ?_, ?_⟩
  · rintro rfl
    cases surface <;> rfl
  · rintro rfl
    cases surface <;> rfl
  · rintro (rfl | rfl) <;> rfl

theorem applied_kept (b : Nat) (a : ZoneActivity) (p : Surface) :
    (z.applied b a p).wetness = z.wetness ∧ (z.applied b a p).hold = z.hold := by
  unfold applied
  split <;> exact ⟨rfl, rfl⟩

/-- A claim leaves a WORKED bed as it is (R6). -/
theorem applied_worked {z : ZoneBed} (b : Nat) (a : ZoneActivity) (p : Surface) (h : z.surface = .worked) :
    z.applied b a p = z := by
  unfold applied
  rw [h]
  cases a <;> rfl

/-- A bed that becomes WORKED has its prior state in every entry over it (R7). -/
theorem applied_shared {z : ZoneBed} {b : Nat} {a : ZoneActivity} {p : Surface} (h : z.surface ≠ .worked)
    (hw : (z.applied b a p).surface = .worked) : (z.applied b a p).priors = z.priors.map (sharedTo b p) := by
  unfold applied at hw ⊢
  split at hw
  · rename_i on
    rw [if_pos on]
  · exact absurd hw h

end ZoneBed

/-- Every entry of a machine keeps the same prior state. -/
def keeps (l : List (Claim × Option Surface)) (m : Nat) (x : Option Surface) : Prop := ∀ q ∈ l, q.1.machine = m → q.2 = x

theorem keeps_written (l : List (Claim × Option Surface)) (m : Nat) (p : Surface) : keeps (l.map (writtenTo m p)) m (some p) := by
  intro q hq hm
  obtain ⟨r, _, rfl⟩ := List.mem_map.mp hq
  unfold writtenTo at hm ⊢
  split at hm
  · rename_i h
    rw [if_pos h]
  · rename_i h
    exact absurd hm h

theorem keeps_shared {l : List (Claim × Option Surface)} {m : Nat} {p : Surface} (b : Nat) (h : keeps l m (some p)) :
    keeps (l.map (sharedTo b p)) m (some p) := by
  intro q hq hm
  obtain ⟨r, hr, rfl⟩ := List.mem_map.mp hq
  unfold sharedTo at hm ⊢
  split at hm
  · rename_i hc
    rw [if_pos hc]
  · rename_i hc
    rw [if_neg hc]
    exact h r hr hm

theorem ZoneBed.applied_keeps {z : ZoneBed} {m : Nat} {p : Surface} (b : Nat) (a : ZoneActivity)
    (h : keeps z.priors m (some p)) : keeps (z.applied b a p).priors m (some p) := by
  unfold applied
  split
  · exact keeps_shared b h
  · exact h

/-! ### A bed that enters a range -/

section
variable {z : ZoneBed} {S : Settings} {m b : Nat} {a : ZoneActivity}

theorem ZoneBed.entered_eq (hd : S.bedDefined b = true) :
    z.entered S m a b = (z.written m z.priorFor).applied b a z.priorFor := if_pos hd

theorem ZoneBed.entered_kept : (z.entered S m a b).wetness = z.wetness ∧ (z.entered S m a b).hold = z.hold := by
  unfold entered
  split
  · exact ZoneBed.applied_kept (z.written m z.priorFor) b a z.priorFor
  · exact ⟨rfl, rfl⟩

theorem ZoneBed.entered_keeps (hd : S.bedDefined b = true) : keeps (z.entered S m a b).priors m (some z.priorFor) := by
  rw [ZoneBed.entered_eq hd]
  exact ZoneBed.applied_keeps b a (keeps_written _ m _)

theorem ZoneBed.entered_surface (hd : S.bedDefined b = true) :
    (a = .stack → (z.entered S m a b).surface = .worked) ∧
    (a = .reclaim → (z.entered S m a b).surface = if z.surface = .empty then .empty else .worked) ∧
    (a = .travel ∨ a = .load → (z.entered S m a b).surface = z.surface) := by
  rw [ZoneBed.entered_eq hd]
  exact ZoneBed.applied_surface (z.written m z.priorFor) b a z.priorFor

end

theorem ZoneBed.priorFor_eq {z : ZoneBed} (h : z.surface ≠ .worked) : z.priorFor = z.surface := if_neg h

/-- One prior state that the entries share is the kept one (R7). -/
theorem findSome_unique {l : List (Claim × Option Surface)} {p : Surface} (he : ∃ q ∈ l, q.2 = some p)
    (hu : ∀ q ∈ l, ∀ r, q.2 = some r → r = p) : l.findSome? Prod.snd = some p := by
  cases h : l.findSome? Prod.snd with
  | none =>
    obtain ⟨q, hq, e⟩ := he
    rw [List.findSome?_eq_none_iff.mp h q hq] at e
    cases e
  | some r =>
    obtain ⟨q, hq, e⟩ := List.exists_of_findSome?_eq_some h
    rw [hu q hq r e]

/-! ### The entry in the table -/

/-- The entry of a machine whose bare entries in the table are all the same. -/
theorem State.claimOf_of_bare {t : State} {m : Nat} {n : Claim} (he : ∃ x ∈ t.bareEntries, x.machine = m)
    (hu : ∀ x ∈ t.bareEntries, x.machine = m → x = n) : ∃ e, t.claimOf m = some e ∧ e ∈ t.zones.entries ∧ e.machine = m ∧ e.bare = n := by
  obtain ⟨x, hx, hm⟩ := he
  obtain ⟨c, hc, rfl⟩ := List.mem_map.mp hx
  cases h : t.claimOf m with
  | none => exact absurd hm (State.claimOf_none h c hc)
  | some e =>
    obtain ⟨hmem, hem⟩ := State.claimOf_mem h
    exact ⟨e, rfl, hmem, hem, hu _ (State.bare_mem hmem) hem⟩

/-- What the entries of a machine keep for a bed. -/
theorem State.prior_of_keeps {t : State} {m b : Nat} {x : Option Surface} (h : keeps (t.zoneBed b).priors m x) {e : Claim}
    (he : e ∈ t.zones.entries) (hm : e.machine = m) : sparseFind b e.prior = x :=
  h (e.bare, sparseFind b e.prior) (List.mem_map_of_mem he) hm

/-! ### Outbound queue -/

theorem State.enterRange_outbound (s : State) (m : Nat) (a : ZoneActivity) (b : Nat) :
    s.port.outbound <+: (s.enterRange m a b).port.outbound := by
  have applied : ∀ p, ((s.writePrior m b p).applyActivity b a p).port = s.port := by
    intro p
    unfold State.applyActivity
    split <;> rfl
  unfold State.enterRange
  split
  · have stopped := (State.stopOrder_aside ((s.writePrior m b (s.priorFor b)).applyActivity b a (s.priorFor b)) b none).outbound
    rwa [applied] at stopped
  · exact List.prefix_refl _

theorem replaceBed_outbound (m : Nat) (old : Claim) (a : ZoneActivity) (s : State) (b : Nat) :
    s.port.outbound <+: (replaceBed m old a s b).port.outbound := by
  have prepared : (if (s.bed b).surface = .worked then s else s.writePrior m b (s.bed b).surface).port = s.port := by
    split <;> rfl
  unfold replaceBed
  split
  · exact List.prefix_refl _
  · split
    · dsimp only
      generalize (if (s.bed b).surface = .worked then s else s.writePrior m b (s.bed b).surface) = u at prepared ⊢
      rw [← prepared]
      split
      · unfold State.applyActivity
        split <;> exact List.prefix_refl _
      · split
        · exact u.releaseBed_outbound _ _ _
        · exact List.prefix_refl _
    · exact s.enterRange_outbound m a b

theorem State.newClaim_outbound (s : State) (m : Nat) (a : ZoneActivity) (f l : Nat) :
    s.port.outbound <+: (s.newClaim m a f l).port.outbound :=
  foldl_outbound (fun t b => t.enterRange m a b) (fun t b => t.enterRange_outbound m a b) (rangeBeds f l)
    (s.setEntries (s.zones.entries ++ [(⟨m, a, f, l, s.osc, []⟩ : Claim)]))

/-! ### A new entry -/

/-- What the Zone Register sees of a bed once a new entry stands in the table. -/
def State.joinedBed (s : State) (m : Nat) (a : ZoneActivity) (f l b : Nat) : ZoneBed :=
  { s.zoneBed b with priors := s.priors b ++ [(⟨m, a, f, l, s.osc, []⟩, none)] }

theorem State.newClaim_zoneBed (s : State) (m : Nat) (a : ZoneActivity) (f l : Nat) {b : Nat} (h1 : 1 ≤ b) (h2 : b ≤ 32) :
    (s.newClaim m a f l).zoneBed b =
      if f ≤ b ∧ b ≤ l then (s.joinedBed m a f l b).entered s.conf m a b else s.joinedBed m a f l b := by
  have joined : (s.setEntries (s.zones.entries ++ [(⟨m, a, f, l, s.osc, []⟩ : Claim)])).zoneBed b = s.joinedBed m a f l b := by
    unfold State.joinedBed State.zoneBed State.priors
    rw [State.setEntries_entries, List.map_append]
    rfl
  have fold := zoneBed_foldl (fun t b => t.enterRange m a b) (fun S b z => z.entered S m a b)
    (fun u b => by simp) (fun u b h1 h2 => u.zoneBed_enterRange m a h1 h2) (fun u a' b h => u.zoneBed_enterRange_ne m a h)
    (rangeBeds f l) (nodup_rangeBeds _ _) (s.setEntries (s.zones.entries ++ [(⟨m, a, f, l, s.osc, []⟩ : Claim)])) h1 h2
  simp only [mem_rangeBeds, joined] at fold
  exact fold

/-- The prior state handed for a bed is the one its entries share (R7). -/
theorem State.joinedBed_prior {s : State} {m : Nat} {a : ZoneActivity} {f l b : Nat} {p : Surface}
    (hw : (s.bed b).surface = .worked) (he : ∃ x ∈ s.zones.entries, sparseFind b x.prior = some p)
    (hu : ∀ x ∈ s.zones.entries, ∀ q, sparseFind b x.prior = some q → q = p) : (s.joinedBed m a f l b).priorFor = p := by
  unfold ZoneBed.priorFor
  rw [if_pos (show (s.joinedBed m a f l b).surface = .worked from hw)]
  unfold ZoneBed.kept
  rw [findSome_unique (p := p)]
  · rfl
  · obtain ⟨x, hx, e⟩ := he
    exact ⟨(x.bare, sparseFind b x.prior), List.mem_append_left _ (List.mem_map_of_mem hx), e⟩
  · intro q hq r hr
    rcases List.mem_append.mp hq with hq | hq
    · obtain ⟨x, hx, rfl⟩ := List.mem_map.mp hq
      exact hu x hx r hr
    · rw [List.mem_singleton] at hq
      rw [hq] at hr
      cases hr

/-! ### A replaced entry -/

/-- The entry that replaces another (R95). -/
def Claim.replacedBy (old : Claim) (now : Nat) (a : ZoneActivity) (f l : Nat) : Claim :=
  { old with activity := a, first := f, last := l, since := now, prior := old.prior.filter (fun k => decide (f ≤ k.1 ∧ k.1 ≤ l)) }

/-- What the Zone Register sees of a bed once an entry has been replaced in the table. -/
def State.replacedBed (s : State) (old : Claim) (a : ZoneActivity) (f l b : Nat) : ZoneBed :=
  { s.zoneBed b with priors := s.zones.entries.map (fun e =>
      if e.machine = old.machine then ((old.replacedBy s.osc a f l).bare, sparseFind b (old.replacedBy s.osc a f l).prior)
      else (e.bare, sparseFind b e.prior)) }

/-- The machine table with an entry replaced. -/
def State.replaceEntry (s : State) (old : Claim) (a : ZoneActivity) (f l : Nat) : State :=
  s.setEntries (s.zones.entries.map (fun e => if e.machine = old.machine then old.replacedBy s.osc a f l else e))

theorem State.replaceEntry_zoneBed (s : State) (old : Claim) (a : ZoneActivity) (f l b : Nat) :
    (s.replaceEntry old a f l).zoneBed b = s.replacedBed old a f l b := by
  unfold State.replaceEntry State.replacedBed State.zoneBed State.priors
  rw [State.setEntries_entries, List.map_map]
  refine congrArg (ZoneBed.mk _ _ _) (List.map_congr_left fun e _ => ?_)
  simp only [Function.comp_apply]
  split <;> rfl

/-- The same claim again rewrites the time of its entry (R95). -/
theorem State.replaceClaim_renewed (s : State) (old : Claim) :
    s.replaceClaim old old.activity old.first old.last = s.replaceEntry old old.activity old.first old.last :=
  if_pos ⟨rfl, rfl, rfl⟩

/-- Another claim of the machine: the beds dropped, then the beds of the new range (R95). -/
theorem State.replaceClaim_eq {s : State} {old : Claim} {a : ZoneActivity} {f l : Nat}
    (h : ¬(a = old.activity ∧ f = old.first ∧ l = old.last)) : s.replaceClaim old a f l =
      ((rangeBeds f l).foldl (replaceBed old.machine old a)
        (((rangeBeds old.first old.last).filter (fun b => !(old.replacedBy s.osc a f l).covers b)).foldl
          (fun t b => t.releaseBed b .none (old.priorOf b)) (s.replaceEntry old a f l))).causeIfUncovered s := if_neg h

theorem State.replaceClaim_zoneBed {s : State} {old : Claim} {a : ZoneActivity} {f l : Nat}
    (h : ¬(a = old.activity ∧ f = old.first ∧ l = old.last)) {b : Nat} (h1 : 1 ≤ b) (h2 : b ≤ 32) :
    (s.replaceClaim old a f l).zoneBed b =
      if f ≤ b ∧ b ≤ l then (s.replacedBed old a f l b).replaced s.conf old.machine old a b
      else if old.first ≤ b ∧ b ≤ old.last then (s.replacedBed old a f l b).released s.conf b .none (old.priorOf b)
      else s.replacedBed old a f l b := by
  have drop := zoneBed_foldl (fun t b => t.releaseBed b .none (old.priorOf b)) (fun S b z => z.released S b .none (old.priorOf b))
    (fun u b => by simp) (fun u b h1 h2 => u.zoneBed_releaseBed .none _ h1 h2)
    (fun u a b h => u.zoneBed_releaseBed_ne .none _ h)
    ((rangeBeds old.first old.last).filter (fun b => !(old.replacedBy s.osc a f l).covers b))
    ((nodup_rangeBeds _ _).filter _) (s.replaceEntry old a f l) h1 h2
  have conf := (foldl_releaseBed_frame old .none
    ((rangeBeds old.first old.last).filter (fun b => !(old.replacedBy s.osc a f l).covers b)) (s.replaceEntry old a f l)).2.1
  rw [State.replaceEntry_zoneBed] at drop
  rw [State.replaceClaim_eq h, (State.causeIfUncovered_aside _ s).zoneBed (by simp) b]
  generalize List.foldl (fun (t : State) b => t.releaseBed b .none (old.priorOf b)) (s.replaceEntry old a f l) _ = u at drop conf ⊢
  have range := zoneBed_foldl (replaceBed old.machine old a) (fun S b z => z.replaced S old.machine old a b)
    (fun u b => by simp) (fun u b h1 h2 => zoneBed_replaceBed old.machine old a u h1 h2)
    (fun u a' b h => zoneBed_replaceBed_ne old.machine old a u h) (rangeBeds f l) (nodup_rangeBeds _ _) u h1 h2
  have sconf : u.conf = s.conf := conf
  have covers : (old.replacedBy s.osc a f l).covers b = decide (f ≤ b ∧ b ≤ l) := rfl
  rw [range, drop, sconf]
  simp only [List.mem_filter, mem_rangeBeds, covers, Bool.not_eq_true', decide_eq_false_iff_not]
  have rconf : (s.replaceEntry old a f l).conf = s.conf := rfl
  rw [rconf]
  by_cases hin : f ≤ b ∧ b ≤ l
  · simp [hin]
  · simp [hin]

theorem State.replaceClaim_outbound (s : State) (old : Claim) (a : ZoneActivity) (f l : Nat) :
    s.port.outbound <+: (s.replaceClaim old a f l).port.outbound := by
  by_cases h : a = old.activity ∧ f = old.first ∧ l = old.last
  · obtain ⟨rfl, rfl, rfl⟩ := h
    rw [State.replaceClaim_renewed]
    exact List.prefix_refl _
  · rw [State.replaceClaim_eq h]
    refine List.IsPrefix.trans ?_ (State.causeIfUncovered_aside _ s).outbound
    refine List.IsPrefix.trans ?_ (foldl_outbound (replaceBed old.machine old a) (replaceBed_outbound old.machine old a) (rangeBeds f l) _)
    exact foldl_outbound (fun t b => t.releaseBed b .none (old.priorOf b)) (fun t b => t.releaseBed_outbound b .none _) _
      (s.replaceEntry old a f l)

/-! ### One bed of a replaced range -/

theorem sparseFind_filter {α : Type} (p : Nat → Bool) {k : Nat} (hk : p k = true) (m : List (Nat × α)) :
    sparseFind k (m.filter (fun e => p e.1)) = sparseFind k m := by
  induction m with
  | nil => rfl
  | cons e rest ih =>
    obtain ⟨j, v⟩ := e
    by_cases hj : j = k
    · subst hj
      simp [hk, sparseFind]
    · by_cases hp : p j = true
      · simp [hp, sparseFind, hj, ih]
      · simp [hp, sparseFind, hj, ih]

/-- The prior states of the beds that stay are kept (R95). -/
theorem State.replacedBed_keeps (s : State) (old : Claim) (a : ZoneActivity) {f l b : Nat} (h : f ≤ b ∧ b ≤ l) :
    keeps (s.replacedBed old a f l b).priors old.machine (sparseFind b old.prior) := by
  intro q hq hm
  obtain ⟨e, _, rfl⟩ := List.mem_map.mp hq
  by_cases hem : e.machine = old.machine
  · rw [if_pos hem]
    exact sparseFind_filter (fun k => decide (f ≤ k ∧ k ≤ l)) (by simpa using h) old.prior
  · rw [if_neg hem] at hm
    exact absurd hm hem

/-- A bed that the new claim does not work on is touched where another STACK or RECLAIM covers it. -/
theorem State.replacedBed_touched {s : State} {old : Claim} {a : ZoneActivity} {f l b : Nat}
    (h : (f ≤ b ∧ b ≤ l) → a.touches = false) : (s.replacedBed old a f l b).touched b = true ↔
      ∃ x ∈ s.zones.entries, x.machine ≠ old.machine ∧ x.first ≤ b ∧ b ≤ x.last ∧ (x.activity = .stack ∨ x.activity = .reclaim) := by
  have touches : ∀ k : ZoneActivity, k.touches = true ↔ k = .stack ∨ k = .reclaim := by
    intro k
    cases k <;> simp [ZoneActivity.touches]
  have new : ((old.replacedBy s.osc a f l).bare.covers b && (old.replacedBy s.osc a f l).bare.activity.touches) = false := by
    by_cases hin : f ≤ b ∧ b ≤ l
    · rw [show (old.replacedBy s.osc a f l).bare.activity = a from rfl, h hin, Bool.and_false]
    · rw [show (old.replacedBy s.osc a f l).bare.covers b = decide (f ≤ b ∧ b ≤ l) from rfl, decide_eq_false hin, Bool.false_and]
  unfold State.replacedBed ZoneBed.touched
  rw [List.any_map, List.any_eq_true]
  refine exists_congr fun x => and_congr_right fun _ => ?_
  simp only [Function.comp_apply]
  by_cases hm : x.machine = old.machine
  · rw [if_pos hm, new]
    simp [hm]
  · rw [if_neg hm, Bool.and_eq_true, show x.bare.covers b = x.covers b from rfl, x.covers_iff,
      show x.bare.activity = x.activity from rfl, touches]
    simp [hm, and_assoc]

/-- A release with outcome NONE gives back the kept state where nothing else covers the bed (R97). -/
theorem ZoneBed.released_none (z : ZoneBed) {S : Settings} {b : Nat} (p : Surface) (hd : S.bedDefined b = true) :
    (z.released S b .none p).wetness = z.wetness ∧ (z.released S b .none p).priors = z.priors ∧
      (z.touched b = true ∨ z.surface ≠ .worked → (z.released S b .none p).surface = z.surface) ∧
      (z.touched b = false → z.surface = .worked → (z.released S b .none p).surface = p) := by
  cases ht : z.touched b with
  | true =>
    have same : z.released S b .none p = z := by
      by_cases hw : z.surface = .worked
      · rw [ZoneBed.released_worked hd ht hw]
        rfl
      · exact ZoneBed.released_covered ht hw _ _
    rw [same]
    exact ⟨rfl, rfl, fun _ => rfl, fun h => absurd h (by simp)⟩
  | false =>
    rw [ZoneBed.released_uncovered hd ht]
    obtain ⟨fate, kept⟩ := z.uncovered_none_surface S p
    refine ⟨kept, ?_, fun h => ?_, fun _ h => fate.trans (if_pos h)⟩
    · clear fate kept
      unfold ZoneBed.uncovered
      obtain ⟨surface, wetness, hold, priors⟩ := z
      cases surface with
      | worked =>
        dsimp only
        split <;> rfl
      | _ => rfl
    · rcases h with h | h
      · cases h
      · exact fate.trans (if_neg h)

/-- A staying bed with the prior state it has now, unless it is WORKED (R95). -/
def ZoneBed.prepared (z : ZoneBed) (m : Nat) : ZoneBed := if z.surface = .worked then z else z.written m z.surface

theorem ZoneBed.written_touched (z : ZoneBed) (m b : Nat) (p : Surface) : (z.written m p).touched b = z.touched b := by
  unfold ZoneBed.touched ZoneBed.written
  rw [List.any_map]
  refine congrArg _ (funext fun q => ?_)
  simp only [Function.comp_apply, writtenTo]
  split <;> rfl

theorem ZoneBed.prepared_kept (z : ZoneBed) (m b : Nat) : (z.prepared m).surface = z.surface ∧
    (z.prepared m).wetness = z.wetness ∧ (z.prepared m).touched b = z.touched b := by
  unfold ZoneBed.prepared
  split
  · exact ⟨rfl, rfl, rfl⟩
  · exact ⟨rfl, rfl, z.written_touched m b _⟩

theorem ZoneBed.prepared_keeps {z : ZoneBed} (m : Nat) (h : z.surface ≠ .worked) :
    keeps (z.prepared m).priors m (some z.surface) := by
  unfold ZoneBed.prepared
  rw [if_neg h]
  exact keeps_written _ _ _

section
variable {z : ZoneBed} {S : Settings} {m b : Nat} {old : Claim} {a : ZoneActivity}

theorem ZoneBed.replaced_added (hc : old.covers b = false) : z.replaced S m old a b = z.entered S m a b := by
  unfold ZoneBed.replaced
  cases hd : S.bedDefined b with
  | false =>
    unfold ZoneBed.entered
    simp [hd]
  | true => simp [hc]

theorem ZoneBed.replaced_staying (hd : S.bedDefined b = true) (hc : old.covers b = true) : z.replaced S m old a b =
    if a.touches then (z.prepared m).applied b a (z.prepared m).priorFor
    else if old.activity.touches then (z.prepared m).released S b .none (old.priorOf b) else z.prepared m := by
  unfold ZoneBed.replaced ZoneBed.prepared
  rw [if_neg (by simp [hd]), if_pos hc]

theorem ZoneBed.replaced_undefined (hd : S.bedDefined b = false) : z.replaced S m old a b = z := by
  unfold ZoneBed.replaced
  rw [if_pos (by simp [hd])]

/-- No replacement changes a wetness. -/
theorem ZoneBed.replaced_wetness : (z.replaced S m old a b).wetness = z.wetness := by
  cases hd : S.bedDefined b with
  | false => rw [ZoneBed.replaced_undefined hd]
  | true =>
    cases hc : old.covers b with
    | false =>
      rw [ZoneBed.replaced_added hc]
      exact ZoneBed.entered_kept.1
    | true =>
      obtain ⟨_, wetness, _⟩ := z.prepared_kept m b
      rw [ZoneBed.replaced_staying hd hc, ← wetness]
      split
      · exact (ZoneBed.applied_kept _ _ _ _).1
      · split
        · exact ((z.prepared m).released_none (old.priorOf b) hd).1
        · rfl

/-- The entry keeps the present state of a bed of its range that is not WORKED (R95). -/
theorem ZoneBed.replaced_keeps (hd : S.bedDefined b = true) (hw : z.surface ≠ .worked) :
    keeps (z.replaced S m old a b).priors m (some z.surface) := by
  cases hc : old.covers b with
  | false =>
    rw [ZoneBed.replaced_added hc, ← ZoneBed.priorFor_eq hw]
    exact ZoneBed.entered_keeps hd
  | true =>
    obtain ⟨surface, _, _⟩ := z.prepared_kept m b
    have kept := ZoneBed.prepared_keeps (z := z) m hw
    rw [ZoneBed.replaced_staying hd hc]
    split
    · rw [ZoneBed.priorFor_eq (by rw [surface]; exact hw), surface]
      exact ZoneBed.applied_keeps b a kept
    · split
      · rw [((z.prepared m).released_none (old.priorOf b) hd).2.1]
        exact kept
      · exact kept

/-- The entry keeps what it kept for a WORKED bed that stays (R95). -/
theorem ZoneBed.replaced_worked_priors (hd : S.bedDefined b = true) (hc : old.covers b = true) (hw : z.surface = .worked) :
    (z.replaced S m old a b).priors = z.priors := by
  have same : z.prepared m = z := if_pos hw
  rw [ZoneBed.replaced_staying hd hc, same]
  split
  · rw [ZoneBed.applied_worked _ _ _ hw]
  · split
    · exact (z.released_none (old.priorOf b) hd).2.1
    · rfl

end

/-! ### The request -/

theorem zoneClaim_ready {s : State} {node : Node} {machine activity first last : Byte}
    (h : s.ready node 0x04 [machine, activity, first, last]) : exec (.zoneClaim node machine activity first last) s =
      .next (s.takeRequest.zoneClaim node machine.toNat activity first.toNat last.toNat) :=
  congrArg Host.Outcome.next (State.serve_ready _ h)

theorem activityOf_none {v : Byte} (h : 3 < v.toNat) : activityOf v = none := by
  unfold activityOf
  have ne : ∀ k : Byte, k.toNat ≤ 3 → v ≠ k := fun k hk e => by rw [e] at h; omega
  rw [if_neg (ne _ (by decide)), if_neg (ne _ (by decide)), if_neg (ne _ (by decide)), if_neg (ne _ (by decide))]

theorem activityOf_some {v : Byte} (h : v.toNat ≤ 3) : ∃ a, activityOf v = some a := by
  rcases byte_le_three h with rfl | rfl | rfl | rfl <;> exact ⟨_, rfl⟩

section
variable {s : State} {node : Node} {machine activity first last : Byte}

theorem State.zoneClaim_badValue (h : machine = 0#8 ∨ 15 < machine.toNat ∨ 3 < activity.toNat ∨ last.toNat < first.toNat) :
    s.zoneClaim node machine.toNat activity first.toNat last.toNat = s.reply node 0x04 .badValue [] := by
  have zero : machine = 0#8 → machine.toNat = 0 := fun h => by rw [h]; rfl
  unfold State.zoneClaim
  split
  · rfl
  · rename_i a ha
    have : ¬3 < activity.toNat := fun h => by rw [activityOf_none h] at ha; cases ha
    rw [if_pos (by rcases h with h | h | h | h <;> [exact .inl (zero h); exact .inr (.inl h); exact absurd h this; exact .inr (.inr h)])]

/-- What a request with good values comes to (R93). -/
theorem State.zoneClaim_good (h : ¬(machine = 0#8 ∨ 15 < machine.toNat ∨ 3 < activity.toNat ∨ last.toNat < first.toNat)) :
    ∃ a, activityOf activity = some a ∧ s.zoneClaim node machine.toNat activity first.toNat last.toNat =
      if !(s.conf.bedDefined first.toNat && s.conf.bedDefined last.toNat) then s.reply node 0x04 .unknownBed []
      else match s.claimOf machine.toNat with
        | some old => (s.replaceClaim old a first.toNat last.toNat).reply node 0x04 .ok
            (be8 (s.replaceClaim old a first.toNat last.toNat).freeClaims)
        | none => if 8 ≤ s.zones.entries.length then s.reply node 0x04 .full []
            else (s.newClaim machine.toNat a first.toNat last.toNat).reply node 0x04 .ok
              (be8 (s.newClaim machine.toNat a first.toNat last.toNat).freeClaims) := by
  have zero : machine.toNat = 0 → machine = 0#8 := fun h => BitVec.eq_of_toNat_eq h
  obtain ⟨a, ha⟩ := activityOf_some (v := activity) (by omega)
  refine ⟨a, ha, ?_⟩
  unfold State.zoneClaim
  rw [ha]
  dsimp only
  rw [if_neg (by rintro (h0 | h1) <;> [exact h (.inl (zero h0)); omega])] <;> rfl

end

theorem State.newClaim_freeClaims (s : State) (m : Nat) (a : ZoneActivity) (f l : Nat) :
    (s.newClaim m a f l).freeClaims = 8 - (s.zones.entries.length + 1) := by
  have count := congrArg List.length (s.newClaim_bare m a f l)
  unfold State.bareEntries at count
  rw [List.length_append, List.length_map, List.length_map] at count
  rw [State.freeClaims, count]
  rfl

theorem State.replaceClaim_freeClaims (s : State) (old : Claim) (a : ZoneActivity) (f l : Nat) :
    (s.replaceClaim old a f l).freeClaims = 8 - s.zones.entries.length := by
  have count := congrArg List.length (s.replaceClaim_bare old a f l)
  unfold State.bareEntries at count
  rw [List.length_map, List.length_map, List.length_map] at count
  rw [State.freeClaims, count]

/-- An order whose key is not among the running ones does not run. -/
theorem State.running_false {t : State} {o : Order} (ho : o ∈ t.disp.orders) (h : ∀ k ∈ t.runKeys, k.1 ≠ o.bed) :
    o.running = false := by
  cases hr : o.running with
  | false => rfl
  | true => exact absurd rfl (h o.runKey (mem_runKeysOf.mpr ⟨o, ho, hr, rfl⟩))

/-- The surface state of a bed that a claim of an activity covers, from what it was (R6). -/
def worked (before after : Surface) (a : ZoneActivity) : Prop :=
  (a = .stack → after = .worked) ∧ (a = .reclaim → after = if before = .empty then .empty else .worked) ∧
    (a = .travel ∨ a = .load → after = before)

/-! ### A new entry: the effect -/

section
variable {s : State} {m : Nat} {a : ZoneActivity} {f l : Nat}

theorem State.newClaim_entry (hn : s.claimOf m = none) : ∃ e, (s.newClaim m a f l).claimOf m = some e ∧
    e ∈ (s.newClaim m a f l).zones.entries ∧ e.machine = m ∧ e.bare = ⟨m, a, f, l, s.osc, []⟩ := by
  refine State.claimOf_of_bare ⟨⟨m, a, f, l, s.osc, []⟩, ?_, rfl⟩ fun x hx hm => ?_
  · rw [State.newClaim_bare]
    exact List.mem_append_right _ (List.mem_singleton.mpr rfl)
  · rw [State.newClaim_bare] at hx
    rcases List.mem_append.mp hx with hx | hx
    · obtain ⟨c, hc, rfl⟩ := List.mem_map.mp hx
      exact absurd hm (State.claimOf_none hn c hc)
    · exact List.mem_singleton.mp hx

/-- What the new entry keeps for a defined bed of its range (R7). -/
theorem State.newClaim_prior {b : Nat} (h1 : 1 ≤ b) (h2 : b ≤ 32) (hin : f ≤ b ∧ b ≤ l) (hd : s.conf.bedDefined b = true)
    {e : Claim} (he : e ∈ (s.newClaim m a f l).zones.entries) (hm : e.machine = m) :
    sparseFind b e.prior = some (s.joinedBed m a f l b).priorFor := by
  refine State.prior_of_keeps ?_ he hm
  rw [State.newClaim_zoneBed s m a f l h1 h2, if_pos hin]
  exact ZoneBed.entered_keeps hd

theorem State.newClaim_bed_kept {b : Nat} (h1 : 1 ≤ b) (h2 : b ≤ 32) :
    ((s.newClaim m a f l).bed b).wetness = (s.bed b).wetness ∧ ((s.newClaim m a f l).bed b).hold = (s.bed b).hold := by
  have view := State.newClaim_zoneBed s m a f l h1 h2
  have wetness : ((s.newClaim m a f l).bed b).wetness = _ := congrArg ZoneBed.wetness view
  have hold : ((s.newClaim m a f l).bed b).hold = _ := congrArg ZoneBed.hold view
  rw [wetness, hold]
  split
  · exact ZoneBed.entered_kept
  · exact ⟨rfl, rfl⟩

theorem State.newClaim_worked {b : Nat} (h1 : 1 ≤ b) (h2 : b ≤ 32) (hin : f ≤ b ∧ b ≤ l) (hd : s.conf.bedDefined b = true) :
    worked (s.bed b).surface ((s.newClaim m a f l).bed b).surface a := by
  have view := State.newClaim_zoneBed s m a f l h1 h2
  rw [if_pos hin] at view
  have surface : ((s.newClaim m a f l).bed b).surface = _ := congrArg ZoneBed.surface view
  rw [surface]
  exact ZoneBed.entered_surface hd

theorem State.newClaim_shared {b : Nat} (h1 : 1 ≤ b) (h2 : b ≤ 32) (hin : f ≤ b ∧ b ≤ l) (hd : s.conf.bedDefined b = true)
    (hw : (s.bed b).surface ≠ .worked) (ht : ((s.newClaim m a f l).bed b).surface = .worked) :
    ∀ x ∈ (s.newClaim m a f l).zones.entries, x.first ≤ b → b ≤ x.last → sparseFind b x.prior = some (s.bed b).surface := by
  have view := State.newClaim_zoneBed s m a f l h1 h2
  rw [if_pos hin, ZoneBed.entered_eq hd, ZoneBed.priorFor_eq (z := s.joinedBed m a f l b) hw] at view
  have surface := (congrArg ZoneBed.surface view).symm.trans ht
  have priors := congrArg ZoneBed.priors view
  rw [ZoneBed.applied_shared (z := (s.joinedBed m a f l b).written m _) hw surface] at priors
  exact State.prior_of_shared priors

theorem State.newClaim_outside {b : Nat} (h1 : 1 ≤ b) (h2 : b ≤ 32) (h : b < f ∨ l < b ∨ s.conf.bedDefined b = false) :
    ((s.newClaim m a f l).bed b).surface = (s.bed b).surface := by
  have view := State.newClaim_zoneBed s m a f l h1 h2
  have surface : ((s.newClaim m a f l).bed b).surface = _ := congrArg ZoneBed.surface view
  rw [surface]
  split
  · rename_i hin
    have hd : s.conf.bedDefined b = false := by
      rcases h with h | h | h
      · omega
      · omega
      · exact h
    unfold ZoneBed.entered
    rw [if_neg (by simp [hd])]
    rfl
  · rfl

end

/-! ### A replaced entry: the effect -/

section
variable {s : State} {old : Claim} {a : ZoneActivity} {f l : Nat}

theorem State.replaceClaim_entry (hold : s.claimOf old.machine = some old) : ∃ e, (s.replaceClaim old a f l).claimOf old.machine = some e ∧
    e ∈ (s.replaceClaim old a f l).zones.entries ∧ e.machine = old.machine ∧ e.bare = ⟨old.machine, a, f, l, s.osc, []⟩ := by
  refine State.claimOf_of_bare ⟨⟨old.machine, a, f, l, s.osc, []⟩, ?_, rfl⟩ fun x hx hm => ?_
  · rw [State.replaceClaim_bare]
    exact List.mem_map.mpr ⟨old.bare, State.bare_mem (State.claimOf_mem hold).1, if_pos rfl⟩
  · rw [State.replaceClaim_bare] at hx
    obtain ⟨c, _, rfl⟩ := List.mem_map.mp hx
    unfold replacedBare at hm ⊢
    split at hm
    · rename_i h
      exact if_pos h
    · rename_i h
      exact absurd hm h

variable (hne : ¬(a = old.activity ∧ f = old.first ∧ l = old.last)) {b : Nat} (h1 : 1 ≤ b) (h2 : b ≤ 32)
include hne h1 h2

theorem State.replaceClaim_prior (hin : f ≤ b ∧ b ≤ l) (hd : s.conf.bedDefined b = true) {e : Claim}
    (he : e ∈ (s.replaceClaim old a f l).zones.entries) (hm : e.machine = old.machine) :
    ((s.bed b).surface ≠ .worked → sparseFind b e.prior = some (s.bed b).surface) ∧
    ((s.bed b).surface = .worked → old.first ≤ b ∧ b ≤ old.last → sparseFind b e.prior = sparseFind b old.prior) := by
  have view := State.replaceClaim_zoneBed (s := s) hne h1 h2
  rw [if_pos hin] at view
  refine ⟨fun hw => State.prior_of_keeps ?_ he hm, fun hw hc => State.prior_of_keeps ?_ he hm⟩
  · rw [view]
    exact ZoneBed.replaced_keeps (z := s.replacedBed old a f l b) hd hw
  · rw [view, ZoneBed.replaced_worked_priors hd ((old.covers_iff b).mpr hc) hw]
    exact s.replacedBed_keeps old a hin

theorem State.replaceClaim_wetness : ((s.replaceClaim old a f l).bed b).wetness = (s.bed b).wetness := by
  have view : ((s.replaceClaim old a f l).bed b).wetness = _ := congrArg ZoneBed.wetness (State.replaceClaim_zoneBed (s := s) hne h1 h2)
  rw [view]
  split
  · exact ZoneBed.replaced_wetness
  · split
    · cases hd : s.conf.bedDefined b with
      | false => rw [ZoneBed.released_undefined hd]; rfl
      | true => exact ((s.replacedBed old a f l b).released_none (old.priorOf b) hd).1
    · rfl

theorem State.replaceClaim_undefined (hd : s.conf.bedDefined b = false) :
    ((s.replaceClaim old a f l).bed b).surface = (s.bed b).surface := by
  have view : ((s.replaceClaim old a f l).bed b).surface = _ := congrArg ZoneBed.surface (State.replaceClaim_zoneBed (s := s) hne h1 h2)
  rw [view, ZoneBed.replaced_undefined hd, ZoneBed.released_undefined hd]
  split
  · rfl
  · split <;> rfl

theorem State.replaceClaim_outside (hin : ¬(f ≤ b ∧ b ≤ l)) (hb : ¬(old.first ≤ b ∧ b ≤ old.last)) :
    ((s.replaceClaim old a f l).bed b).surface = (s.bed b).surface := by
  have view : ((s.replaceClaim old a f l).bed b).surface = _ := congrArg ZoneBed.surface (State.replaceClaim_zoneBed (s := s) hne h1 h2)
  rw [view, if_neg hin, if_neg hb]
  rfl

theorem State.replaceClaim_added (hd : s.conf.bedDefined b = true) (hin : f ≤ b ∧ b ≤ l) (hb : ¬(old.first ≤ b ∧ b ≤ old.last)) :
    worked (s.bed b).surface ((s.replaceClaim old a f l).bed b).surface a := by
  have view : ((s.replaceClaim old a f l).bed b).surface = _ := congrArg ZoneBed.surface (State.replaceClaim_zoneBed (s := s) hne h1 h2)
  have out : old.covers b = false := by
    cases hc : old.covers b with
    | false => rfl
    | true => exact absurd ((old.covers_iff b).mp hc) hb
  rw [view, if_pos hin, ZoneBed.replaced_added out]
  exact ZoneBed.entered_surface hd

/-- A staying bed under STACK or RECLAIM (R6, R95). -/
theorem State.replaceClaim_staying_worked (hd : s.conf.bedDefined b = true) (hin : f ≤ b ∧ b ≤ l)
    (hb : old.first ≤ b ∧ b ≤ old.last) (ha : a.touches = true) :
    worked (s.bed b).surface ((s.replaceClaim old a f l).bed b).surface a := by
  have view : ((s.replaceClaim old a f l).bed b).surface = _ := congrArg ZoneBed.surface (State.replaceClaim_zoneBed (s := s) hne h1 h2)
  obtain ⟨surface, _, _⟩ := (s.replacedBed old a f l b).prepared_kept old.machine b
  rw [view, if_pos hin, ZoneBed.replaced_staying hd ((old.covers_iff b).mpr hb), if_pos ha]
  have applied := ((s.replacedBed old a f l b).prepared old.machine).applied_surface b a
    ((s.replacedBed old a f l b).prepared old.machine).priorFor
  rw [surface] at applied
  exact applied

/-- A staying bed under TRAVEL or LOAD that was under TRAVEL or LOAD (R95). -/
theorem State.replaceClaim_staying_left (hd : s.conf.bedDefined b = true) (hin : f ≤ b ∧ b ≤ l)
    (hb : old.first ≤ b ∧ b ≤ old.last) (ha : a.touches = false) (ho : old.activity.touches = false) :
    ((s.replaceClaim old a f l).bed b).surface = (s.bed b).surface := by
  have view : ((s.replaceClaim old a f l).bed b).surface = _ := congrArg ZoneBed.surface (State.replaceClaim_zoneBed (s := s) hne h1 h2)
  rw [view, if_pos hin, ZoneBed.replaced_staying hd ((old.covers_iff b).mpr hb), if_neg (by simp [ha]), if_neg (by simp [ho])]
  exact ((s.replacedBed old a f l b).prepared_kept old.machine b).1

/-- A bed that leaves the range, or its work, is released with outcome NONE (R95). -/
theorem State.replaceClaim_released (hd : s.conf.bedDefined b = true) (hb : old.first ≤ b ∧ b ≤ old.last)
    (hin : (f ≤ b ∧ b ≤ l) → a.touches = false ∧ old.activity.touches = true) :
    let cover := ∃ x ∈ s.zones.entries, x.machine ≠ old.machine ∧ x.first ≤ b ∧ b ≤ x.last ∧
      (x.activity = .stack ∨ x.activity = .reclaim)
    (cover ∨ (s.bed b).surface ≠ .worked → ((s.replaceClaim old a f l).bed b).surface = (s.bed b).surface) ∧
    (¬cover → (s.bed b).surface = .worked →
      ((s.replaceClaim old a f l).bed b).surface = old.priorOf b) := by
  have view : ((s.replaceClaim old a f l).bed b).surface = _ := congrArg ZoneBed.surface (State.replaceClaim_zoneBed (s := s) hne h1 h2)
  have touched := State.replacedBed_touched (s := s) (old := old) (a := a) (f := f) (l := l) (b := b) (fun h => (hin h).1)
  obtain ⟨ps, _, pt⟩ := (s.replacedBed old a f l b).prepared_kept old.machine b
  have surface : ∃ z : ZoneBed, z.surface = (s.bed b).surface ∧ z.touched b = (s.replacedBed old a f l b).touched b ∧
      ((s.replaceClaim old a f l).bed b).surface = (z.released s.conf b .none (old.priorOf b)).surface := by
    by_cases h : f ≤ b ∧ b ≤ l
    · obtain ⟨ha, ho⟩ := hin h
      refine ⟨(s.replacedBed old a f l b).prepared old.machine, ps, pt, ?_⟩
      rw [view, if_pos h, ZoneBed.replaced_staying hd ((old.covers_iff b).mpr hb), if_neg (by simp [ha]), if_pos ho]
    · refine ⟨s.replacedBed old a f l b, rfl, rfl, ?_⟩
      rw [view, if_neg h, if_pos hb]
  obtain ⟨z, zs, zt, e⟩ := surface
  obtain ⟨_, _, kept, given⟩ := z.released_none (old.priorOf b) hd
  rw [zs, zt] at kept given
  rw [e]
  refine ⟨fun h => kept (h.imp_left touched.mpr), fun h hw => given ?_ hw⟩
  exact Bool.eq_false_iff.mpr fun ht => h (touched.mp ht)

end

/-! ### The statement -/

/-- A reply leaves the beds, the table and the orders. -/
theorem State.answered_view (u : State) (node : Node) (d : List Byte) :
    (u.reply node 0x04 .ok d).zones = u.zones ∧ (u.reply node 0x04 .ok d).disp = u.disp ∧
      (u.reply node 0x04 .ok d).beds = u.beds := ⟨rfl, rfl, rfl⟩

theorem ZoneActivity.touches_iff (a : ZoneActivity) : a.touches = true ↔ a = .stack ∨ a = .reclaim := by
  cases a <;> simp [ZoneActivity.touches]

theorem ZoneActivity.touches_false (a : ZoneActivity) : a.touches = false ↔ a = .travel ∨ a = .load := by
  cases a <;> simp [ZoneActivity.touches]

theorem zoneClaim_answers {s t : State} {node : Node} {d : List Byte} (hu : t.port.urgent = s.takeRequest.port.urgent)
    (hr : t.port.routine = s.takeRequest.port.routine) (ho : s.takeRequest.port.outbound <+: t.port.outbound) :
    s.answers (t.reply node 0x04 .ok d) node 0x04 .ok d := State.answers_of_reply hu hr ho

/-- A taken claim of a machine not in the table (R94). -/
theorem zoneClaim_new {s : State} {node : Node} {machine activity first last : Byte} {a : ZoneActivity}
    (ready : s.ready node 0x04 [machine, activity, first, last])
    (good : ¬(machine = 0#8 ∨ 15 < machine.toNat ∨ 3 < activity.toNat ∨ last.toNat < first.toNat))
    (hd : s.conf.bedDefined first.toNat = true ∧ s.conf.bedDefined last.toNat = true) (ha : activityOf activity = some a)
    (hn : s.claimOf machine.toNat = none) (hc : s.zones.entries.length < 8) :
    exec (.zoneClaim node machine activity first last) s =
      .next ((s.takeRequest.newClaim machine.toNat a first.toNat last.toNat).reply node 0x04 .ok
        (be8 (8 - (s.zones.entries.length + 1)))) := by
  obtain ⟨k, hk, e⟩ := State.zoneClaim_good (s := s.takeRequest) (node := node) good
  rw [ha] at hk
  injection hk with hk
  subst hk
  rw [zoneClaim_ready ready, e, State.claimOf_takeRequest, hn, State.newClaim_freeClaims]
  simp [hd.1, hd.2, hc]

/-- A taken claim of a machine in the table (R95). -/
theorem zoneClaim_replaces {s : State} {node : Node} {machine activity first last : Byte} {a : ZoneActivity} {old : Claim}
    (ready : s.ready node 0x04 [machine, activity, first, last])
    (good : ¬(machine = 0#8 ∨ 15 < machine.toNat ∨ 3 < activity.toNat ∨ last.toNat < first.toNat))
    (hd : s.conf.bedDefined first.toNat = true ∧ s.conf.bedDefined last.toNat = true) (ha : activityOf activity = some a)
    (ho : s.claimOf machine.toNat = some old) :
    exec (.zoneClaim node machine activity first last) s =
      .next ((s.takeRequest.replaceClaim old a first.toNat last.toNat).reply node 0x04 .ok
        (be8 (8 - s.zones.entries.length))) := by
  obtain ⟨k, hk, e⟩ := State.zoneClaim_good (s := s.takeRequest) (node := node) good
  rw [ha] at hk
  injection hk with hk
  subst hk
  rw [zoneClaim_ready ready, e, State.claimOf_takeRequest, ho]
  simp [hd.1, hd.2, State.replaceClaim_freeClaims]

/-- Settles O36: the table law is one of the bare entries, and bed by bed a claim is `ZoneBed.entered` or `ZoneBed.replaced`. -/
theorem zoneClaims : Obligations.ZoneClaims := by
  refine ⟨fun s t => step_zoneLaw, fun s node machine activity first last ready => ⟨fun bad => ?_, fun good hd => ?_,
    fun good hd hn hc => ?_, fun a good hd ha hn hc => ?_, fun e good hd he ha hf hl => ?_, fun e a good hd he ha hne => ?_⟩⟩
  · rw [zoneClaim_ready ready, State.zoneClaim_badValue bad]
  · obtain ⟨a, _, e⟩ := State.zoneClaim_good (s := s.takeRequest) (node := node) good
    rw [zoneClaim_ready ready, e, if_pos]
    simpa [imp_iff_not_or] using hd
  · obtain ⟨a, _, e⟩ := State.zoneClaim_good (s := s.takeRequest) (node := node) good
    rw [zoneClaim_ready ready, e, State.claimOf_takeRequest, hn]
    simp [hd.1, hd.2, hc]
  · have run := zoneClaim_new ready good hd ha hn hc
    obtain ⟨p, hp⟩ := s.takeRequest_port
    have answers := zoneClaim_answers (s := s) (t := s.takeRequest.newClaim machine.toNat a first.toNat last.toNat) (node := node)
      (d := be8 (8 - (s.zones.entries.length + 1))) (by simp) (by simp) (State.newClaim_outbound _ _ _ _ _)
    rw [hp] at run answers
    set u : State := { s with port := p } with hu
    obtain ⟨e, hclaim, hmem, hmachine, hbare⟩ := State.newClaim_entry (s := u) (m := machine.toNat) (a := a) (f := first.toNat)
      (l := last.toNat) hn
    refine ⟨_, run, answers, ⟨e, hclaim, congrArg Claim.activity hbare, congrArg Claim.first hbare, congrArg Claim.last hbare,
      congrArg Claim.since hbare, fun b h1 h2 hin hb => ⟨fun hw => ?_, fun q hw hex huniq => ?_⟩⟩, fun b h1 h2 => ⟨?_, ?_,
      fun hin hb => ⟨?_, fun hw ht => ?_⟩, fun hout => ?_⟩, fun horder o ho hf hl hb => ?_, ?_, ?_, ?_⟩
    · rw [State.newClaim_prior (s := u) h1 h2 hin hb hmem hmachine, ZoneBed.priorFor_eq hw]
      rfl
    · rw [State.newClaim_prior (s := u) h1 h2 hin hb hmem hmachine, State.joinedBed_prior (s := u) hw hex huniq]
    · exact (State.newClaim_bed_kept (s := u) h1 h2).1
    · exact (State.newClaim_bed_kept (s := u) h1 h2).2
    · exact State.newClaim_worked (s := u) h1 h2 hin hb
    · exact State.newClaim_shared (s := u) h1 h2 hin hb hw ht
    · exact State.newClaim_outside (s := u) h1 h2 hout
    · refine State.running_false ho fun k hk e => ?_
      exact State.newClaim_clears (s := u) machine.toNat a first.toNat last.toNat horder.1 k hk (e ▸ hb) (e ▸ ⟨hf, hl⟩)
    · simp [hu]
    · simp [hu]
    · simp [hu]
  · have run := zoneClaim_replaces ready good hd ha he
    obtain ⟨_, hm⟩ := State.claimOf_mem he
    rw [hf, hl, State.replaceClaim_renewed] at run
    have answers := zoneClaim_answers (s := s) (t := s.takeRequest.replaceEntry e e.activity e.first e.last) (node := node)
      (d := be8 (8 - s.zones.entries.length)) rfl rfl (List.prefix_refl _)
    obtain ⟨p, hp⟩ := s.takeRequest_port
    rw [hp] at run answers
    set u : State := { s with port := p } with hu
    obtain ⟨e', hclaim, _, _, hbare⟩ := State.replaceClaim_entry (s := u) (a := e.activity) (f := e.first) (l := e.last)
      (show u.claimOf e.machine = some e by rw [hm]; exact he)
    rw [State.replaceClaim_renewed, hm] at hclaim
    have since : e'.since = u.osc := congrArg Claim.since hbare
    have activity : e'.activity = e.activity := (congrArg Claim.activity hbare :)
    have first : e'.first = e.first := (congrArg Claim.first hbare :)
    have last : e'.last = e.last := (congrArg Claim.last hbare :)
    exact ⟨_, run, answers, ⟨e', hclaim, since, activity, first, last⟩, rfl, rfl, rfl⟩
  · have run := zoneClaim_replaces ready good hd ha he
    obtain ⟨_, hm⟩ := State.claimOf_mem he
    have answers := zoneClaim_answers (s := s) (t := s.takeRequest.replaceClaim e a first.toNat last.toNat) (node := node)
      (d := be8 (8 - s.zones.entries.length)) (by simp) (by simp) (State.replaceClaim_outbound _ _ _ _ _)
    obtain ⟨p, hp⟩ := s.takeRequest_port
    rw [hp] at run answers
    set u : State := { s with port := p } with hu
    have other : ¬(a = e.activity ∧ first.toNat = e.first ∧ last.toNat = e.last) := by tauto
    obtain ⟨e', hclaim, hmem, hmachine, hbare⟩ := State.replaceClaim_entry (s := u) (a := a) (f := first.toNat)
      (l := last.toNat) (show u.claimOf e.machine = some e by rw [hm]; exact he)
    have given : ∀ b q, sparseFind b e.prior = some q → e.priorOf b = q := fun b q h => by
      unfold Claim.priorOf
      rw [h]
      rfl
    rw [hm] at hclaim
    refine ⟨_, run, answers, ⟨e', hclaim, congrArg Claim.activity hbare, congrArg Claim.first hbare, congrArg Claim.last hbare,
      congrArg Claim.since hbare, fun b h1 h2 hin hb => State.replaceClaim_prior (s := u) other h1 h2 hin hb hmem hmachine⟩,
      fun b h1 h2 => ⟨?_, fun hb => ?_, fun hb => ⟨fun hin hbe => ?_, fun hin hbe => ?_, fun hbe hin => ?_, fun hin hbe ht => ?_,
        fun hin hbe ht ho => ?_, fun hin hbe ht ho => ?_⟩⟩, fun horder o ho hin hbe hb => ?_, ?_, ?_, ?_⟩
    · exact State.replaceClaim_wetness (s := u) other h1 h2
    · exact State.replaceClaim_undefined (s := u) other h1 h2 hb
    · exact State.replaceClaim_outside (s := u) other h1 h2 hin hbe
    · exact State.replaceClaim_added (s := u) other h1 h2 hb hin hbe
    · obtain ⟨kept, back⟩ := State.replaceClaim_released (s := u) other h1 h2 hb hbe (fun h => absurd h hin)
      exact ⟨kept, fun hc hw q hq => (back hc hw).trans (given b q hq)⟩
    · exact State.replaceClaim_staying_worked (s := u) other h1 h2 hb hin hbe (a.touches_iff.mpr ht)
    · obtain ⟨kept, back⟩ := State.replaceClaim_released (s := u) other h1 h2 hb hbe
        (fun _ => ⟨a.touches_false.mpr ht, e.activity.touches_iff.mpr ho⟩)
      exact ⟨kept, fun hc hw q hq => (back hc hw).trans (given b q hq)⟩
    · exact State.replaceClaim_staying_left (s := u) other h1 h2 hb hin hbe (a.touches_false.mpr ht)
        (e.activity.touches_false.mpr ho)
    · refine State.running_false ho fun k hk heq => ?_
      refine State.replaceClaim_clears (s := u) e a first.toNat last.toNat horder.1 k hk (heq ▸ hb) ?_ (heq ▸ hin)
      rw [heq]
      cases hc : e.covers o.bed with
      | false => rfl
      | true => exact absurd ((e.covers_iff o.bed).mp hc) hbe
    · simp [hu]
    · simp [hu]
    · simp [hu]

end Sys2Proof.Machine
end

section
/-! One evaluation: risk, band, evaporation and demand of every bed (R14, R53 to R66). -/

namespace Sys2Proof.Machine

/-! ### What an evaluation reads -/

/-- The inputs of an evaluation but for the beds. -/
abbrev SameWeather (s t : State) : Prop :=
  t.osc = s.osc ∧ t.conf = s.conf ∧ t.meas = s.meas ∧ t.forecast = s.forecast ∧ t.ctrl.day = s.ctrl.day ∧
    t.ctrl.seconds = s.ctrl.seconds

theorem SameWeather.trans {s t u : State} (h1 : SameWeather s t) (h2 : SameWeather t u) : SameWeather s u := by
  obtain ⟨o1, c1, m1, f1, d1, n1⟩ := h1
  obtain ⟨o2, c2, m2, f2, d2, n2⟩ := h2
  exact ⟨o2.trans o1, c2.trans c1, m2.trans m1, f2.trans f1, d2.trans d1, n2.trans n1⟩

section
variable {s t : State} (h : SameWeather s t)
include h

theorem SameWeather.slotAt (k : Nat) : t.slotAt k = s.slotAt k := by
  obtain ⟨_, _, _, forecast, day, seconds⟩ := h
  unfold State.slotAt State.slotList State.slot State.nowHour
  rw [forecast, day, seconds]

theorem SameWeather.lookaheadSet : t.lookaheadSet = s.lookaheadSet := by
  have slots := funext h.slotAt
  obtain ⟨_, conf, _⟩ := h
  unfold State.lookaheadSet
  rw [conf, slots]

theorem SameWeather.currentHumidity : t.currentHumidity = s.currentHumidity := by
  have covering := h.slotAt 0
  obtain ⟨osc, _, _, forecast, _⟩ := h
  unfold State.currentHumidity State.covering State.recent
  rw [forecast, osc, covering]

theorem SameWeather.currentTemperature : t.currentTemperature = s.currentTemperature := by
  have covering := h.slotAt 0
  obtain ⟨osc, _, _, forecast, _⟩ := h
  unfold State.currentTemperature State.covering State.recent
  rw [forecast, osc, covering]

theorem SameWeather.dustFloor (b : Nat) : t.dustFloor b = s.dustFloor b := by
  obtain ⟨_, conf, meas, _⟩ := h
  unfold State.dustFloor State.channel
  rw [conf, meas]

theorem SameWeather.liveTerm (b : Nat) (figure : LiveWind → Nat) : t.liveTerm b figure = s.liveTerm b figure := by
  obtain ⟨_, conf, meas, _⟩ := h
  unfold State.liveTerm
  rw [conf, meas]

theorem SameWeather.effectiveMean (b : Nat) (f : Bool) : t.effectiveMean b f = s.effectiveMean b f := by
  have live := h.liveTerm b LiveWind.mean
  have ahead := h.lookaheadSet
  obtain ⟨_, conf, _⟩ := h
  unfold State.effectiveMean
  rw [live, ahead, conf]

theorem SameWeather.effectiveGust (b : Nat) (f : Bool) : t.effectiveGust b f = s.effectiveGust b f := by
  have live := h.liveTerm b LiveWind.gust
  have ahead := h.lookaheadSet
  obtain ⟨_, conf, _⟩ := h
  unfold State.effectiveGust
  rw [live, ahead, conf]

theorem SameWeather.evaporation (b : Nat) : t.evaporation b = s.evaporation b := by
  have temperature := h.currentTemperature
  obtain ⟨_, conf, meas, _⟩ := h
  unfold State.evaporation
  rw [temperature, conf, meas]

theorem SameWeather.rainAhead : t.rainAhead = s.rainAhead := by
  have ahead := h.lookaheadSet
  obtain ⟨_, conf, _⟩ := h
  unfold State.rainAhead
  rw [ahead, conf]

theorem SameWeather.volumeToward (b target wetness : Nat) : t.volumeToward b target wetness = s.volumeToward b target wetness := by
  obtain ⟨_, conf, _⟩ := h
  unfold State.volumeToward
  rw [conf]

end

/-! ### The readings of one bed, from what an evaluation reads of it -/

section
variable {s t : State} (h : SameWeather s t) {b : Nat} (hs : (t.bed b).surface = (s.bed b).surface)
  (hw : (t.bed b).wetness = (s.bed b).wetness)
include h hs hw

theorem SameWeather.riskOf (f : Bool) : t.riskOf b f = s.riskOf b f := by
  have mean := h.effectiveMean b f
  have gust := h.effectiveGust b f
  have humidity := h.currentHumidity
  obtain ⟨_, conf, _⟩ := h
  unfold State.riskOf
  rw [mean, gust, humidity, conf, hs, hw]

theorem SameWeather.fullDemand (hb : (t.bed b).band = (s.bed b).band) (band : Band) : t.fullDemand b band = s.fullDemand b band := by
  have risk := h.riskOf hs hw false
  have floor := h.dustFloor b
  have rain := h.rainAhead
  obtain ⟨_, conf, _⟩ := h
  unfold State.fullDemand State.actOrigin
  rw [risk, floor, rain, conf, hb]

end

theorem SameWeather.fallbackDemand {s t : State} (h : SameWeather s t) {b : Nat}
    (hl : (t.bed b).lastSprayEnd = (s.bed b).lastSprayEnd) (band : Band) : t.fallbackDemand b band = s.fallbackDemand b band := by
  obtain ⟨osc, conf, _⟩ := h
  unfold State.fallbackDemand
  rw [conf, osc, hl]

/-! ### Demands -/

/-- What a demand makes of a bed's order (R114, R115). -/
def orderHanded (vMin osc : Nat) (before after : Option Order) (origin : Origin) (v : Nat) : Prop :=
  (before = none → vMin ≤ v →
    ∃ o, after = some o ∧ o.origin = origin ∧ o.remaining = v ∧ o.delivered = 0 ∧ o.manual = false ∧
      o.preference = .any ∧ o.state = .waiting ∧ o.blocked = none ∧ o.start = none ∧ o.ending = none ∧
      o.created = osc ∧ o.waitStart = osc) ∧
  (before = none → v < vMin → after = none) ∧
  ∀ q, before = some q →
    let first := if origin.priority < q.origin.priority then origin else q.origin
    (vMin ≤ v → after = some { q with
      origin := first
      remaining := if q.state = .waiting then (if q.manual = true then max q.remaining v else v) else q.remaining }) ∧
    (v < vMin → q.state = .waiting → q.manual = false → after = none) ∧
    (v < vMin → q.state ≠ .waiting ∨ q.manual = true → after = some { q with origin := first })

theorem State.mergeOrder_order {s : State} {b : Nat} {o p : Order} (ho : s.order b = some o) (hb : p.bed = o.bed) :
    (s.mergeOrder o p).order b = some p := by
  obtain ⟨_, hbed⟩ := State.order_mem ho
  unfold State.mergeOrder
  split
  · rename_i e
    rw [ho, e]
  · rw [← hbed, ← hb]
    exact s.order_putOrder_same p

theorem State.mergeOrder_order_ne (s : State) {a b : Nat} {o p : Order} (hb : p.bed = a) (h : b ≠ a) :
    (s.mergeOrder o p).order b = s.order b ∧ (s.mergeOrder o p).bed b = s.bed b := by
  unfold State.mergeOrder
  split
  · exact ⟨rfl, rfl⟩
  · exact ⟨s.order_putOrder_ne (hb ▸ h), rfl⟩

theorem State.createOrder_order_ne (s : State) {a b : Nat} (o : Origin) (v : Nat) (m : Bool) (p : Preference) (h : b ≠ a) :
    (s.createOrder a o v m p).order b = s.order b :=
  s.order_putOrder_ne (o := ⟨s.disp.nextId, a, o, v, 0, m, p, .waiting, none, none, none, s.osc, s.osc, s.disp.serial⟩) h

/-- A demand makes or raises the bed's order, or ends it when it is short (R114, R115). -/
theorem State.handDemand_order (s : State) (b : Nat) (origin : Origin) (v : Nat) :
    orderHanded s.conf.vMin s.osc (s.order b) ((s.handDemand b origin v).order b) origin v := by
  unfold State.handDemand State.takeDemand State.takeShort
  refine ⟨fun hn hv => ?_, fun hn hv => ?_, fun q hq => ⟨fun hv => ?_, fun hv hs hm => ?_, fun hv hk => ?_⟩⟩
  · rw [if_pos hv, hn]
    exact ⟨_, s.order_putOrder_same ⟨s.disp.nextId, b, origin, v, 0, false, .any, .waiting, none, none, none, s.osc, s.osc,
      s.disp.serial⟩, rfl, rfl, rfl, rfl, rfl, rfl, rfl, rfl, rfl, rfl, rfl⟩
  · rw [if_neg (by omega), hn]
    exact hn
  · rw [if_pos hv, hq]
    exact State.mergeOrder_order hq rfl
  · obtain ⟨_, hbed⟩ := State.order_mem hq
    rw [if_neg (by omega), hq]
    dsimp only
    rw [if_pos ⟨hs, hm⟩, ← hbed]
    exact s.order_removeOrder_same q _
  · rw [if_neg (by omega), hq]
    dsimp only
    rw [if_neg (by rintro ⟨h1, h2⟩; rcases hk with h | h <;> simp_all)]
    exact State.mergeOrder_order hq rfl

theorem State.handDemand_aside (s : State) (b : Nat) (origin : Origin) (v : Nat) : Aside s (s.handDemand b origin v) := by
  have merged : ∀ o p, Aside s (s.mergeOrder o p) := by
    intro o p
    unfold State.mergeOrder
    split
    · exact .refl s
    · exact (s.putOrder_aside p).trans (State.cause_aside _)
  unfold State.handDemand State.takeDemand State.takeShort
  split
  · split
    · exact .same rfl rfl
    · exact merged _ _
  · split
    · exact .refl s
    · split
      · exact s.removeOrder_aside _ _
      · exact merged _ _

/-- A demand reaches no other bed. -/
theorem State.handDemand_ne (s : State) {a b : Nat} (origin : Origin) (v : Nat) (h : b ≠ a) :
    (s.handDemand a origin v).order b = s.order b ∧ (s.handDemand a origin v).bed b = s.bed b := by
  unfold State.handDemand State.takeDemand State.takeShort
  split
  · split
    · exact ⟨s.createOrder_order_ne _ _ _ _ h, rfl⟩
    · rename_i o ho
      exact s.mergeOrder_order_ne (State.order_mem ho).2 h
  · split
    · exact ⟨rfl, rfl⟩
    · rename_i o ho
      obtain ⟨_, hbed⟩ := State.order_mem ho
      split
      · exact ⟨s.order_removeOrder_ne _ (hbed ▸ h), s.bed_removeOrder_ne _ (hbed ▸ h)⟩
      · exact s.mergeOrder_order_ne hbed h

theorem State.handFor_ne (s : State) {a b : Nat} (w : Nat) (d : Option (Nat × Origin)) (h : b ≠ a) :
    (s.handFor a w d).order b = s.order b ∧ (s.handFor a w d).bed b = s.bed b := by
  unfold State.handFor
  split
  · exact s.handDemand_ne _ _ h
  · exact ⟨rfl, rfl⟩

theorem State.handFor_aside (s : State) (b w : Nat) (d : Option (Nat × Origin)) : Aside s (s.handFor b w d) := by
  unfold State.handFor
  split
  · exact s.handDemand_aside _ _ _
  · exact .refl s

/-! ### The risk of a bed -/

theorem State.writeRisk_ne (s : State) {a b : Nat} (risk : Nat) (band : Band) (h : b ≠ a) :
    (s.writeRisk a risk band).order b = s.order b ∧ (s.writeRisk a risk band).bed b = s.bed b := by
  unfold State.writeRisk
  refine ⟨State.order_congr (by simp) b, ?_⟩
  rw [State.judgeAtRisk_bed_ne _ h]
  exact State.bed_setBed_ne _ _ h

/-- A bed with the figures of an evaluation written (R14, R55). -/
def Bed.evaluated (r : Bed) (risk : Nat) (band : Band) (dried : Nat) : Bed :=
  { r with risk := risk, band := band, wetness := r.wetness - dried }

theorem State.writeRisk_bed (s : State) {b : Nat} (risk : Nat) (band : Band) (h1 : 1 ≤ b) (h2 : b ≤ 32) :
    ∃ x, (s.writeRisk b risk band).bed b = { (s.bed b).evaluated risk band (s.evaporation b) with cappedAtRisk := x } := by
  unfold State.writeRisk
  obtain ⟨x, e⟩ := State.judgeAtRisk_bed (s.setBed b
    { s.bed b with risk := risk, band := band, wetness := (s.bed b).wetness - s.evaporation b }) h1 h2
  refine ⟨x, ?_⟩
  rw [e, State.bed_setBed_same _ _ h1 h2]
  rfl

/-- What an evaluation makes of a bed record, as far as its statement says. -/
structure Bed.dried (r q : Bed) (risk : Nat) (band : Band) (evaporated : Nat) : Prop where
  surface : q.surface = r.surface
  hold : q.hold = r.hold
  lastSprayEnd : q.lastSprayEnd = r.lastSprayEnd
  cursor : q.cursor = r.cursor
  risk : q.risk = risk
  band : q.band = band
  wetness : q.wetness = r.wetness - evaporated

theorem State.writeRisk_dried (s : State) {t : State} {b : Nat} {risk : Nat} {band : Band} (h1 : 1 ≤ b) (h2 : b ≤ 32)
    (h : Aside (s.writeRisk b risk band) t) : (s.bed b).dried (t.bed b) risk band (s.evaporation b) := by
  obtain ⟨x, e⟩ := s.writeRisk_bed risk band h1 h2
  have kept := Bed.eq_of_unshort (h.beds b)
  rw [e] at kept
  constructor <;> rw [kept] <;> rfl

/-! ### One bed -/

section
variable (s : State) {b : Nat}

theorem evaluateBed_undefined (f : Bool) (hd : s.conf.bedDefined b = false) : evaluateBed f s b = s := by
  unfold evaluateBed
  rw [if_pos (by simp [hd])]

theorem evaluateBed_empty (f : Bool) (hd : s.conf.bedDefined b = true) (he : (s.bed b).surface = .empty) :
    evaluateBed f s b = s.writeRisk b 0 .low := by
  unfold evaluateBed
  rw [if_neg (by simp [hd]), if_pos he]

/-- The risk, the band and the demand of a bed that is not EMPTY (R55, R66). -/
def State.assessment (s : State) (f : Bool) (b : Nat) : Nat × Band × Option (Nat × Origin) :=
  if f then (0, (s.dustFloor b).getD .watch, s.fallbackDemand b ((s.dustFloor b).getD .watch))
  else
    let band := (s.conf.nextBand (s.bed b).band (s.riskOf b true)).floored (s.dustFloor b)
    (s.riskOf b true, band, s.fullDemand b band)

theorem evaluateBed_present (f : Bool) (hd : s.conf.bedDefined b = true) (he : (s.bed b).surface ≠ .empty) :
    evaluateBed f s b = (s.writeRisk b (s.assessment f b).1 (s.assessment f b).2.1).handFor b (s.bed b).wetness
      (s.assessment f b).2.2 := by
  unfold evaluateBed
  rw [if_neg (by simp [hd]), if_neg he]
  cases f <;> rfl

theorem evaluateBed_ne (f : Bool) {a : Nat} (h : b ≠ a) :
    (evaluateBed f s a).order b = s.order b ∧ (evaluateBed f s a).bed b = s.bed b := by
  cases hd : s.conf.bedDefined a with
  | false =>
    rw [evaluateBed_undefined s f hd]
    exact ⟨rfl, rfl⟩
  | true =>
    by_cases he : (s.bed a).surface = .empty
    · rw [evaluateBed_empty s f hd he]
      exact s.writeRisk_ne _ _ h
    · obtain ⟨o1, b1⟩ := s.writeRisk_ne (s.assessment f a).1 (s.assessment f a).2.1 h
      obtain ⟨o2, b2⟩ := (s.writeRisk a (s.assessment f a).1 (s.assessment f a).2.1).handFor_ne (s.bed a).wetness
        (s.assessment f a).2.2 h
      rw [evaluateBed_present s f hd he]
      exact ⟨o2.trans o1, b2.trans b1⟩

theorem evaluateBed_sameWeather (f : Bool) (b : Nat) : SameWeather s (evaluateBed f s b) := by
  simp [SameWeather]

end

theorem SameWeather.assessment {s t : State} (h : SameWeather s t) {b : Nat} (hb : (t.bed b).unshort = (s.bed b).unshort)
    (f : Bool) : t.assessment f b = s.assessment f b := by
  have surface : (t.bed b).surface = (s.bed b).surface := (congrArg Bed.surface hb :)
  have wetness : (t.bed b).wetness = (s.bed b).wetness := (congrArg Bed.wetness hb :)
  have band : (t.bed b).band = (s.bed b).band := (congrArg Bed.band hb :)
  have sprayed : (t.bed b).lastSprayEnd = (s.bed b).lastSprayEnd := (congrArg Bed.lastSprayEnd hb :)
  have floor := h.dustFloor b
  have risk := h.riskOf surface wetness true
  have full := h.fullDemand surface wetness band
  have fallback := h.fallbackDemand sprayed
  obtain ⟨_, conf, _⟩ := h
  unfold State.assessment
  rw [floor, risk, conf, band, funext full, funext fallback]

/-! ### Every bed -/

/-- The evaluation of each bed reads what stood as the evaluation began, and writes its own bed and order. -/
theorem evaluateBeds_view (f : Bool) (s : State) (l : List Nat) (hl : l.Nodup) {b : Nat} (hb : b ∈ l) :
    ∃ u, SameWeather s u ∧ u.bed b = s.bed b ∧ u.order b = s.order b ∧
      (l.foldl (evaluateBed f) s).bed b = (evaluateBed f u b).bed b ∧
      (l.foldl (evaluateBed f) s).order b = (evaluateBed f u b).order b := by
  have start : SameWeather s s := ⟨rfl, rfl, rfl, rfl, rfl, rfl⟩
  obtain ⟨u, hu, before, after⟩ := foldl_view_of_mem (fun t b => (t.bed b, t.order b)) (evaluateBed f) (SameWeather s)
    (fun u a hu => hu.trans (evaluateBed_sameWeather u f a))
    (fun u a b _ hne => Prod.ext (evaluateBed_ne u f hne).2 (evaluateBed_ne u f hne).1) l hl s start b hb
  exact ⟨u, hu, congrArg Prod.fst before, congrArg Prod.snd before, congrArg Prod.fst after, congrArg Prod.snd after⟩

/-- What the evaluation of the beds makes of a bed and its order. -/
theorem evaluateBeds_effect (f : Bool) (s : State) {b : Nat} (h1 : 1 ≤ b) (h2 : b ≤ 32) :
    let t := bedNumbers.foldl (evaluateBed f) s
    (s.conf.bedDefined b = false → t.bed b = s.bed b ∧ t.order b = s.order b) ∧
    (s.conf.bedDefined b = true → (s.bed b).surface = .empty →
      (s.bed b).dried (t.bed b) 0 .low (s.evaporation b) ∧ t.order b = s.order b) ∧
    (s.conf.bedDefined b = true → (s.bed b).surface ≠ .empty →
      (s.bed b).dried (t.bed b) (s.assessment f b).1 (s.assessment f b).2.1 (s.evaporation b) ∧
      ((s.assessment f b).2.2 = none → t.order b = s.order b) ∧
      ∀ target origin, (s.assessment f b).2.2 = some (target, origin) →
        orderHanded s.conf.vMin s.osc (s.order b) (t.order b) origin (s.volumeToward b target (s.bed b).wetness)) := by
  obtain ⟨u, hu, ubed, uorder, tbed, torder⟩ := evaluateBeds_view f s bedNumbers nodup_bedNumbers ((mem_bedNumbers b).mpr ⟨h1, h2⟩)
  have assessed := hu.assessment (congrArg Bed.unshort ubed) f
  have evaporated := hu.evaporation b
  have volume := hu.volumeToward b
  obtain ⟨osc, conf, _⟩ := id hu
  dsimp only
  rw [tbed, torder, ← ubed, ← uorder, ← conf]
  refine ⟨fun hd => ?_, fun hd he => ?_, fun hd he => ⟨?_, fun hn => ?_, fun target origin hsome => ?_⟩⟩
  · rw [evaluateBed_undefined u f hd]
    exact ⟨rfl, rfl⟩
  · rw [evaluateBed_empty u f hd he, ← evaporated]
    exact ⟨u.writeRisk_dried h1 h2 (.refl _), State.order_congr (by unfold State.writeRisk; simp) b⟩
  · rw [evaluateBed_present u f hd he, ← evaporated, ← assessed]
    exact u.writeRisk_dried h1 h2 (State.handFor_aside _ _ _ _)
  · rw [evaluateBed_present u f hd he, assessed, hn]
    exact State.order_congr (by unfold State.writeRisk State.handFor; simp) b
  · rw [evaluateBed_present u f hd he, assessed, hsome]
    set w := u.writeRisk b (s.assessment f b).1 (s.assessment f b).2.1 with hw
    have worder : w.order b = u.order b := State.order_congr (by rw [hw]; unfold State.writeRisk; simp) b
    have wconf : w.conf = u.conf := by rw [hw]; unfold State.writeRisk; simp
    have wosc : w.osc = u.osc := by rw [hw]; unfold State.writeRisk; simp
    have handed := w.handDemand_order b origin (w.volumeToward b target (u.bed b).wetness)
    have toward : w.volumeToward b target (u.bed b).wetness = s.volumeToward b target (u.bed b).wetness := by
      rw [← volume]
      unfold State.volumeToward
      rw [wconf]
    rw [worder, wconf, wosc, toward, osc] at handed
    unfold State.handFor
    dsimp only
    rw [toward]
    exact handed

/-! ### The judgments before the beds -/

/-- The FALLBACK computation is made in AUTOMATIC and FALLBACK with neither a wind basis nor a forecast (R66, R177). -/
def State.fallsBack (s : State) : Prop :=
  (s.ctrl.mode = .automatic ∨ s.ctrl.mode = .fallback) ∧ s.meas.basis = .none ∧ s.forecast.live = false

theorem State.blind_iff (s : State) : s.blind = true ↔ s.meas.basis = .none ∧ s.forecast.live = false := by
  simp [State.blind]

theorem State.judgeBasis_mode (s : State) : s.judgeBasis.ctrl.mode = .fallback ↔ s.fallsBack := by
  have blind := s.blind_iff
  unfold State.judgeBasis State.fallsBack
  rw [← blind]
  cases hm : s.ctrl.mode with
  | automatic =>
    dsimp only
    split
    · rename_i h
      simp [State.enterMode_mode, h]
    · rename_i h
      simp [hm, h]
  | fallback =>
    dsimp only
    split
    · rename_i h
      simp [hm, h]
    · rename_i h
      simp [State.enterMode_mode, h]
  | _ => simp [hm]

theorem State.judgeBasis_freeze (s : State) : s.judgeBasis.ctrl.freeze = s.ctrl.freeze := by
  unfold State.judgeBasis
  split
  · split
    · exact s.enterMode_freeze _
    · rfl
  · split
    · rfl
    · exact s.enterMode_freeze _
  · rfl

/-- Neither AUTOMATIC nor FALLBACK stops a spray. -/
theorem State.judgeBasis_orders (s : State) : s.judgeBasis.disp.orders = s.disp.orders := by
  have entered : ∀ m : Mode, m.stops = false → (s.enterMode m).disp.orders = s.disp.orders := by
    intro m hm
    unfold State.enterMode
    dsimp only
    rw [if_neg (by simp [hm])]
    simp
  unfold State.judgeBasis
  split
  · split
    · exact entered _ rfl
    · rfl
  · split
    · rfl
    · exact entered _ rfl
  · rfl

/-- The state in which the beds are evaluated. -/
def State.judgedAt (s : State) (due : Nat) : State :=
  ({ s.reach due with evalDue := some (due + 60000) } : State).judgeBasis.judgeFreeze

theorem State.judgedAt_frame (s : State) (due : Nat) :
    ModeFrame { s.reach due with evalDue := some (due + 60000) } (s.judgedAt due) := by
  unfold State.judgedAt
  simp [ModeFrame]

theorem State.judgedAt_sameWeather (s : State) (due : Nat) : SameWeather (s.reach due) (s.judgedAt due) := by
  unfold State.judgedAt
  simp [SameWeather]

theorem State.judgedAt_aside (s : State) (due : Nat) : Aside (s.reach due) (s.judgedAt due) := by
  have noted : Aside (s.reach due) { s.reach due with evalDue := some (due + 60000) } := .same rfl rfl
  exact noted.trans ((State.judgeBasis_aside _).trans (State.judgeFreeze_aside _))

theorem evaluation_run {s : State} {due : Nat} (hdue : s.evalDue = some due) : ∃ f : Bool, (f = true ↔ s.fallsBack) ∧
    exec .evaluation s = .next (bedNumbers.foldl (evaluateBed f) (s.judgedAt due)) := by
  have mode := State.judgeBasis_mode ({ s.reach due with evalDue := some (due + 60000) } : State)
  refine ⟨({ s.reach due with evalDue := some (due + 60000) } : State).judgeBasis.ctrl.mode == .fallback, ?_, ?_⟩
  · rw [beq_iff_eq]
    exact mode
  · change execEvaluation s = _
    unfold execEvaluation
    rw [hdue]
    rfl

/-- Where FREEZE does not move, nothing is stopped before the beds are evaluated. -/
theorem State.judgedAt_orders {s : State} {due : Nat} (h : (s.judgedAt due).ctrl.freeze = s.ctrl.freeze) :
    (s.judgedAt due).disp.orders = s.disp.orders := by
  unfold State.judgedAt at h ⊢
  set v := ({ s.reach due with evalDue := some (due + 60000) } : State).judgeBasis with hv
  have freeze : v.ctrl.freeze = s.ctrl.freeze := State.judgeBasis_freeze _
  rw [State.judgeFreeze_freeze, ← freeze] at h
  rw [State.judgeFreeze_still h]
  exact State.judgeBasis_orders _

/-! ### The figures in the words of R56 to R59 -/

theorem Bed.dried_of_unshort {p r q : Bed} {risk : Nat} {band : Band} {n : Nat} (h : r.dried q risk band n)
    (hu : r.unshort = p.unshort) : p.dried q risk band n := by
  rw [Bed.eq_of_unshort hu] at h
  exact ⟨h.surface, h.hold, h.lastSprayEnd, h.cursor, h.risk, h.band, h.wetness⟩

theorem State.liveTerm_eq (s : State) (b : Nat) (figure : LiveWind → Nat) :
    s.liveTerm b figure = (s.meas.live.map (fun w => s.conf.expose b (figure w) w.sector)).toList := by
  unfold State.liveTerm
  cases s.meas.live <;> rfl

theorem forecastTerm_eq (S : Settings) (b : Nat) (figure : Slot → Option Nat) : forecastTerm S b figure = fun k =>
    (figure k).bind (fun wind => k.sector.map (fun sector => S.expose b wind sector * S.trust / 100)) := by
  funext k
  unfold forecastTerm
  cases figure k <;> cases k.sector <;> rfl

theorem State.evaporation_eq (s : State) (b : Nat) : s.evaporation b =
    1 + (s.meas.live.map (fun w => s.conf.expose b w.mean w.sector * s.conf.kEv / 1000)).getD 0 +
      (s.currentTemperature.getD 15).toNat / 10 := by
  unfold State.evaporation
  cases s.meas.live <;> rfl

theorem Settings.threshold_eq (S : Settings) {f : Surface} (w : Nat) (h : f ≠ .empty) : S.threshold f w =
    (if f = .settled then S.utSettled else if f = .fresh then S.utFresh else S.utWorked) + w * S.wSlope / 1000 := by
  unfold Settings.threshold Settings.baseThreshold
  cases f <;> first | rfl | exact absurd rfl h

theorem demandVolume_eq (target wetness area saturation : Nat) :
    demandVolume target wetness area saturation = ((target - wetness) * area * saturation + 999) / 1000 := by
  unfold demandVolume ceilDiv
  congr 1

theorem State.actOrigin_eq (s : State) (b : Nat) :
    s.actOrigin b = if (s.conf.nextBand (s.bed b).band (s.riskOf b false)).code < 2 ∧ s.dustFloor b = none then .prewet else .autoAct := by
  unfold State.actOrigin
  simp only [Option.isNone_iff_eq_none]

/-! ### An evaluation on one bed -/

/-- What an evaluation makes of a bed and its order, from the state in which it falls due. -/
theorem evaluation_bed (s : State) (due : Nat) (f : Bool) {b : Nat} (h1 : 1 ≤ b) (h2 : b ≤ 32) :
    let u := s.reach due
    let t := bedNumbers.foldl (evaluateBed f) (s.judgedAt due)
    let unmoved := t.ctrl.freeze = s.ctrl.freeze
    (s.conf.bedDefined b = false → (t.bed b).unshort = (s.bed b).unshort ∧ (unmoved → t.order b = s.order b)) ∧
    (s.conf.bedDefined b = true → (s.bed b).surface = .empty →
      (s.bed b).dried (t.bed b) 0 .low (u.evaporation b) ∧ (unmoved → t.order b = s.order b)) ∧
    (s.conf.bedDefined b = true → (s.bed b).surface ≠ .empty →
      (s.bed b).dried (t.bed b) (u.assessment f b).1 (u.assessment f b).2.1 (u.evaporation b) ∧
      (unmoved → ((u.assessment f b).2.2 = none → t.order b = s.order b) ∧
        ∀ target origin, (u.assessment f b).2.2 = some (target, origin) →
          orderHanded s.conf.vMin u.osc (s.order b) (t.order b) origin (u.volumeToward b target (s.bed b).wetness))) := by
  have weather := s.judgedAt_sameWeather due
  have bed : ((s.judgedAt due).bed b).unshort = (s.bed b).unshort := (s.judgedAt_aside due).beds b
  have assessed : (s.judgedAt due).assessment f b = (s.reach due).assessment f b := weather.assessment bed f
  have evaporated := weather.evaporation b
  have volume := weather.volumeToward b
  obtain ⟨undefined, empty, present⟩ := evaluateBeds_effect f (s.judgedAt due) h1 h2
  have frozen : ∀ w : State, (bedNumbers.foldl (evaluateBed f) w).ctrl.freeze = w.ctrl.freeze := fun w =>
    foldl_keeps (fun s t => t.ctrl.freeze = s.ctrl.freeze) (fun _ => rfl) (fun _ _ _ h1 h2 => h2.trans h1) (evaluateBed f)
      (fun u b => by simp) bedNumbers w
  dsimp only at undefined empty present ⊢
  rw [frozen]
  clear frozen
  generalize bedNumbers.foldl (evaluateBed f) (s.judgedAt due) = t at undefined empty present ⊢
  have order : (s.judgedAt due).ctrl.freeze = s.ctrl.freeze → (s.judgedAt due).order b = s.order b := fun h =>
    State.order_congr (State.judgedAt_orders h) b
  obtain ⟨osc, conf, _⟩ := weather
  have sconf : (s.judgedAt due).conf = s.conf := conf
  have surface : ((s.judgedAt due).bed b).surface = (s.bed b).surface := (congrArg Bed.surface bed :)
  have wetness : ((s.judgedAt due).bed b).wetness = (s.bed b).wetness := (congrArg Bed.wetness bed :)
  rw [sconf] at undefined empty present
  rw [surface] at empty present
  rw [evaporated] at empty present
  simp only [assessed, wetness, volume, osc] at present
  refine ⟨fun hd => ?_, fun hd he => ?_, fun hd he => ?_⟩
  · obtain ⟨tbed, torder⟩ := undefined hd
    exact ⟨(congrArg Bed.unshort tbed).trans bed, fun h => torder.trans (order h)⟩
  · obtain ⟨tbed, torder⟩ := empty hd he
    exact ⟨Bed.dried_of_unshort tbed bed, fun h => torder.trans (order h)⟩
  · obtain ⟨tbed, left, handed⟩ := present hd he
    refine ⟨Bed.dried_of_unshort tbed bed, fun h => ⟨fun hn => (left hn).trans (order h), fun target origin hs => ?_⟩⟩
    rw [← order h]
    exact handed target origin hs

/-! ### The demand of a bed by its band -/

section
variable (u : State) (b : Nat)

theorem State.assessment_fallback : u.assessment true b =
    (0, (u.dustFloor b).getD .watch, u.fallbackDemand b ((u.dustFloor b).getD .watch)) := rfl

theorem State.assessment_full : u.assessment false b =
    (u.riskOf b true, (u.conf.nextBand (u.bed b).band (u.riskOf b true)).floored (u.dustFloor b),
      u.fullDemand b ((u.conf.nextBand (u.bed b).band (u.riskOf b true)).floored (u.dustFloor b))) := rfl

/-- SEVERE is handed in both computations (R63, R66). -/
theorem State.assessment_severe (f : Bool) (h : (u.assessment f b).2.1 = .severe) :
    (u.assessment f b).2.2 = some (u.conf.wtSev, .autoSevere) := by
  cases f with
  | true =>
    rw [State.assessment_fallback] at h ⊢
    dsimp only at h ⊢
    rw [h]
    rfl
  | false =>
    rw [State.assessment_full] at h ⊢
    dsimp only at h ⊢
    rw [h]
    rfl

theorem State.fullDemand_act : u.fullDemand b .act =
    if u.actOrigin b = .prewet ∧ u.rainAhead = true then none else some (u.conf.wtAct, u.actOrigin b) := rfl

theorem State.fullDemand_low {band : Band} (h : band.code < 2) : u.fullDemand b band = none := by
  cases band with
  | low => rfl
  | watch => rfl
  | act => exact absurd h (by decide)
  | severe => exact absurd h (by decide)

theorem State.fallbackDemand_low {band : Band} (h : band.code < 2) : u.fallbackDemand b band =
    match (u.bed b).lastSprayEnd with
    | none => some (u.conf.wtAct, .autoAct)
    | some t => if t + ms u.conf.tFall ≤ u.osc then some (u.conf.wtAct, .autoAct) else none := by
  cases band with
  | low => rfl
  | watch => rfl
  | act => exact absurd h (by decide)
  | severe => exact absurd h (by decide)

end

/-- Settles O29: bed by bed an evaluation is `State.assessment`, written with the evaporation and handed to the dispatcher. -/
theorem evaluationWritesEveryBed : Obligations.EvaluationWritesEveryBed := by
  intro s
  refine ⟨fun hn => ?_, fun due hdue => ?_⟩
  · change execEvaluation s = _
    unfold execEvaluation
    rw [hn]
  intro u fallback exposed live ahead threshold excess risk full liveOnly dries prewet rainAhead
  obtain ⟨f, hf, run⟩ := evaluation_run hdue
  have inFallback : fallback → f = true := hf.mpr
  have notFallback : ¬fallback → f = false := fun h => Bool.eq_false_iff.mpr fun e => h (hf.mp e)
  have hfull : ∀ b, (s.bed b).surface ≠ .empty → u.riskOf b true = full b := by
    intro b he
    unfold State.riskOf State.effectiveMean State.effectiveGust
    rw [State.liveTerm_eq, State.liveTerm_eq, forecastTerm_eq, forecastTerm_eq, Settings.threshold_eq u.conf (f := (u.bed b).surface) _ he]
    rfl
  have hlive : ∀ b, (s.bed b).surface ≠ .empty → u.riskOf b false = liveOnly b := by
    intro b he
    unfold State.riskOf State.effectiveMean State.effectiveGust
    rw [State.liveTerm_eq, State.liveTerm_eq, Settings.threshold_eq u.conf (f := (u.bed b).surface) _ he]
    simp only [Bool.false_eq_true, if_false, List.append_nil]
    rfl
  have hdries : ∀ b, u.evaporation b = dries b := fun b => u.evaporation_eq b
  have horigin : ∀ b, (s.bed b).surface ≠ .empty → u.actOrigin b = if prewet b then .prewet else .autoAct := by
    intro b he
    rw [State.actOrigin_eq, hlive b he]
    rfl
  have hrain : u.rainAhead = true ↔ rainAhead := decide_eq_true_iff
  have effect := fun (b : Nat) (h1 : 1 ≤ b) (h2 : b ≤ 32) => evaluation_bed s due f h1 h2
  have frame := s.judgedAt_frame due
  have beds : RiskFrame (s.judgedAt due) (bedNumbers.foldl (evaluateBed f) (s.judgedAt due)) :=
    foldl_keeps RiskFrame (fun _ => by simp [RiskFrame]) (fun _ _ _ h1 h2 => by simp_all [RiskFrame]) (evaluateBed f)
      (fun u b => evaluateBed_frame u f b) bedNumbers _
  dsimp only at effect
  generalize bedNumbers.foldl (evaluateBed f) (s.judgedAt due) = t at run effect beds
  refine ⟨t, run, ?_, ?_, fun b h1 h2 => ?_, fun hfreeze b h1 h2 => ?_, ?_, ?_, ?_, ?_, ?_⟩
  · exact beds.2.2.1.trans frame.2.2.1
  · exact beds.1.trans frame.1
  · obtain ⟨undefined, empty, present⟩ := effect b h1 h2
    have kept : (t.bed b).surface = (s.bed b).surface ∧ (t.bed b).hold = (s.bed b).hold ∧
        (t.bed b).lastSprayEnd = (s.bed b).lastSprayEnd ∧ (t.bed b).cursor = (s.bed b).cursor := by
      cases hd : s.conf.bedDefined b with
      | false =>
        rw [Bed.eq_of_unshort (undefined hd).1]
        exact ⟨rfl, rfl, rfl, rfl⟩
      | true =>
        by_cases he : (s.bed b).surface = .empty
        · obtain ⟨dried, _⟩ := empty hd he
          exact ⟨dried.surface, dried.hold, dried.lastSprayEnd, dried.cursor⟩
        · obtain ⟨dried, _⟩ := present hd he
          exact ⟨dried.surface, dried.hold, dried.lastSprayEnd, dried.cursor⟩
    obtain ⟨hsurface, hhold, hsprayed, hcursor⟩ := kept
    refine ⟨hsurface, hhold, hsprayed, hcursor, fun hd => ?_, fun hd => ⟨?_, fun he => ?_, fun he hfb => ?_, fun he hfb => ?_⟩⟩
    · rw [Bed.eq_of_unshort (undefined hd).1]
      exact ⟨rfl, rfl, rfl⟩
    · rw [← hdries]
      by_cases he : (s.bed b).surface = .empty
      · exact (empty hd he).1.wetness
      · exact (present hd he).1.wetness
    · exact ⟨(empty hd he).1.risk, (empty hd he).1.band⟩
    · obtain ⟨dried, _⟩ := present hd he
      rw [inFallback hfb, State.assessment_fallback] at dried
      exact ⟨dried.risk, dried.band⟩
    · obtain ⟨dried, _⟩ := present hd he
      rw [notFallback hfb, State.assessment_full] at dried
      rw [← hfull b he]
      exact ⟨dried.risk, dried.band⟩
  · obtain ⟨undefined, empty, present⟩ := effect b h1 h2
    intro left handed
    refine ⟨fun h => ?_, fun hd he => ?_⟩
    · cases hd : s.conf.bedDefined b with
      | false => exact (undefined hd).2 hfreeze
      | true => exact (empty hd (h.resolve_left (by simp [hd]))).2 hfreeze
    · obtain ⟨dried, orders⟩ := present hd he
      obtain ⟨stays, hands⟩ := orders hfreeze
      have band := dried.band
      have given : ∀ target origin, (u.assessment f b).2.2 = some (target, origin) → handed target origin := by
        intro target origin h
        have := hands target origin h
        rw [State.volumeToward, demandVolume_eq] at this
        exact this
      have whole : ¬fallback → (u.fullDemand b (t.bed b).band = none → left) ∧
          ∀ target origin, u.fullDemand b (t.bed b).band = some (target, origin) → handed target origin := by
        intro hfb
        rw [notFallback hfb, State.assessment_full] at band stays given
        rw [band]
        exact ⟨stays, given⟩
      have reduced : fallback → (u.fallbackDemand b (t.bed b).band = none → left) ∧
          ∀ target origin, u.fallbackDemand b (t.bed b).band = some (target, origin) → handed target origin := by
        intro hfb
        rw [inFallback hfb, State.assessment_fallback] at band stays given
        rw [band]
        exact ⟨stays, given⟩
      refine ⟨fun hb => ?_, fun hfb hb => ⟨fun hp hr => ?_, fun hp hr => ?_, fun hp => ?_⟩, fun hfb hb => ?_, fun hfb hb => ?_,
        fun hfb hb => ⟨fun hl => ?_, fun sprayed hl => ⟨fun hlong => ?_, fun hshort => ?_⟩⟩⟩
      · exact given _ _ (u.assessment_severe b f (band.symm.trans hb))
      · refine (whole hfb).1 ?_
        rw [hb, State.fullDemand_act, horigin b he, if_pos hp, if_pos ⟨rfl, hrain.mpr hr⟩]
      · refine (whole hfb).2 _ _ ?_
        rw [hb, State.fullDemand_act, horigin b he, if_pos hp, if_neg (fun h => hr (hrain.mp h.2))]
        rfl
      · refine (whole hfb).2 _ _ ?_
        rw [hb, State.fullDemand_act, horigin b he, if_neg hp, if_neg (fun h => by cases h.1)]
        rfl
      · exact (whole hfb).1 (u.fullDemand_low b hb)
      · refine (reduced hfb).2 _ _ ?_
        rw [hb]
        rfl
      · refine (reduced hfb).2 _ _ ?_
        rw [State.fallbackDemand_low u b hb, show (u.bed b).lastSprayEnd = none from hl]
        rfl
      · refine (reduced hfb).2 _ _ ?_
        rw [State.fallbackDemand_low u b hb, show (u.bed b).lastSprayEnd = some sprayed from hl]
        exact if_pos hlong
      · refine (reduced hfb).1 ?_
        rw [State.fallbackDemand_low u b hb, show (u.bed b).lastSprayEnd = some sprayed from hl]
        exact if_neg (Nat.not_le.mpr hshort)
  all_goals simp_all [RiskFrame, ModeFrame]

end Sys2Proof.Machine
end

section
/-! What the way out of a load writes: beds, claims, records, flags, an attempt and the frames it tells (R5, R92, R203). -/

namespace Sys2Proof.Machine

/-! ### The outbound queue -/

/-- The outbound queue of `t` continues that of `s`, and is that of `s` where it had no room for a notice (R195). -/
structure Tells (s t : State) : Prop where
  long : t.port.long = s.port.long
  outbound : s.port.outbound <+: t.port.outbound
  shut : s.room = false → t.port.outbound = s.port.outbound

theorem State.room_congr {s t : State} (hl : t.port.long = s.port.long) (ho : t.port.outbound = s.port.outbound) :
    t.room = s.room := by
  unfold State.room State.free
  rw [hl, ho]

theorem Tells.same {s t : State} (h : t.port = s.port) : Tells s t :=
  ⟨by rw [h], by rw [h], fun _ => by rw [h]⟩

theorem Tells.refl (s : State) : Tells s s := .same rfl

theorem Tells.trans {s t u : State} (h1 : Tells s t) (h2 : Tells t u) : Tells s u := by
  refine ⟨h2.long.trans h1.long, h1.outbound.trans h2.outbound, fun h => ?_⟩
  have kept := h1.shut h
  exact (h2.shut ((State.room_congr h1.long kept).trans h)).trans kept

theorem State.join_tells {s : State} (f : Frame) (h : s.room = true) : Tells s (s.join f) :=
  ⟨rfl, List.prefix_append _ _, fun hr => absurd (h.symm.trans hr) (by decide)⟩

/-! ### Steps that write beds, claims, records, flags, an attempt and notices -/

/-- The read timer runs from now with any record in the queue, and not without one (R172). -/
def State.readAnew (s : State) : Prop :=
  s.recs.readDue = if s.recs.queue = [] then none else some (s.osc + ms s.conf.tRead)

/-- `t` is `s` but for beds, claims, records, flags that were raised, an attempt and notices where there was room. -/
structure Light (s t : State) : Prop where
  keeps : ∃ beds zones recs flags outbound attempt, t = { s with
    beds := beds, zones := zones, recs := recs, ctrl := { s.ctrl with flags := flags }
    port := { s.port with outbound := outbound }, disp := { s.disp with attempt := attempt } }
  tells : Tells s t
  flags : ∀ m, s.ctrl.flags &&& m = m → t.ctrl.flags &&& m = m
  read : s.readAnew → t.readAnew

theorem Light.refl (s : State) : Light s s := ⟨⟨_, _, _, _, _, _, rfl⟩, .refl s, fun _ => id, id⟩

theorem Light.trans {s t u : State} (h1 : Light s t) (h2 : Light t u) : Light s u := by
  refine ⟨?_, h1.tells.trans h2.tells, fun m h => h2.flags m (h1.flags m h), fun h => h2.read (h1.read h)⟩
  obtain ⟨_, _, _, _, _, _, rfl⟩ := h1.keeps
  obtain ⟨_, _, _, _, _, _, rfl⟩ := h2.keeps
  exact ⟨_, _, _, _, _, _, rfl⟩

theorem Light.foldl {α : Type} (f : State → α → State) (h : ∀ s a, Light s (f s a)) (l : List α) (s : State) :
    Light s (l.foldl f s) := foldl_keeps Light Light.refl (fun _ _ _ => Light.trans) f h l s

/-- A step that writes beds, claims or an attempt is light. -/
theorem Light.own (s : State) (beds : BedTable) (zones : Zones) (attempt : Bool) :
    Light s { s with beds := beds, zones := zones, disp := { s.disp with attempt := attempt } } :=
  ⟨⟨_, _, _, _, _, _, rfl⟩, .same rfl, fun _ => id, id⟩

theorem State.setBed_light (s : State) (b : Nat) (r : Bed) : Light s (s.setBed b r) := .own s _ s.zones s.disp.attempt

theorem State.setEntries_light (s : State) (l : List Claim) : Light s (s.setEntries l) := .own s s.beds _ s.disp.attempt

theorem State.cause_light (s : State) : Light s s.cause := .own s s.beds s.zones _

theorem State.notice_light {s : State} (k : NoticeKind) (d : List Byte) (h : s.room = true) : Light s (s.notice k d) :=
  ⟨⟨_, _, _, _, _, _, rfl⟩, s.join_tells _ h, fun _ => id, id⟩

theorem sendWhileRoom_light (k : NoticeKind) (l : List (List Byte)) : ∀ s : State, Light s (sendWhileRoom k l s).1 := by
  induction l with
  | nil => exact Light.refl
  | cons d rest ih =>
    intro s
    unfold sendWhileRoom
    split
    · rename_i h
      exact (State.notice_light k d h).trans (ih _)
    · exact .refl s

/-- A flag that was raised stays raised. -/
theorem flags_or {f m g : Byte} (h : f &&& m = m) : (f ||| g) &&& m = m := by
  rw [BitVec.and_or_distrib_right, h]
  ext i
  simp only [BitVec.getElem_or, BitVec.getElem_and]
  cases m[i] <;> simp

theorem State.setFlag_light (s : State) (f : Flag) : Light s (s.setFlag f) :=
  ⟨⟨_, _, _, _, _, _, rfl⟩, .same rfl, fun _ => flags_or, id⟩

theorem State.overflowIf_light (s : State) (b : Bool) : Light s (s.overflowIf b) := by
  unfold State.overflowIf
  split
  · exact s.setFlag_light _
  · exact .refl s

theorem State.flushHoldEnded_light (s : State) : Light s s.flushHoldEnded :=
  (sendWhileRoom_light .holdEnded _ s).trans (.own _ _ (sendWhileRoom .holdEnded _ s).1.zones (sendWhileRoom .holdEnded _ s).1.disp.attempt)

theorem State.makeHoldEnded_light (s : State) (h : HoldEnded) : Light s (s.makeHoldEnded h) := by
  unfold State.makeHoldEnded
  split
  · exact .refl s
  · refine s.flushHoldEnded_light.trans ?_
    dsimp only
    generalize s.flushHoldEnded = u
    split
    · rename_i h
      exact State.notice_light _ _ h
    · refine (u.overflowIf_light (decide (8 ≤ u.beds.pending.length))).trans ?_
      exact .own _ _ (u.overflowIf _).zones (u.overflowIf _).disp.attempt

theorem State.flushClaimExpired_light (s : State) : Light s s.flushClaimExpired :=
  (sendWhileRoom_light .claimExpired _ s).trans (.own _ (sendWhileRoom .claimExpired _ s).1.beds _ (sendWhileRoom .claimExpired _ s).1.disp.attempt)

theorem State.makeClaimExpired_light (s : State) (m : Nat) : Light s (s.makeClaimExpired m) := by
  unfold State.makeClaimExpired
  split
  · exact .refl s
  · refine s.flushClaimExpired_light.trans ?_
    dsimp only
    generalize s.flushClaimExpired = u
    split
    · rename_i h
      exact State.notice_light _ _ h
    · refine (u.overflowIf_light (decide (8 ≤ u.zones.pending.length))).trans ?_
      exact .own _ (u.overflowIf _).beds _ (u.overflowIf _).disp.attempt

theorem recordJoin_ne_nil (q : List Record) (r : Record) : recordJoin q r ≠ [] := by
  unfold recordJoin
  split
  · simp
  · split
    · simp
    · split <;> simp

theorem flushReader_light (s : State) (c : ReaderClass) : Light s (flushReader s c) := by
  unfold flushReader
  split
  · rename_i h
    have noted : Light s { s with recs := { s.recs with marks := s.recs.marks.set false c } } :=
      ⟨⟨_, _, _, _, _, _, rfl⟩, .same rfl, fun _ => id, id⟩
    dsimp only
    split
    · exact noted
    · exact noted.trans ⟨⟨_, _, _, _, _, _, rfl⟩, State.join_tells _ h.2, fun _ => id, id⟩
  · exact .refl s

theorem State.askRecord_light (s : State) (k : RecordKind) (a v : Nat) (b : Option Band) : Light s (s.askRecord k a v b) := by
  unfold State.askRecord
  dsimp only
  split
  · exact .refl s
  · refine Light.trans ?_ (.foldl flushReader flushReader_light _ _)
    refine Light.trans ?_ (State.overflowIf_light _ _)
    refine ⟨⟨_, _, _, _, _, _, rfl⟩, .same rfl, fun _ => id, fun h => ?_⟩
    unfold State.readAnew at h ⊢
    dsimp only
    rw [if_neg (recordJoin_ne_nil _ _)]
    split
    · rfl
    · rename_i hq
      rw [h, if_neg (by simpa using hq)]

theorem State.judgeAtRisk_light (s : State) (b : Nat) : Light s (s.judgeAtRisk b) := by
  unfold State.judgeAtRisk
  dsimp only
  split
  · split
    · exact .refl s
    · exact (s.setBed_light _ _).trans (State.askRecord_light _ _ _ _ _)
  · exact s.setBed_light _ _

theorem State.setSurface_light (s : State) (b : Nat) (f : Surface) : Light s (s.setSurface b f) := s.setBed_light _ _

theorem State.sharePrior_light (s : State) (b : Nat) (p : Surface) : Light s (s.sharePrior b p) := s.setEntries_light _

theorem State.keepBed_light (s : State) (b : Nat) : Light s (s.keepBed b) := by
  unfold State.keepBed
  dsimp only
  split
  · split
    · exact (s.judgeAtRisk_light b).trans (State.setSurface_light ..)
    · exact s.judgeAtRisk_light b
  · exact s.judgeAtRisk_light b

/-- The record of a reset bed is at its reset values and its hold is told (R5, R111). -/
def State.clearBed (s : State) (b : Nat) : State :=
  match (s.bed b).hold with
  | some h => ((s.setBed b (Bed.initial s.conf.wInit)).makeHoldEnded ⟨b, h.tag, h.tally⟩).cause
  | none => s.setBed b (Bed.initial s.conf.wInit)

theorem State.resetBed_eq (s : State) (b : Nat) : s.resetBed b =
    if s.conf.bedDefined b then
      if s.touched b then ((s.clearBed b).setSurface b .worked).sharePrior b .settled else s.clearBed b
    else (s.clearBed b).dropPrior b := rfl

theorem State.clearBed_light (s : State) (b : Nat) : Light s (s.clearBed b) := by
  unfold State.clearBed
  split
  · exact ((s.setBed_light b _).trans (State.makeHoldEnded_light _ _)).trans (State.cause_light _)
  · exact s.setBed_light b _

theorem State.resetBed_light (s : State) (b : Nat) : Light s (s.resetBed b) := by
  rw [State.resetBed_eq]
  split
  · split
    · exact ((s.clearBed_light b).trans (State.setSurface_light _ _ _)).trans (State.sharePrior_light _ _ _)
    · exact s.clearBed_light b
  · exact (s.clearBed_light b).trans (State.setEntries_light _ _)

theorem restartBed_light (before : Settings) (s : State) (b : Nat) : Light s (restartBed before s b) := by
  unfold restartBed
  split
  · exact s.keepBed_light b
  · exact s.resetBed_light b

theorem State.releaseUncovered_expiry (s : State) (b : Nat) (p : Surface) :
    s.releaseUncovered b .expiry p = if (s.bed b).surface = .worked then s.setSurface b .fresh else s := by
  unfold State.releaseUncovered
  cases (s.bed b).surface <;> rfl

theorem State.releaseBed_expiry_light (s : State) (b : Nat) (p : Surface) : Light s (s.releaseBed b .expiry p) := by
  unfold State.releaseBed
  split
  · split
    · split
      · exact s.sharePrior_light b .fresh
      · exact .refl s
    · rw [State.releaseUncovered_expiry]
      split
      · exact s.setSurface_light b .fresh
      · exact .refl s
  · exact .refl s

theorem State.removeClaim_expiry_light (s : State) (e : Claim) : Light s (s.removeClaim e .expiry) :=
  (s.setEntries_light _).trans (.foldl _ (fun t b => t.releaseBed_expiry_light b _) _ _)

theorem State.expireClaim_light (s : State) (e : Claim) : Light s (s.expireClaim e) := by
  have caused : ∀ u v : State, Light u (u.causeIfUncovered v) := by
    intro u v
    unfold State.causeIfUncovered
    split
    · exact u.cause_light
    · exact .refl u
  exact ((s.removeClaim_expiry_light e).trans (caused _ s)).trans (State.makeClaimExpired_light _ _)

theorem restartClaim_light (s : State) (e : Claim) : Light s (restartClaim s e) := by
  unfold restartClaim
  split
  · exact s.expireClaim_light e
  · exact .refl s

end Sys2Proof.Machine
end

section
/-! The beds and the claims at a settings restart (R5, R92, R98). -/

namespace Sys2Proof.Machine

/-! ### What a kept bed keeps -/

/-- A bed without its surface state and the marks that are judged again at a settings restart. -/
def Bed.lasting (r : Bed) : Bed := { r with surface := .settled, settleSince := none, cappedAtRisk := false, waterShort := false }

theorem Bed.lasting_eq {r q : Bed} (h : r.lasting = q.lasting) : r.wetness = q.wetness ∧ r.risk = q.risk ∧ r.band = q.band ∧
    r.lastSprayEnd = q.lastSprayEnd ∧ r.cursor = q.cursor ∧ r.hold = q.hold :=
  ⟨(congrArg Bed.wetness h :), (congrArg Bed.risk h :), (congrArg Bed.band h :), (congrArg Bed.lastSprayEnd h :),
    (congrArg Bed.cursor h :), (congrArg Bed.hold h :)⟩

/-- The beds of `t` are those of `s` but for what is judged again, and no record and no HOLD_ENDED notice is made. -/
structure Lasts (s t : State) : Prop where
  beds : ∀ b, (t.bed b).lasting = (s.bed b).lasting
  recs : t.recs = s.recs
  pending : t.beds.pending = s.beds.pending

theorem Lasts.refl (s : State) : Lasts s s := ⟨fun _ => rfl, rfl, rfl⟩

theorem Lasts.trans {s t u : State} (h1 : Lasts s t) (h2 : Lasts t u) : Lasts s u :=
  ⟨fun b => (h2.beds b).trans (h1.beds b), h2.recs.trans h1.recs, h2.pending.trans h1.pending⟩

theorem Lasts.foldl {α : Type} (f : State → α → State) (h : ∀ s a, Lasts s (f s a)) (l : List α) (s : State) :
    Lasts s (l.foldl f s) := foldl_keeps Lasts Lasts.refl (fun _ _ _ => Lasts.trans) f h l s

theorem Lasts.same {s t : State} (hb : t.beds = s.beds) (hr : t.recs = s.recs) : Lasts s t :=
  ⟨fun b => congrArg Bed.lasting (State.bed_congr (congrArg BedTable.records hb) b), hr, congrArg BedTable.pending hb⟩

theorem State.setSurface_lasts (s : State) (b : Nat) (f : Surface) : Lasts s (s.setSurface b f) := by
  refine ⟨fun a => ?_, rfl, rfl⟩
  unfold State.setSurface
  rw [State.bed_setBed]
  split
  · rename_i h
    rw [h.1]
    rfl
  · rfl

theorem State.releaseBed_expiry_lasts (s : State) (b : Nat) (p : Surface) : Lasts s (s.releaseBed b .expiry p) := by
  unfold State.releaseBed
  split
  · split
    · split
      · exact .same rfl rfl
      · exact .refl s
    · rw [State.releaseUncovered_expiry]
      split
      · exact s.setSurface_lasts b _
      · exact .refl s
  · exact .refl s

theorem restartClaim_lasts (s : State) (e : Claim) : Lasts s (restartClaim s e) := by
  have opened : Lasts s (s.setEntries (s.zones.entries.filter (fun x => x.machine != e.machine))) := .same rfl rfl
  have removed : Lasts s (s.removeClaim e .expiry) :=
    opened.trans (.foldl _ (fun t b => t.releaseBed_expiry_lasts b (e.priorOf b)) (rangeBeds e.first e.last) _)
  have caused : Lasts (s.removeClaim e .expiry) ((s.removeClaim e .expiry).causeIfUncovered s) := by
    unfold State.causeIfUncovered
    split <;> exact .same rfl rfl
  have told : ∀ u : State, Lasts u (u.makeClaimExpired e.machine) := fun u => .same (by simp) (by simp)
  unfold restartClaim
  split
  · exact (removed.trans caused).trans (told _)
  · exact .refl s

/-! ### One bed -/

/-- A kept bed lasts, and settles when its timer has run out (R5, R11). -/
theorem State.keepBed_bed (s : State) {b : Nat} (h1 : 1 ≤ b) (h2 : b ≤ 32) :
    ((s.keepBed b).bed b).lasting = (s.bed b).lasting ∧
    ((s.bed b).settleSince = none → ((s.keepBed b).bed b).surface = (s.bed b).surface) ∧
    ∀ since, (s.bed b).settleSince = some since → ((s.keepBed b).bed b).surface =
      if since + s.conf.tSettle * 1000 ≤ s.osc then .settled else (s.bed b).surface := by
  obtain ⟨x, judged⟩ := s.judgeAtRisk_bed h1 h2
  have osc : (s.judgeAtRisk b).osc = s.osc := by simp
  have conf : (s.judgeAtRisk b).conf = s.conf := by simp
  have lasting : ((s.judgeAtRisk b).bed b).lasting = (s.bed b).lasting := by rw [judged]; rfl
  unfold State.keepBed State.settle
  dsimp only
  rw [conf, osc, show ((s.judgeAtRisk b).bed b).settleSince = (s.bed b).settleSince by rw [judged]]
  have settled : (((s.judgeAtRisk b).setSurface b .settled).bed b).surface = .settled := by
    unfold State.setSurface
    rw [State.bed_setBed_same _ _ h1 h2]
  cases hs : (s.bed b).settleSince with
  | none => exact ⟨lasting, fun _ => by rw [judged], fun _ h => absurd h (by simp)⟩
  | some since =>
    dsimp only
    by_cases due : since + ms s.conf.tSettle ≤ s.osc
    · rw [if_pos due]
      refine ⟨((State.setSurface_lasts _ b _).beds b).trans lasting, fun h => absurd h (by simp), fun since' h => ?_⟩
      injection h with h
      rw [settled, ← h]
      exact (if_pos due).symm
    · rw [if_neg due]
      refine ⟨lasting, fun h => absurd h (by simp), fun since' h => ?_⟩
      injection h with h
      rw [judged, ← h]
      exact (if_neg due).symm

theorem State.keepBed_bed_ne (s : State) {a b : Nat} (h : b ≠ a) : (s.keepBed a).bed b = s.bed b := by
  have other : ((s.judgeAtRisk a).setSurface a .settled).bed b = s.bed b :=
    (State.bed_setBed_ne _ _ h).trans (s.judgeAtRisk_bed_ne h)
  unfold State.keepBed State.settle
  dsimp only
  split
  · split
    · exact other
    · exact s.judgeAtRisk_bed_ne h
  · exact s.judgeAtRisk_bed_ne h

theorem State.keepBed_zones (s : State) (b : Nat) : (s.keepBed b).zones = s.zones := by
  unfold State.keepBed State.settle
  dsimp only
  split
  · split <;> simp
  · simp

theorem State.clearBed_records (s : State) (b : Nat) :
    (s.clearBed b).beds.records = (s.setBed b (Bed.initial s.conf.wInit)).beds.records := by
  unfold State.clearBed
  split
  · simp [State.cause]
  · rfl

theorem State.clearBed_recs (s : State) (b : Nat) : (s.clearBed b).recs = s.recs ∧ (s.clearBed b).zones = s.zones := by
  unfold State.clearBed
  split
  · simp [State.cause]
  · exact ⟨rfl, rfl⟩

theorem State.resetBed_beds (s : State) (b : Nat) : (s.resetBed b).beds =
    if s.conf.bedDefined b && s.touched b then ((s.clearBed b).setSurface b .worked).beds else (s.clearBed b).beds := by
  rw [State.resetBed_eq]
  cases s.conf.bedDefined b <;> cases s.touched b <;> rfl

/-- A reset bed, WORKED where STACK or RECLAIM covers it (R5). -/
theorem State.resetBed_bed (s : State) {b : Nat} (h1 : 1 ≤ b) (h2 : b ≤ 32) :
    ((s.resetBed b).bed b).lasting = Bed.initial s.conf.wInit ∧
    ((s.resetBed b).bed b).surface = if s.conf.bedDefined b && s.touched b then .worked else .settled := by
  have cleared : (s.clearBed b).bed b = Bed.initial s.conf.wInit :=
    (State.bed_congr (s.clearBed_records b) b).trans (State.bed_setBed_same _ _ h1 h2)
  have beds := s.resetBed_beds b
  split at beds
  · rename_i h
    rw [if_pos h, State.bed_congr (congrArg BedTable.records beds) b]
    refine ⟨((State.setSurface_lasts _ b _).beds b).trans (by rw [cleared]; rfl), ?_⟩
    unfold State.setSurface
    rw [State.bed_setBed_same _ _ h1 h2]
  · rename_i h
    rw [if_neg h, State.bed_congr (congrArg BedTable.records beds) b, cleared]
    exact ⟨rfl, rfl⟩

theorem State.resetBed_bed_ne (s : State) {a b : Nat} (h : b ≠ a) : (s.resetBed a).bed b = s.bed b := by
  have cleared : (s.clearBed a).bed b = s.bed b := (State.bed_congr (s.clearBed_records a) b).trans (State.bed_setBed_ne _ _ h)
  have beds := s.resetBed_beds a
  split at beds
  · exact (State.bed_congr (congrArg BedTable.records beds) b).trans ((State.bed_setBed_ne _ _ h).trans cleared)
  · exact (State.bed_congr (congrArg BedTable.records beds) b).trans cleared

theorem restartBed_bed_ne (before : Settings) (s : State) {a b : Nat} (h : b ≠ a) : (restartBed before s a).bed b = s.bed b := by
  unfold restartBed
  split
  · exact s.keepBed_bed_ne h
  · exact s.resetBed_bed_ne h

/-! ### The beds of a settings restart -/

/-- What the fold over the beds leaves for each of them. -/
def State.alike (s u : State) : Prop := u.conf = s.conf ∧ u.osc = s.osc ∧ u.bareEntries = s.bareEntries

theorem restartBed_alike (before : Settings) {s u : State} (b : Nat) (h : s.alike u) : s.alike (restartBed before u b) := by
  obtain ⟨hc, ho, he⟩ := h
  refine ⟨(restartBed_conf before u b).trans hc, ?_, (restartBed_bare before u b).trans he⟩
  obtain ⟨_, _, _, _, _, _, e⟩ := (restartBed_light before u b).keeps
  rw [e]
  exact ho

/-- Each bed is reached by its own step, from the record it had. -/
theorem restartBeds_bed (before : Settings) (s : State) {b : Nat} (h1 : 1 ≤ b) (h2 : b ≤ 32) :
    ∃ u, s.alike u ∧ u.bed b = s.bed b ∧ (bedNumbers.foldl (restartBed before) s).bed b = (restartBed before u b).bed b :=
  foldl_view_of_mem State.bed (restartBed before) s.alike (fun _ a h => restartBed_alike before a h)
    (fun u _ _ _ h => restartBed_bed_ne before u h) bedNumbers nodup_bedNumbers s ⟨rfl, rfl, rfl⟩ b
    ((mem_bedNumbers b).mpr ⟨h1, h2⟩)

theorem restartBeds_kept {before : Settings} {s : State} {b : Nat} (h1 : 1 ≤ b) (h2 : b ≤ 32) (hk : bedKept before s.conf b = true) :
    ((bedNumbers.foldl (restartBed before) s).bed b).lasting = (s.bed b).lasting ∧
    ((s.bed b).settleSince = none → ((bedNumbers.foldl (restartBed before) s).bed b).surface = (s.bed b).surface) ∧
    ∀ since, (s.bed b).settleSince = some since → ((bedNumbers.foldl (restartBed before) s).bed b).surface =
      if since + s.conf.tSettle * 1000 ≤ s.osc then .settled else (s.bed b).surface := by
  obtain ⟨u, ⟨hc, ho, _⟩, hb, e⟩ := restartBeds_bed before s h1 h2
  rw [e, ← hb, ← ho, ← hc]
  unfold restartBed
  rw [hc, if_pos hk, ← hc]
  exact u.keepBed_bed h1 h2

theorem restartBeds_reset {before : Settings} {s : State} {b : Nat} (h1 : 1 ≤ b) (h2 : b ≤ 32) (hk : ¬bedKept before s.conf b = true) :
    ((bedNumbers.foldl (restartBed before) s).bed b).lasting = Bed.initial s.conf.wInit ∧
    ((bedNumbers.foldl (restartBed before) s).bed b).surface =
      if s.conf.bedDefined b && s.touched b then .worked else .settled := by
  obtain ⟨u, ⟨hc, ho, he⟩, _, e⟩ := restartBeds_bed before s h1 h2
  rw [e, ← State.touched_congr he, ← hc]
  unfold restartBed
  rw [hc, if_neg hk, ← hc]
  exact u.resetBed_bed h1 h2

/-! ### Records and notices of the beds -/

/-- A bed whose severe risk is not held makes no record (R110). -/
theorem State.judgeAtRisk_recs {s : State} {b : Nat} (h : (s.bed b).hold = none ∨ (s.bed b).band ≠ .severe) :
    (s.judgeAtRisk b).recs = s.recs := by
  have calm : ¬(s.capped b = true ∧ (s.bed b).band = .severe) := by
    rintro ⟨hc, hs⟩
    rcases h with h | h
    · unfold State.capped Bed.capped at hc
      rw [h] at hc
      cases hc
    · exact h hs
  unfold State.judgeAtRisk
  dsimp only
  rw [if_neg calm]
  rfl

theorem State.keepBed_recs {s : State} {b : Nat} (h : (s.bed b).hold = none ∨ (s.bed b).band ≠ .severe) :
    (s.keepBed b).recs = s.recs := by
  refine Eq.trans ?_ (State.judgeAtRisk_recs h)
  unfold State.keepBed State.settle
  dsimp only
  split
  · split <;> rfl
  · rfl

theorem State.resetBed_recs (s : State) (b : Nat) : (s.resetBed b).recs = s.recs := by
  obtain ⟨recs, _⟩ := s.clearBed_recs b
  rw [← recs, State.resetBed_eq]
  split
  · split <;> rfl
  · rfl

/-- A bed's part of a settings restart writes no claim notice. -/
theorem restartBed_zonesPending (before : Settings) (s : State) (b : Nat) :
    (restartBed before s b).zones.pending = s.zones.pending := by
  have cleared : (s.clearBed b).zones.pending = s.zones.pending := congrArg Zones.pending (s.clearBed_recs b).2
  unfold restartBed
  split
  · rw [State.keepBed_zones]
  · rw [← cleared, State.resetBed_eq]
    split
    · split <;> rfl
    · rfl

theorem State.keepBed_pending (s : State) (b : Nat) : (s.keepBed b).beds.pending = s.beds.pending := by
  unfold State.keepBed State.settle
  dsimp only
  split
  · split
    · change (s.judgeAtRisk b).beds.pending = _
      simp
    · simp
  · simp

/-- Without a hold, or without a class to tell, a reset bed makes no HOLD_ENDED notice (R111). -/
theorem State.resetBed_pending {s : State} {b : Nat} (h : (s.bed b).hold = none ∨ s.classes .holdEnded = 0) :
    (s.resetBed b).beds.pending = s.beds.pending := by
  have cleared : (s.clearBed b).beds.pending = s.beds.pending := by
    unfold State.clearBed
    split
    · rename_i hb
      rcases h with h | h
      · rw [h] at hb
        cases hb
      · have unrouted : ∀ (u : State) (x : HoldEnded), u.classes .holdEnded = 0 → u.makeHoldEnded x = u := fun _ _ h => if_pos h
        rw [unrouted (s.setBed b (Bed.initial s.conf.wInit)) _ h]
        rfl
    · rfl
  rw [State.resetBed_beds]
  split <;> exact cleared

/-- Where no bed has a hold, or no class is told of its end, the beds of a settings restart make no HOLD_ENDED notice. -/
theorem restartBeds_pending (before : Settings) (l : List Nat) : ∀ s : State, l.Nodup →
    (∀ b ∈ l, (s.bed b).hold = none) ∨ s.classes .holdEnded = 0 →
    (l.foldl (restartBed before) s).beds.pending = s.beds.pending := by
  induction l with
  | nil => exact fun _ _ _ => rfl
  | cons b rest ih =>
    intro s hn h
    obtain ⟨hb, hn⟩ := List.nodup_cons.mp hn
    have one : (restartBed before s b).beds.pending = s.beds.pending := by
      unfold restartBed
      split
      · exact s.keepBed_pending b
      · exact State.resetBed_pending (h.imp (fun h => h b (List.mem_cons_self ..)) id)
    refine (ih _ hn ?_).trans one
    rcases h with h | h
    · left
      intro a ha
      rw [restartBed_bed_ne before s (fun e : a = b => hb (e ▸ ha))]
      exact h a (List.mem_cons_of_mem _ ha)
    · right
      unfold State.classes at h ⊢
      rw [restartBed_conf]
      exact h

theorem restartBeds_zonesPending (before : Settings) (s : State) :
    (bedNumbers.foldl (restartBed before) s).zones.pending = s.zones.pending :=
  foldl_keeps (fun s t => t.zones.pending = s.zones.pending) (fun _ => rfl) (fun _ _ _ h1 h2 => h2.trans h1) _
    (restartBed_zonesPending before) bedNumbers s

/-- Where no severe bed has a hold the beds of a settings restart make no record. -/
theorem restartBeds_recs (before : Settings) (l : List Nat) : ∀ s : State, l.Nodup →
    (∀ b ∈ l, (s.bed b).hold = none ∨ (s.bed b).band ≠ .severe) → (l.foldl (restartBed before) s).recs = s.recs := by
  induction l with
  | nil => exact fun _ _ _ => rfl
  | cons b rest ih =>
    intro s hn h
    obtain ⟨hb, hn⟩ := List.nodup_cons.mp hn
    have one : (restartBed before s b).recs = s.recs := by
      unfold restartBed
      split
      · exact State.keepBed_recs (h b (List.mem_cons_self ..))
      · exact s.resetBed_recs b
    refine (ih _ hn fun a ha => ?_).trans one
    rw [restartBed_bed_ne before s (fun e : a = b => hb (e ▸ ha))]
    exact h a (List.mem_cons_of_mem _ ha)

/-! ### The claims of a settings restart -/

/-- An entry older than Tclaim is expired (R98). -/
def Claim.outdated (S : Settings) (osc : Nat) (e : Claim) : Bool := decide (e.since + ms S.tClaim ≤ osc)

theorem restartClaim_current {s : State} {e : Claim} (h : s.osc < e.since + ms s.conf.tClaim) : restartClaim s e = s :=
  if_neg (Nat.not_le.mpr h)

/-- With no entry older than Tclaim the claims stay. -/
theorem restartClaims_current {s : State} (l : List Claim) (h : ∀ e ∈ l, s.osc < e.since + ms s.conf.tClaim) :
    l.foldl restartClaim s = s := by
  induction l with
  | nil => rfl
  | cons e rest ih =>
    rw [List.foldl_cons, restartClaim_current (h e (List.mem_cons_self ..))]
    exact ih (fun x hx => h x (List.mem_cons_of_mem _ hx))

theorem restartClaim_bareEntries (s : State) (e : Claim) : (restartClaim s e).bareEntries =
    s.bareEntries.filter (fun x => !(e.outdated s.conf s.osc && x.machine == e.machine)) := by
  unfold restartClaim Claim.outdated
  split
  · rename_i h
    rw [State.expireClaim_bare]
    simp [h, bne]
  · rename_i h
    simp [h]

/-- The entries left are those whose machine has no expired entry in the list. -/
theorem restartClaims_bareEntries (S : Settings) (osc : Nat) (l : List Claim) : ∀ s : State, s.conf = S → s.osc = osc →
    (l.foldl restartClaim s).bareEntries =
      s.bareEntries.filter (fun x => l.all (fun e => !(e.outdated S osc && x.machine == e.machine))) := by
  induction l with
  | nil => intro s _ _; simp
  | cons e rest ih =>
    rintro s rfl rfl
    obtain ⟨_, _, _, _, _, _, light⟩ := (restartClaim_light s e).keeps
    have conf : (restartClaim s e).conf = s.conf := by rw [light]
    have time : (restartClaim s e).osc = s.osc := by rw [light]
    rw [List.foldl_cons, ih _ conf time, restartClaim_bareEntries, List.filter_filter]
    congr 1
    funext x
    rw [List.all_cons, Bool.and_comm]

/-- In a lawful table exactly the expired entries leave (R92). -/
theorem restartClaims_machines {s : State} (h : s.zoneLaw) :
    (s.zones.entries.foldl restartClaim s).zones.entries.map Claim.machine =
      (s.zones.entries.filter (fun e => decide (s.osc < e.since + s.conf.tClaim * 1000))).map Claim.machine := by
  have machines : ∀ u : State, u.zones.entries.map Claim.machine = u.bareEntries.map Claim.machine := by
    intro u
    unfold State.bareEntries
    rw [List.map_map]
    rfl
  rw [machines, restartClaims_bareEntries s.conf s.osc _ s rfl rfl]
  unfold State.bareEntries
  rw [List.filter_map, List.map_map]
  obtain ⟨_, distinct, _⟩ := h
  change List.map Claim.machine _ = _
  congr 1
  refine List.filter_congr fun e he => ?_
  rw [Bool.eq_iff_iff]
  simp only [Function.comp, List.all_eq_true, decide_eq_true_eq]
  constructor
  · intro hall
    have own := hall e he
    unfold Claim.outdated ms at own
    simpa [Claim.bare] using own
  · intro hc x hx
    by_cases hm : e.machine = x.machine
    · have : x = e := List.inj_on_of_nodup_map distinct hx he hm.symm
      subst this
      have current : ¬x.since + ms s.conf.tClaim ≤ s.osc := Nat.not_le.mpr hc
      simp [Claim.outdated, current]
    · have : (e.bare.machine == x.machine) = false := by simpa [Claim.bare] using hm
      rw [this, Bool.and_false]
      rfl

/-- Without a class to tell, expiries write no notice (R99). -/
theorem restartClaims_pending (l : List Claim) : ∀ s : State, s.classes .claimExpired = 0 →
    (l.foldl restartClaim s).zones.pending = s.zones.pending := by
  induction l with
  | nil => exact fun _ _ => rfl
  | cons e rest ih =>
    intro s h
    have one : (restartClaim s e).zones.pending = s.zones.pending := by
      unfold restartClaim
      split
      · obtain ⟨_, removed, conf⟩ := s.removeClaim_expiry_untold e
        obtain ⟨_, caused, conf'⟩ := (s.removeClaim e .expiry).causeIfUncovered_untold s
        unfold State.expireClaim
        rw [State.makeClaimExpired_unrouted, caused, removed]
        unfold State.classes at h ⊢
        rw [conf', conf]
        exact h
      · rfl
    refine (ih _ ?_).trans one
    obtain ⟨_, _, _, _, _, _, light⟩ := (restartClaim_light s e).keeps
    rw [light]
    exact h

end Sys2Proof.Machine
end

section
/-! The blocks at the load and the way out of STARTING, in closed form (R175, R203, R206). -/

namespace Sys2Proof.Machine

/-! ### The Measurement Unit -/

/-- The channels and the second of the Measurement Unit at the load; the ring is kept (R34, R45). -/
theorem State.loadMeasurement_form (s : State) : ∃ m, s.loadMeasurement = { s with meas := m } ∧ m.ring = s.meas.ring ∧
    m.secondDue = (if s.restarting then s.meas.secondDue else some (s.osc + 1000)) ∧
    ∀ ch, 1 ≤ ch → ch ≤ 8 → nth m.channels Channel.initial ch = loadChannel s.conf s.restarting s.osc ch (s.channel ch) := by
  have fold : ∀ (l : List Nat) (u : State),
      (∃ m, u = { s with meas := m } ∧ m.ring = s.meas.ring ∧ m.secondDue = s.meas.secondDue) →
      ∃ m, l.foldl (fun t ch => t.setChannel ch (loadChannel t.conf s.restarting t.osc ch (t.channel ch))) u = { s with meas := m } ∧
        m.ring = s.meas.ring ∧ m.secondDue = s.meas.secondDue := by
    intro l
    induction l with
    | nil => exact fun _ h => h
    | cons ch rest ih =>
      rintro u ⟨m, rfl, hr, hd⟩
      exact ih _ ⟨_, rfl, hr, hd⟩
  have channels : ∀ ch, 1 ≤ ch → ch ≤ 8 → State.channel (channelNumbers.foldl
      (fun t ch => t.setChannel ch (loadChannel t.conf s.restarting t.osc ch (t.channel ch))) s) ch =
        loadChannel s.conf s.restarting s.osc ch (s.channel ch) := by
    intro ch h1 h2
    obtain ⟨u, ⟨hc, ho⟩, same, reached⟩ := foldl_view_of_mem State.channel
      (fun t ch => t.setChannel ch (loadChannel t.conf s.restarting t.osc ch (t.channel ch)))
      (fun u => u.conf = s.conf ∧ u.osc = s.osc) (fun _ _ h => h) (fun u a b _ h => u.channel_setChannel_ne _ h)
      channelNumbers (nodup_numbersFrom _ _) s ⟨rfl, rfl⟩ ch ((mem_numbersFrom 8 1 ch).mpr (by omega))
    rw [reached, State.channel_setChannel_same _ _ h1 h2, hc, ho, same]
  obtain ⟨m, hm, ring, second⟩ := fold channelNumbers s ⟨s.meas, rfl, rfl, rfl⟩
  unfold State.loadMeasurement
  dsimp only
  rw [hm] at channels ⊢
  split
  · exact ⟨m, rfl, ring, second, channels⟩
  · exact ⟨_, rfl, ring, rfl, channels⟩

/-! ### The blocks -/

/-- What the blocks are when they have taken the settings `S`, but for the Measurement Unit and the flags (R203, R206). -/
def State.taken (s : State) (S : Settings) (v : Bool) (m : Measurement) (flags : Byte) : State :=
  let untold := fun (k : NoticeKind) => S.noticeSet k.code = 0
  { s with
    conf := S
    evalDue := some (s.osc + 60000)
    port := { s.port with bus := .joined }
    meas := m
    beds := { s.beds with
      records := if s.restarting then s.beds.records else Vector.replicate 32 (Bed.initial S.wInit)
      pending := if untold .holdEnded then [] else s.beds.pending }
    water := { s.water with
      recycled := s.water.recycled.loaded (S.noticeSet NoticeKind.waterUse.code != 0)
      fresh := s.water.fresh.loaded (S.noticeSet NoticeKind.waterUse.code != 0)
      usageDue := if s.restarting then s.water.usageDue else some (s.osc + ms S.tUse)
      slotCapacity := min S.nSlot (s.water.pumps * S.kSlot)
      flowCapacity := min S.fHead s.water.flowLimit }
    zones := { s.zones with pending := if untold .claimExpired then [] else s.zones.pending }
    disp := { s.disp with pending := if untold .sprayDone then [] else s.disp.pending }
    line := ⟨Vector.replicate 24 Cannon.initial, .ok, none, false, 0, 0, s.line.heldSerial⟩
    recs := { s.recs with
      marks := ⟨s.recs.marks.ops && (S.noticeSet NoticeKind.recordsWaiting.code).testBit ReaderClass.ops.bit,
        s.recs.marks.wtr && (S.noticeSet NoticeKind.recordsWaiting.code).testBit ReaderClass.wtr.bit,
        s.recs.marks.met && (S.noticeSet NoticeKind.recordsWaiting.code).testBit ReaderClass.met.bit⟩
      readDue := if s.recs.queue.isEmpty then none else some (s.osc + ms S.tRead) }
    ctrl := { s.ctrl with flags := flags }
    store := { s.store with
      working := S
      uncommitted := false
      verified := none
      started := some ⟨s.store.resetKind, v, S.version⟩ } }

/-- A Measurement Unit that the load of `S` leaves (R34, R45). -/
structure LoadedMeas (s : State) (S : Settings) (m : Measurement) : Prop where
  ring : m.ring = s.meas.ring
  second : m.secondDue = if s.restarting then s.meas.secondDue else some (s.osc + 1000)
  channels : ∀ ch, 1 ≤ ch → ch ≤ 8 → nth m.channels Channel.initial ch = loadChannel S s.restarting s.osc ch (s.channel ch)

/-- The settings are in force and in the working copy; the flags are the caller's. -/
def State.settled (s : State) (S : Settings) (v : Bool) (flags : Byte) : State :=
  { s with
    conf := S
    ctrl := { s.ctrl with flags := flags }
    store := { s.store with
      working := S
      uncommitted := false
      verified := none
      started := some ⟨s.store.resetKind, v, S.version⟩ } }

theorem State.joinBus_form (s : State) : ∃ flags, s.joinBus =
    { s with port := { s.port with bus := .joined }, ctrl := { s.ctrl with flags := flags } } ∧
      ∀ m, s.ctrl.flags &&& m = m → flags &&& m = m := by
  unfold State.joinBus
  dsimp only
  split
  · exact ⟨_, rfl, fun _ => flags_or⟩
  · exact ⟨_, rfl, fun _ => id⟩

theorem State.loadSettings_form (s : State) (S : Settings) (v : Bool) :
    ∃ flags, s.loadSettings S v = s.settled S v flags ∧ (v = false → flags &&& 0x01#8 = 0x01#8) := by
  have raised : ∀ f : Byte, (f ||| 0x01#8) &&& 0x01#8 = 0x01#8 := by decide
  cases v with
  | true => exact ⟨_, rfl, fun h => absurd h (by decide)⟩
  | false => exact ⟨_, rfl, fun _ => raised _⟩

theorem State.taken_of_settled (s : State) (S : Settings) (v : Bool) (m : Measurement) (f g : Byte) :
    let u := { ({ s.settled S v f with meas := m } : State).loadLine.loadWater.dropUnrouted.loadRecords with evalDue := some (s.osc + 60000) }
    let w := if s.restarting then u else u.loadBeds
    { w with port := { w.port with bus := .joined }, ctrl := { w.ctrl with flags := g } } = s.taken S v m g := by
  rcases s with ⟨osc, conf, evalDue, port, meas, forecast, beds, water, zones, disp, line, recs, ctrl, store, freeCount, pending⟩
  rcases store with ⟨working, uncommitted, commit, eeprom, started, kind, verified⟩
  cases kind <;> rfl

/-- The settings and the blocks at the load. -/
theorem State.loadBlocks_form (s : State) (S : Settings) (v : Bool) : ∃ m flags,
    (s.loadSettings S v).loadBlocks = s.taken S v m flags ∧ LoadedMeas s S m ∧ (v = false → flags &&& 0x01#8 = 0x01#8) := by
  obtain ⟨f, hf, raised⟩ := s.loadSettings_form S v
  obtain ⟨m, hm, ring, second, channels⟩ := (s.settled S v f).loadMeasurement_form
  obtain ⟨g, joined, stay⟩ := State.joinBus_form (if s.restarting then
    { ({ s.settled S v f with meas := m } : State).loadLine.loadWater.dropUnrouted.loadRecords with evalDue := some (s.osc + 60000) }
    else ({ ({ s.settled S v f with meas := m } : State).loadLine.loadWater.dropUnrouted.loadRecords with
      evalDue := some (s.osc + 60000) } : State).loadBeds)
  refine ⟨m, g, ?_, ⟨ring, second, channels⟩, fun h => stay _ ?_⟩
  · rw [hf]
    unfold State.loadBlocks
    rw [hm]
    exact joined.trans (s.taken_of_settled S v m f g)
  · split <;> exact raised h

end Sys2Proof.Machine
end

section
/-! The load from the blocks to its end, in closed form (R144, R175, R203). -/

namespace Sys2Proof.Machine

/-! ### The STARTED notice and the way out of STARTING -/

/-- What becomes of the STARTED notice of a load (R203). -/
theorem State.flushStarted_form {s : State} {m : StartedMark} (h : s.store.started = some m) :
    ∃ outbound started, s.flushStarted =
      { s with port := { s.port with outbound := outbound }, store := { s.store with started := started } } ∧
    (s.classes .started = 0 → started = none ∧ outbound = s.port.outbound) ∧
    (s.classes .started ≠ 0 → s.room = true → started = none ∧
      outbound = s.port.outbound ++ [.notice (s.classes .started) .started m.bytes]) ∧
    (s.classes .started ≠ 0 → s.room = false → started = some m ∧ outbound = s.port.outbound) := by
  unfold State.flushStarted
  rw [h]
  dsimp only
  by_cases hc : s.classes .started = 0
  · rw [if_pos hc]
    exact ⟨s.port.outbound, none, rfl, fun _ => ⟨rfl, rfl⟩, fun hn => absurd hc hn, fun hn => absurd hc hn⟩
  · rw [if_neg hc]
    cases hr : s.room with
    | true => exact ⟨_, none, rfl, fun h => absurd h hc, fun _ _ => ⟨rfl, rfl⟩, fun _ h => absurd h (by decide)⟩
    | false =>
      exact ⟨s.port.outbound, some m, by rw [← h]; rfl, fun h => absurd h hc, fun _ h => absurd h (by decide),
        fun _ _ => ⟨rfl, rfl⟩⟩

theorem State.makeMode_form (s : State) : ∃ mark outbound, s.makeMode =
    { s with ctrl := { s.ctrl with modeMark := mark }, port := { s.port with outbound := outbound } } ∧ Tells s s.makeMode := by
  unfold State.makeMode State.flushMode
  rw [if_pos rfl]
  split
  · exact ⟨_, _, rfl, .same rfl⟩
  · split
    · rename_i h
      refine ⟨_, _, rfl, ?_⟩
      exact ⟨rfl, List.prefix_append _ _, fun hr => absurd (h.symm.trans hr) (by decide)⟩
    · exact ⟨_, _, rfl, .same rfl⟩

theorem State.stopWhere_noOrders {s : State} (p : Order → Bool) (h : s.disp.orders = []) : s.stopWhere p = s := by
  unfold State.stopWhere
  rw [h]
  rfl

/-- Without orders a change of mode stops no spray (R125, R158). -/
theorem State.enterMode_form {s : State} (m : Mode) (h : s.disp.orders = []) : ∃ mark outbound allStop, s.enterMode m =
    { s with ctrl := { s.ctrl with mode := m, modeMark := mark }, port := { s.port with outbound := outbound }
             line := { s.line with allStopDue := allStop }, disp := { s.disp with attempt := true } } ∧ Tells s (s.enterMode m) := by
  obtain ⟨mark, outbound, e, tells⟩ := State.makeMode_form { s with ctrl := { s.ctrl with mode := m } }
  have told : Tells s { s with ctrl := { s.ctrl with mode := m, modeMark := mark }, port := { s.port with outbound := outbound } } :=
    Tells.trans (t := { s with ctrl := { s.ctrl with mode := m } }) (.same rfl) (e ▸ tells)
  have stopped : ∀ u : State, u.disp.orders = [] → ∃ allStop, u.stopSprays = { u with line := { u.line with allStopDue := allStop } } := by
    intro u hu
    have kept : u.askAllStop.disp.orders = [] := by
      unfold State.askAllStop
      split <;> exact hu
    unfold State.stopSprays
    rw [State.stopWhere_noOrders _ kept]
    unfold State.askAllStop
    split
    · exact ⟨_, rfl⟩
    · exact ⟨_, rfl⟩
  unfold State.enterMode
  rw [e]
  dsimp only
  split
  · obtain ⟨allStop, e⟩ := stopped { s with ctrl := { s.ctrl with mode := m, modeMark := mark }, port := { s.port with outbound := outbound } } h
    rw [e]
    exact ⟨_, _, _, rfl, told.trans (.same rfl)⟩
  · exact ⟨_, _, _, rfl, told.trans (.same rfl)⟩

/-- The mode a load enters (R175). -/
def modeAfterLoad (valid held : Bool) : Mode := if valid then (if held then .hold else .automatic) else .maintenance

theorem State.leaveStarting_form {s : State} (v : Bool) (h : s.disp.orders = []) : ∃ mark outbound allStop, s.leaveStarting v =
    { s with ctrl := { s.ctrl with mode := modeAfterLoad v (s.ctrl.operator || s.ctrl.freeze), modeMark := mark }
             port := { s.port with outbound := outbound }, line := { s.line with allStopDue := allStop }
             disp := { s.disp with attempt := true } } ∧ Tells s (s.leaveStarting v) := by
  cases v with
  | false => exact State.enterMode_form .maintenance h
  | true =>
    obtain ⟨mark, outbound, allStop, e, tells⟩ := State.enterMode_form (s := s) .automatic h
    change ∃ _ _ _, (if (s.enterMode .automatic).ctrl.operator || (s.enterMode .automatic).ctrl.freeze then
        (s.enterMode .automatic).enterMode .hold else s.enterMode .automatic) = _ ∧
      Tells s (if (s.enterMode .automatic).ctrl.operator || (s.enterMode .automatic).ctrl.freeze then
        (s.enterMode .automatic).enterMode .hold else s.enterMode .automatic)
    rw [State.enterMode_operator, State.enterMode_freeze]
    cases s.ctrl.operator || s.ctrl.freeze with
    | false => exact ⟨mark, outbound, allStop, e, tells⟩
    | true =>
      rw [e] at tells ⊢
      obtain ⟨mark', outbound', allStop', e', tells'⟩ := State.enterMode_form (s := { s with
        ctrl := { s.ctrl with mode := .automatic, modeMark := mark }, port := { s.port with outbound := outbound }
        line := { s.line with allStopDue := allStop }, disp := { s.disp with attempt := true } }) .hold h
      exact ⟨mark', outbound', allStop', e', tells.trans tells'⟩

/-- In STARTING a judgment of FREEZE notes the reason alone (R180). -/
theorem State.judgeFreeze_starting {s : State} (h : s.ctrl.mode = .starting) : s.judgeFreeze =
    { s with ctrl := { s.ctrl with freeze := freezeAt s.conf.tFreeze s.currentTemperature s.ctrl.freeze } } := by
  unfold State.judgeFreeze State.setReasons
  split
  · rename_i hf
    conv => lhs; rw [show s = { s with ctrl := { s.ctrl with freeze := s.ctrl.freeze } } from rfl, ← hf.2]
  · rw [h]

/-! ### From there to the sweep -/

/-- `t` is `s` but for beds, claims, records, flags that were raised, an attempt, notices where there was room, the gate and the
forecast's live mark. -/
structure Late (s t : State) : Prop where
  keeps : ∃ beds zones recs flags outbound attempt gate live, t = { s with
    beds := beds, zones := zones, recs := recs, ctrl := { s.ctrl with flags := flags }
    port := { s.port with outbound := outbound }, disp := { s.disp with attempt := attempt }
    water := { s.water with gate := gate }, forecast := { s.forecast with live := live } }
  tells : Tells s t
  flags : ∀ m, s.ctrl.flags &&& m = m → t.ctrl.flags &&& m = m
  read : s.readAnew → t.readAnew

theorem Light.late {s t : State} (h : Light s t) : Late s t := by
  refine ⟨?_, h.tells, h.flags, h.read⟩
  obtain ⟨_, _, _, _, _, _, rfl⟩ := h.keeps
  exact ⟨_, _, _, _, _, _, s.water.gate, s.forecast.live, rfl⟩

theorem Late.refl (s : State) : Late s s := (Light.refl s).late

theorem Late.trans {s t u : State} (h1 : Late s t) (h2 : Late t u) : Late s u := by
  refine ⟨?_, h1.tells.trans h2.tells, fun m h => h2.flags m (h1.flags m h), fun h => h2.read (h1.read h)⟩
  obtain ⟨_, _, _, _, _, _, _, _, rfl⟩ := h1.keeps
  obtain ⟨_, _, _, _, _, _, _, _, rfl⟩ := h2.keeps
  exact ⟨_, _, _, _, _, _, _, _, rfl⟩

/-- Without orders the gate is judged and stops no spray (R79, R132). -/
theorem State.loadGate_form {s : State} (h : s.disp.orders = []) : ∃ gate attempt, s.loadGate =
    { s with water := { s.water with gate := gate }, disp := { s.disp with attempt := attempt } } ∧
    (∀ n, s.water.turbidity = some n → gate = gateAfter s.conf.qLim n s.water.gate) ∧
    (s.water.turbidity = none → gate = s.water.gate) := by
  unfold State.loadGate
  split
  · rename_i n hn
    unfold State.judgeGate
    dsimp only
    rw [State.stopWhere_noOrders (s := { s with water := { s.water with gate := gateAfter s.conf.qLim n s.water.gate } }) _ h, ite_self]
    have same : ∀ k, some n = some k → gateAfter s.conf.qLim n s.water.gate = gateAfter s.conf.qLim k s.water.gate := by
      rintro k hk
      injection hk with hk
      rw [hk]
    split
    · exact ⟨_, s.disp.attempt, rfl, hn ▸ same, fun hk => absurd (hn.symm.trans hk) (by simp)⟩
    · exact ⟨_, true, rfl, hn ▸ same, fun hk => absurd (hn.symm.trans hk) (by simp)⟩
  · rename_i hn
    exact ⟨s.water.gate, s.disp.attempt, rfl, fun k hk => absurd (hn.symm.trans hk) (by simp), fun _ => rfl⟩

theorem State.loadGate_late {s : State} (h : s.disp.orders = []) : Late s s.loadGate := by
  obtain ⟨gate, attempt, e, _⟩ := State.loadGate_form h
  rw [e]
  exact ⟨⟨_, _, _, _, _, _, _, s.forecast.live, rfl⟩, .same rfl, fun _ => id, id⟩

theorem State.judgeForecast_late (s : State) : Late s s.judgeForecast := by
  have noted : Late s { s with forecast := { s.forecast with live := s.slotsLive } } :=
    ⟨⟨_, _, _, _, _, _, s.water.gate, _, rfl⟩, .same rfl, fun _ => id, id⟩
  unfold State.judgeForecast
  dsimp only
  split
  · exact noted.trans (State.askRecord_light ..).late
  · exact noted

theorem State.judgeForecast_live (s : State) : s.judgeForecast.forecast.live = s.slotsLive := by
  unfold State.judgeForecast
  dsimp only
  split <;> simp

theorem State.judgeForecast_parts (s : State) : s.judgeForecast.beds = s.beds ∧
    s.judgeForecast.zones = s.zones ∧ s.judgeForecast.water = s.water := by
  unfold State.judgeForecast
  dsimp only
  split <;> simp

theorem State.judgeForecast_recs {s : State} (h : s.slotsLive = true ∨ s.forecast.live = false) : s.judgeForecast.recs = s.recs := by
  unfold State.judgeForecast
  dsimp only
  rw [if_neg (by rintro ⟨h1, h2⟩; rcases h with h | h <;> simp_all)]

/-- After the beds, claims and the forecast of a settings restart (R5, R50, R92). -/
theorem State.restartEffects_late (s : State) (before : Settings) : Late s (s.restartEffects before) := by
  unfold State.restartEffects
  dsimp only
  generalize hu : bedNumbers.foldl (restartBed before) s = u
  have beds : Light s u := hu ▸ .foldl _ (restartBed_light before) bedNumbers s
  exact (beds.trans (.foldl _ restartClaim_light _ _)).late.trans (State.judgeForecast_late _)

/-! ### The sweep -/

theorem State.sweep_form (s : State) : ∃ cannons, s.sweep = { s with line := { s.line with cannons := cannons } } := by
  refine foldl_keeps (fun s t => ∃ cannons, t = { s with line := { s.line with cannons := cannons } }) (fun _ => ⟨_, rfl⟩) ?_
    sweepCannon ?_ cannonNumbers s
  · rintro _ _ _ ⟨_, rfl⟩ ⟨_, rfl⟩
    exact ⟨_, rfl⟩
  · intro u c
    unfold sweepCannon
    split
    · exact ⟨_, rfl⟩
    · exact ⟨_, rfl⟩

/-- At a sweep a PING falls due for every cannon in use (R144). -/
theorem State.sweep_cannon (s : State) {c : Nat} (h1 : 1 ≤ c) (h2 : c ≤ 24) :
    s.sweep.cannon c = { s.cannon c with pingDue := s.conf.inUse c || (s.cannon c).pingDue } := by
  obtain ⟨u, hc, same, reached⟩ := foldl_view_of_mem State.cannon sweepCannon (fun u => u.conf = s.conf)
    (fun u a h => by unfold sweepCannon; split <;> exact h)
    (fun u a b _ h => by unfold sweepCannon; split <;> [exact u.cannon_setCannon_ne _ h; rfl])
    cannonNumbers (nodup_numbersFrom _ _) s rfl c ((mem_cannonNumbers c).mpr ⟨h1, h2⟩)
  unfold State.sweep
  rw [reached, ← same, ← hc]
  unfold sweepCannon
  cases u.conf.inUse c with
  | true => exact u.cannon_setCannon_same _ h1 h2
  | false => rfl

end Sys2Proof.Machine
end

section
/-! What a load makes of every block but beds, claims and records (R203, R206). -/

namespace Sys2Proof.Machine

/-! ### The STARTED notice -/

/-- The STARTED notice of a load of `S` is queued, waits as a mark, or is dropped when no class is told (R203). -/
structure StartedTold (s : State) (S : Settings) (v : Bool) (t : State) : Prop where
  long : t.port.long = s.port.long
  unrouted : S.noticeSet NoticeKind.started.code = 0 → t.store.started = none
  told : S.noticeSet NoticeKind.started.code ≠ 0 → s.room = true → t.store.started = none ∧
    s.port.outbound ++ [.notice (S.noticeSet NoticeKind.started.code) .started
      (StartedMark.bytes ⟨s.store.resetKind, v, S.version⟩)] <+: t.port.outbound
  waits : S.noticeSet NoticeKind.started.code ≠ 0 → s.room = false →
    t.store.started = some ⟨s.store.resetKind, v, S.version⟩
  shut : s.room = false → t.port.outbound = s.port.outbound

theorem StartedTold.after {s : State} {S : Settings} {v : Bool} {t u : State} (h : StartedTold s S v t) (ht : Tells t u)
    (hs : u.store.started = t.store.started) : StartedTold s S v u := by
  refine ⟨ht.long.trans h.long, fun hc => hs.trans (h.unrouted hc), fun hc hr => ?_, fun hc hr => hs.trans (h.waits hc hr),
    fun hr => ?_⟩
  · obtain ⟨hn, hp⟩ := h.told hc hr
    exact ⟨hs.trans hn, hp.trans ht.outbound⟩
  · have kept := h.shut hr
    exact (ht.shut ((State.room_congr h.long kept).trans hr)).trans kept

/-! ### The blocks -/

/-- What a load of `S` makes of every block but beds, claims and records, before its sweep. -/
structure Loaded (s : State) (S : Settings) (v : Bool) (t : State) : Prop where
  conf : t.conf = S
  osc : t.osc = s.osc
  evalDue : t.evalDue = some (s.osc + 60000)
  bus : t.port.bus = .joined
  line : t.line.state = .ok ∧ t.line.transaction = none
  ctrl : ∃ flags mark, t.ctrl = { s.ctrl with
    mode := modeAfterLoad v (t.ctrl.operator || t.ctrl.freeze), freeze := t.ctrl.freeze, flags := flags, modeMark := mark } ∧
    (v = false → flags &&& 0x01#8 = 0x01#8)
  freeze : t.ctrl.freeze = if s.restarting then freezeAt S.tFreeze t.currentTemperature s.ctrl.freeze else s.ctrl.freeze
  store : ∃ started, t.store = { s.store with
    working := S, uncommitted := false, verified := none, started := started }
  water : ∃ gate, t.water = { s.water with
    recycled := s.water.recycled.loaded (S.noticeSet NoticeKind.waterUse.code != 0)
    fresh := s.water.fresh.loaded (S.noticeSet NoticeKind.waterUse.code != 0)
    usageDue := if s.restarting then s.water.usageDue else some (s.osc + ms S.tUse)
    slotCapacity := min S.nSlot (s.water.pumps * S.kSlot)
    flowCapacity := min S.fHead s.water.flowLimit
    gate := gate }
  meas : LoadedMeas s S t.meas
  forecast : ∃ live, t.forecast = { s.forecast with live := live }
  sprays : t.disp.pending = if S.noticeSet NoticeKind.sprayDone.code = 0 then [] else s.disp.pending
  started : StartedTold s S v t
  read : t.readAnew

theorem Loaded.late {s : State} {S : Settings} {v : Bool} {t u : State} (h : Loaded s S v t) (hl : Late t u) : Loaded s S v u := by
  have told : StartedTold s S v u := h.started.after hl.tells (by obtain ⟨_, _, _, _, _, _, _, _, e⟩ := hl.keeps; rw [e])
  have read := hl.read h.read
  have flags := hl.flags 0x01#8
  obtain ⟨_, _, _, raised, _, _, gate, live, rfl⟩ := hl.keeps
  refine ⟨h.conf, h.osc, h.evalDue, h.bus, h.line, ?_, h.freeze, h.store, ?_, h.meas, ?_, h.sprays, told, read⟩
  · obtain ⟨f, mark, e, hf⟩ := h.ctrl
    exact ⟨raised, mark, congrArg (fun c : Controller => { c with flags := raised }) e, fun hv => flags (by rw [e]; exact hf hv)⟩
  · obtain ⟨g, e⟩ := h.water
    exact ⟨gate, congrArg (fun w : Water => { w with gate := gate }) e⟩
  · obtain ⟨l, e⟩ := h.forecast
    exact ⟨live, congrArg (fun f : Forecast => { f with live := live }) e⟩

/-- Beds, claims, records and orders when the mode has left STARTING. -/
structure LeftParts (s : State) (S : Settings) (t : State) : Prop where
  orders : t.disp.orders = s.disp.orders
  beds : t.beds.records = if s.restarting then s.beds.records else Vector.replicate 32 (Bed.initial S.wInit)
  held : t.beds.pending = if S.noticeSet NoticeKind.holdEnded.code = 0 then [] else s.beds.pending
  entries : t.zones.entries = s.zones.entries
  expired : t.zones.pending = if S.noticeSet NoticeKind.claimExpired.code = 0 then [] else s.zones.pending
  queue : t.recs.queue = s.recs.queue
  marks : ∀ c, t.recs.marks.has c = (s.recs.marks.has c && (S.noticeSet NoticeKind.recordsWaiting.code).testBit c.bit)
  gate : t.water.gate = s.water.gate
  live : t.forecast.live = s.forecast.live
  cannons : t.line.cannons = Vector.replicate 24 Cannon.initial

/-- The reason FREEZE at the load: judged at a settings restart, else as it was (R180). -/
def State.freezeLoaded (s : State) (S : Settings) : Bool :=
  if s.restarting then freezeAt S.tFreeze s.currentTemperature s.ctrl.freeze else s.ctrl.freeze

/-- The state that leaves STARTING: the blocks have their settings, STARTED is told and FREEZE judged. -/
theorem State.loadLeft_eq {s : State} (S : Settings) (v : Bool) (hm : s.ctrl.mode = .starting) :
    ∃ m flags outbound started, LoadedMeas s S m ∧ (v = false → flags &&& 0x01#8 = 0x01#8) ∧
      s.loadLeft S v = ({ s.taken S v m flags with
        port := { (s.taken S v m flags).port with outbound := outbound }
        store := { (s.taken S v m flags).store with started := started }
        ctrl := { (s.taken S v m flags).ctrl with freeze := s.freezeLoaded S } } : State).leaveStarting v ∧
      StartedTold s S v { s.taken S v m flags with
        port := { (s.taken S v m flags).port with outbound := outbound }
        store := { (s.taken S v m flags).store with started := started } } := by
  obtain ⟨m, flags, blocks, meas, raised⟩ := s.loadBlocks_form S v
  obtain ⟨outbound, started, told, unrouted, sent, waits⟩ := State.flushStarted_form (s := s.taken S v m flags) rfl
  have frozen : (if s.restarting then (s.taken S v m flags).flushStarted.judgeFreeze else (s.taken S v m flags).flushStarted) =
      ({ s.taken S v m flags with
        port := { (s.taken S v m flags).port with outbound := outbound }
        store := { (s.taken S v m flags).store with started := started }
        ctrl := { (s.taken S v m flags).ctrl with freeze := s.freezeLoaded S } } : State) := by
    rw [told]
    unfold State.freezeLoaded
    cases s.restarting with
    | true =>
      rw [if_pos rfl, if_pos rfl]
      exact State.judgeFreeze_starting hm
    | false => rfl
  have shut : s.room = false → outbound = s.port.outbound := by
    intro hr
    by_cases hc : S.noticeSet NoticeKind.started.code = 0
    · exact (unrouted hc).2
    · exact (waits hc hr).2
  refine ⟨m, flags, outbound, started, meas, raised, ?_, rfl, fun hc => (unrouted hc).1, fun hc hr => ?_,
    fun hc hr => (waits hc hr).1, shut⟩
  · unfold State.loadLeft
    rw [blocks]
    exact congrArg (fun u : State => u.leaveStarting v) frozen
  · obtain ⟨hn, hp⟩ := sent hc hr
    exact ⟨hn, hp ▸ List.prefix_refl _⟩

/-- When the mode has left STARTING (R175). -/
theorem State.loadLeft_loaded {s : State} (S : Settings) (v : Bool) (hm : s.ctrl.mode = .starting) (ho : s.disp.orders = []) :
    Loaded s S v (s.loadLeft S v) ∧ LeftParts s S (s.loadLeft S v) := by
  obtain ⟨m, flags, outbound, started, meas, raised, eq, told⟩ := s.loadLeft_eq S v hm
  obtain ⟨mark, outbound', allStop, e, tells⟩ := State.leaveStarting_form (s := { s.taken S v m flags with
    port := { (s.taken S v m flags).port with outbound := outbound }
    store := { (s.taken S v m flags).store with started := started }
    ctrl := { (s.taken S v m flags).ctrl with freeze := s.freezeLoaded S } }) v ho
  rw [← eq] at e tells
  have told' : StartedTold s S v (s.loadLeft S v) := told.after ⟨tells.long, tells.outbound, tells.shut⟩ (by rw [e])
  rw [e] at told' ⊢
  refine ⟨⟨rfl, rfl, rfl, rfl, ⟨rfl, rfl⟩, ⟨flags, mark, rfl, raised⟩, rfl, ⟨_, rfl⟩, ⟨_, rfl⟩, meas, ⟨_, rfl⟩, rfl, told', ?_⟩,
    ⟨rfl, rfl, rfl, rfl, rfl, rfl, ?_, rfl, rfl, rfl⟩⟩
  · unfold State.readAnew State.taken
    simp
  · intro c
    cases c <;> rfl

end Sys2Proof.Machine
end

section
/-! What a settings restart makes of beds, claims, records and the forecast (R5, R50, R92). -/

namespace Sys2Proof.Machine

/-- No entry of the machine table is older than Tclaim. -/
def State.claimsCurrent (s : State) : Prop := ∀ e ∈ s.zones.entries, s.osc < e.since + s.conf.tClaim * 1000

/-- What a settings restart makes of `s`, which has the new settings, when `before` were the old ones. -/
structure Restarted (before : Settings) (s t : State) : Prop where
  kept : ∀ b, 1 ≤ b → b ≤ 32 → bedKept before s.conf b = true → (t.bed b).lasting = (s.bed b).lasting
  reset : ∀ b, 1 ≤ b → b ≤ 32 → ¬bedKept before s.conf b = true → (t.bed b).lasting = Bed.initial s.conf.wInit
  surface_kept : s.claimsCurrent → ∀ b, 1 ≤ b → b ≤ 32 → bedKept before s.conf b = true →
    ((s.bed b).settleSince = none → (t.bed b).surface = (s.bed b).surface) ∧
    ∀ since, (s.bed b).settleSince = some since →
      (t.bed b).surface = if since + s.conf.tSettle * 1000 ≤ s.osc then .settled else (s.bed b).surface
  surface_reset : s.claimsCurrent → ∀ b, 1 ≤ b → b ≤ 32 → ¬bedKept before s.conf b = true →
    (t.bed b).surface = if s.conf.bedDefined b && s.touched b then .worked else .settled
  machines : s.zoneLaw → t.zones.entries.map Claim.machine =
    (s.zones.entries.filter (fun e => decide (s.osc < e.since + s.conf.tClaim * 1000))).map Claim.machine
  held : (∀ b, (s.bed b).hold = none) ∨ s.classes .holdEnded = 0 → t.beds.pending = s.beds.pending
  expired : s.claimsCurrent ∨ s.classes .claimExpired = 0 → t.zones.pending = s.zones.pending
  recs : t.forecast.live = true ∨ s.forecast.live = false → (∀ b, (s.bed b).hold = none ∨ (s.bed b).band ≠ .severe) →
    t.recs = s.recs
  live : t.forecast.live = t.slotsLive
  gate : t.water.gate = s.water.gate

/-- Entries judged by their range, machine and time are the same bare. -/
theorem State.machines_bare (s : State) (p : Claim → Bool) (hp : ∀ e : Claim, p e.bare = p e) :
    (s.bareEntries.filter p).map Claim.machine = (s.zones.entries.filter p).map Claim.machine := by
  unfold State.bareEntries
  rw [List.filter_map, List.map_map, (funext hp : p ∘ Claim.bare = p)]
  rfl

theorem State.claimsCurrent_bare {s t : State} (ho : t.osc = s.osc) (hc : t.conf = s.conf) (he : t.bareEntries = s.bareEntries)
    (h : s.claimsCurrent) : t.claimsCurrent := by
  intro e hm
  obtain ⟨x, hx, same⟩ := List.mem_map.mp (he ▸ State.bare_mem hm : e.bare ∈ s.bareEntries)
  have since : x.since = e.since := (congrArg Claim.since same :)
  rw [ho, hc, ← since]
  exact h x hx

theorem State.slotsLive_judged (s : State) : s.judgeForecast.slotsLive = s.slotsLive := by
  obtain ⟨_, _, _, _, _, _, _, _, e⟩ := s.judgeForecast_late.keeps
  rw [e]
  rfl

theorem State.restartEffects_restarted (before : Settings) (s : State) : Restarted before s (s.restartEffects before) := by
  have light : Light s (bedNumbers.foldl (restartBed before) s) := .foldl _ (restartBed_light before) bedNumbers s
  have bare := foldl_bare (restartBed before) (restartBed_bare before) bedNumbers s
  have kept := fun b h1 h2 hk => restartBeds_kept (before := before) (s := s) (b := b) h1 h2 hk
  have reset := fun b h1 h2 hk => restartBeds_reset (before := before) (s := s) (b := b) h1 h2 hk
  have held := fun h => restartBeds_pending before bedNumbers s nodup_bedNumbers h
  have zones := restartBeds_zonesPending before s
  have recs := fun h => restartBeds_recs before bedNumbers s nodup_bedNumbers h
  unfold State.restartEffects
  dsimp only
  generalize bedNumbers.foldl (restartBed before) s = u at *
  have conf : u.conf = s.conf := by obtain ⟨_, _, _, _, _, _, e⟩ := light.keeps; rw [e]
  have osc : u.osc = s.osc := by obtain ⟨_, _, _, _, _, _, e⟩ := light.keeps; rw [e]
  have live : u.forecast = s.forecast := by obtain ⟨_, _, _, _, _, _, e⟩ := light.keeps; rw [e]
  have current : s.claimsCurrent → u.zones.entries.foldl restartClaim u = u := fun h =>
    restartClaims_current u.zones.entries (State.claimsCurrent_bare osc conf bare h)
  have claims : Light u (u.zones.entries.foldl restartClaim u) := .foldl _ restartClaim_light _ u
  have lasts : Lasts u (u.zones.entries.foldl restartClaim u) := .foldl _ restartClaim_lasts _ u
  have machines := fun h => restartClaims_machines (s := u) h
  have pending := fun h => restartClaims_pending u.zones.entries u h
  generalize u.zones.entries.foldl restartClaim u = w at *
  obtain ⟨beds, entries, water⟩ := w.judgeForecast_parts
  have bed : ∀ b, w.judgeForecast.bed b = w.bed b := State.bed_congr (congrArg BedTable.records beds)
  refine ⟨fun b h1 h2 hk => ?_, fun b h1 h2 hk => ?_, fun hc b h1 h2 hk => ?_, fun hc b h1 h2 hk => ?_, fun h => ?_, fun h => ?_,
    fun h => ?_, fun hl hq => ?_, ?_, ?_⟩
  · obtain ⟨lasting, _⟩ := kept b h1 h2 hk
    rw [bed, lasts.beds b, lasting]
  · obtain ⟨lasting, _⟩ := reset b h1 h2 hk
    rw [bed, lasts.beds b, lasting]
  · obtain ⟨_, surface⟩ := kept b h1 h2 hk
    rw [bed, current hc]
    exact surface
  · obtain ⟨_, surface⟩ := reset b h1 h2 hk
    rw [bed, current hc]
    exact surface
  · rw [entries, machines (State.zoneLaw_of_bare bare h), conf, osc, ← u.machines_bare _ (fun _ => rfl), bare,
      s.machines_bare _ (fun _ => rfl)]
  · rw [beds, lasts.pending]
    exact held (h.imp (fun h b _ => h b) id)
  · rw [entries]
    rcases h with h | h
    · rw [current h, zones]
    · rw [pending (by unfold State.classes at h ⊢; rw [conf]; exact h), zones]
  · rw [State.judgeForecast_live] at hl
    have same : w.forecast = s.forecast := by
      obtain ⟨_, _, _, _, _, _, e⟩ := claims.keeps
      rw [e]
      exact live
    rw [State.judgeForecast_recs (hl.imp id (fun h => same ▸ h)), lasts.recs, recs (fun b _ => hq b)]
  · rw [State.judgeForecast_live, State.slotsLive_judged]
  · obtain ⟨_, _, _, _, _, _, e⟩ := (light.trans claims).keeps
    rw [water, e]

end Sys2Proof.Machine
end

section
/-! The load settled (R203, R206): the image, the blocks, STARTED and a settings restart. -/

namespace Sys2Proof.Machine

/-! ### The end of a load -/

/-- The state of a load before its sweep. -/
def State.loadRest (s : State) (S : Settings) (v : Bool) : State :=
  if s.restarting then ((s.loadLeft S v).loadGate).restartEffects s.conf else s.loadLeft S v

theorem State.load_rest (s : State) (S : Settings) (v : Bool) : s.load S v = (s.loadRest S v).sweep.cause := State.load_eq s S v

/-- The load ends with a sweep and a dispatch attempt (R144). -/
theorem State.load_swept (s : State) (S : Settings) (v : Bool) : ∃ cannons, s.load S v =
    { s.loadRest S v with line := { (s.loadRest S v).line with cannons := cannons }, disp := { (s.loadRest S v).disp with attempt := true } } := by
  obtain ⟨cannons, e⟩ := (s.loadRest S v).sweep_form
  exact ⟨cannons, (s.load_rest S v).trans (congrArg State.cause e)⟩

theorem State.load_attempt (s : State) (S : Settings) (v : Bool) : (s.load S v).disp.attempt = true := by
  obtain ⟨_, e⟩ := s.load_swept S v
  rw [e]

theorem State.loadRest_late {s : State} (S : Settings) (v : Bool) (hm : s.ctrl.mode = .starting) (ho : s.disp.orders = []) :
    Late (s.loadLeft S v) (s.loadRest S v) := by
  obtain ⟨_, left⟩ := s.loadLeft_loaded S v hm ho
  unfold State.loadRest
  split
  · exact (State.loadGate_late (left.orders.trans ho)).trans (State.restartEffects_late _ _)
  · exact .refl _

theorem State.load_loaded {s : State} (S : Settings) (v : Bool) (hm : s.ctrl.mode = .starting) (ho : s.disp.orders = []) :
    Loaded s S v (s.load S v) := by
  obtain ⟨left, _⟩ := s.loadLeft_loaded S v hm ho
  have h := left.late (State.loadRest_late S v hm ho)
  obtain ⟨_, e⟩ := s.load_swept S v
  rw [e]
  exact ⟨h.conf, h.osc, h.evalDue, h.bus, h.line, h.ctrl, h.freeze, h.store, h.water, h.meas, h.forecast, h.sprays,
    h.started.after (.same rfl) rfl, h.read⟩

/-- Every cannon is OFFLINE at score 0 after a load, with a PING due if it is in use (R144, R145). -/
theorem State.load_cannon {s : State} (S : Settings) (v : Bool) (hm : s.ctrl.mode = .starting) (ho : s.disp.orders = []) {c : Nat}
    (h1 : 1 ≤ c) (h2 : c ≤ 24) : (s.load S v).cannon c = { Cannon.initial with pingDue := S.inUse c } := by
  obtain ⟨loaded, left⟩ := s.loadLeft_loaded S v hm ho
  obtain ⟨_, _, _, _, _, _, _, _, rest⟩ := (State.loadRest_late S v hm ho).keeps
  have line : (s.loadRest S v).line.cannons = Vector.replicate 24 Cannon.initial := by rw [rest]; exact left.cannons
  have conf : (s.loadRest S v).conf = S := by rw [rest]; exact loaded.conf
  have initial : (s.loadRest S v).cannon c = Cannon.initial := by
    unfold State.cannon
    rw [line]
    have : c ≠ 0 := by omega
    have : c - 1 < 24 := by omega
    simp [nth, *]
  have caused : ∀ u : State, u.cause.cannon c = u.cannon c := fun _ => rfl
  rw [State.load_rest, caused, State.sweep_cannon _ h1 h2, initial, conf]
  exact congrArg (fun b => { Cannon.initial with pingDue := b }) (Bool.or_false _)

/-- Beds, claims and records of a load but for a settings restart. -/
theorem State.load_left {s : State} (S : Settings) (v : Bool) (hm : s.ctrl.mode = .starting) (ho : s.disp.orders = [])
    (hr : s.restarting = false) : (s.load S v).beds = (s.loadLeft S v).beds ∧ (s.load S v).zones = (s.loadLeft S v).zones ∧
      (s.load S v).recs = (s.loadLeft S v).recs ∧ LeftParts s S (s.loadLeft S v) := by
  obtain ⟨_, left⟩ := s.loadLeft_loaded S v hm ho
  obtain ⟨_, e⟩ := s.load_swept S v
  rw [e]
  unfold State.loadRest
  rw [if_neg (by simp [hr])]
  exact ⟨rfl, rfl, rfl, left⟩

/-- At a first load the beds are at their reset values (R4). -/
theorem State.load_bed_first {s : State} (S : Settings) (v : Bool) (hm : s.ctrl.mode = .starting) (ho : s.disp.orders = [])
    (hr : s.restarting = false) {b : Nat} (h1 : 1 ≤ b) (h2 : b ≤ 32) : (s.load S v).bed b = Bed.initial S.wInit := by
  obtain ⟨beds, _, _, left⟩ := State.load_left S v hm ho hr
  unfold State.bed
  rw [beds, left.beds, if_neg (by simp [hr])]
  have : b ≠ 0 := by omega
  have : b - 1 < 32 := by omega
  simp [nth, *]

theorem State.load_channel {s : State} (S : Settings) (v : Bool) (hm : s.ctrl.mode = .starting) (ho : s.disp.orders = []) {ch : Nat}
    (h1 : 1 ≤ ch) (h2 : ch ≤ 8) : (s.load S v).channel ch = loadChannel S s.restarting s.osc ch (s.channel ch) :=
  (State.load_loaded S v hm ho).meas.channels ch h1 h2

/-- The state a settings restart judges: the mode has left STARTING and the gate is judged. -/
structure Judging (s : State) (S : Settings) (u : State) : Prop where
  conf : u.conf = S
  osc : u.osc = s.osc
  beds : u.beds.records = s.beds.records
  entries : u.zones.entries = s.zones.entries
  live : u.forecast.live = s.forecast.live
  held : u.beds.pending = if S.noticeSet NoticeKind.holdEnded.code = 0 then [] else s.beds.pending
  expired : u.zones.pending = if S.noticeSet NoticeKind.claimExpired.code = 0 then [] else s.zones.pending
  queue : u.recs.queue = s.recs.queue
  marks : ∀ c, u.recs.marks.has c = (s.recs.marks.has c && (S.noticeSet NoticeKind.recordsWaiting.code).testBit c.bit)
  gate : ∀ n, s.water.turbidity = some n → u.water.gate = gateAfter S.qLim n s.water.gate
  ungated : s.water.turbidity = none → u.water.gate = s.water.gate

theorem State.loadGate_judging {s : State} (S : Settings) (v : Bool) (hm : s.ctrl.mode = .starting) (ho : s.disp.orders = [])
    (hr : s.restarting = true) : Judging s S (s.loadLeft S v).loadGate := by
  obtain ⟨loaded, left⟩ := s.loadLeft_loaded S v hm ho
  obtain ⟨gate, attempt, e, gated, ungated⟩ := State.loadGate_form (left.orders.trans ho)
  obtain ⟨g, water⟩ := loaded.water
  have turbidity : (s.loadLeft S v).water.turbidity = s.water.turbidity := by rw [water]
  rw [e]
  refine ⟨loaded.conf, loaded.osc, left.beds.trans (if_pos hr), left.entries, left.live, left.held, left.expired, left.queue,
    left.marks, fun n hn => ?_, fun hn => ?_⟩
  · have after := gated n (turbidity.trans hn)
    rw [loaded.conf, left.gate] at after
    exact after
  · exact (ungated (turbidity.trans hn)).trans left.gate

theorem State.load_restarted {s : State} (S : Settings) (v : Bool) (hr : s.restarting = true) :
    Restarted s.conf (s.loadLeft S v).loadGate (s.load S v) := by
  have h := State.restartEffects_restarted s.conf (s.loadLeft S v).loadGate
  obtain ⟨_, e⟩ := s.load_swept S v
  rw [e]
  unfold State.loadRest
  rw [if_pos hr]
  exact ⟨h.kept, h.reset, h.surface_kept, h.surface_reset, h.machines, h.held, h.expired, h.recs, h.live, h.gate⟩

/-- A bed after a settings restart, from the bed before it (R5, R8, R11). -/
theorem Judging.bed {s u t : State} {S : Settings} (h : Judging s S u) (r : Restarted s.conf u t) {b : Nat} (h1 : 1 ≤ b) (h2 : b ≤ 32) :
    (bedKept s.conf S b = true → (t.bed b).lasting = (s.bed b).lasting) ∧
    (¬bedKept s.conf S b = true → (t.bed b).lasting = Bed.initial S.wInit) ∧
    ((∀ e ∈ s.zones.entries, s.osc < e.since + S.tClaim * 1000) →
      (bedKept s.conf S b = true → ((s.bed b).settleSince = none → (t.bed b).surface = (s.bed b).surface) ∧
        ∀ since, (s.bed b).settleSince = some since →
          (t.bed b).surface = if since + S.tSettle * 1000 ≤ s.osc then .settled else (s.bed b).surface) ∧
      (¬bedKept s.conf S b = true → (t.bed b).surface = if S.bedDefined b && s.touched b then .worked else .settled)) := by
  have bed : u.bed b = s.bed b := State.bed_congr h.beds b
  have touched : u.touched b = s.touched b := by unfold State.touched; rw [h.entries]
  have kept := r.kept b h1 h2
  have reset := r.reset b h1 h2
  have surfaceKept := fun hc => r.surface_kept hc b h1 h2
  have surfaceReset := fun hc => r.surface_reset hc b h1 h2
  unfold State.claimsCurrent at surfaceKept surfaceReset
  simp only [h.conf, h.osc, h.entries, bed, touched] at kept reset surfaceKept surfaceReset
  exact ⟨kept, reset, fun hc => ⟨surfaceKept hc, surfaceReset hc⟩⟩

/-! ### Values of the new settings -/

theorem gateAfter_open {limit n : Nat} : gateAfter limit n .isOpen = .gated ↔ limit < n := by
  unfold gateAfter
  dsimp only
  split <;> simp [*]

theorem gateAfter_gated {limit n : Nat} : gateAfter limit n .gated = .isOpen ↔ n + 10 ≤ limit := by
  unfold gateAfter
  dsimp only
  split <;> simp [*]

theorem bedKept_iff (before after : Settings) (b : Nat) : bedKept before after b = true ↔
    before.bedDefined b = true ∧ after.bedDefined b = true ∧ before.area b = after.area b ∧
      (before.cannonList b).map ListEntry.cannon = (after.cannonList b).map ListEntry.cannon := by
  simp [bedKept, and_assoc]

/-- FREEZE by its limit with 2 degrees of hysteresis (R180). -/
theorem freezeAt_eq (limit : Int) (temperature : Option Int) (before : Bool) : freezeAt limit temperature before =
    (temperature.map (fun degrees => decide (degrees ≤ limit) || (decide (degrees < limit + 2) && before))).getD false := by
  cases temperature with
  | none => rfl
  | some degrees =>
    simp only [freezeAt, Option.map_some, Option.getD_some]
    split
    · simp [*]
    · split
      · have : ¬degrees < limit + 2 := by omega
        simp [*]
      · have : degrees < limit + 2 := by omega
        simp [*]

theorem modeAfterLoad_true (held : Bool) : modeAfterLoad true held = if held then .hold else .automatic := rfl

theorem touched_iff (s : State) (b : Nat) : s.touched b = true ↔
    ∃ e ∈ s.zones.entries, e.first ≤ b ∧ b ≤ e.last ∧ (e.activity = .stack ∨ e.activity = .reclaim) := by
  have touches : ∀ a : ZoneActivity, a.touches = true ↔ a = .stack ∨ a = .reclaim := by intro a; cases a <;> decide
  unfold State.touched
  simp [Claim.covers, touches, and_assoc]

/-- A channel at a first load (R45). -/
theorem loadChannel_first (S : Settings) (now ch : Nat) (r : Channel) :
    let q := loadChannel S false now ch r
    let zero := decide (0 < S.zeroEvery ch)
    (q.baseline = 0 ∧ q.dirty = false ∧ q.held = none ∧ q.latched = false ∧ q.count = 0 ∧ q.sinceZero = 0 ∧
      q.aboveRun = 0 ∧ q.belowRun = 0) ∧
    (S.channelInUse ch = true → q.state = (if zero then .zeroing else .measuring) ∧ q.zeroWindow = zero ∧
      q.valve = zero ∧ q.windowDue = some (now + S.windowSteps ch * 10)) ∧
    (S.channelInUse ch = false → q.state = .off ∧ q.windowDue = none ∧ q.valve = false) := by
  unfold loadChannel
  cases S.channelInUse ch with
  | false => simp [Channel.initial, Channel.abandoned]
  | true =>
    by_cases hz : 0 < S.zeroEvery ch <;>
      simp [Channel.begun, Channel.initial, channelStateAt, ChannelState.isFault, hz]

/-- A channel at a settings restart (R45, log 47). -/
theorem loadChannel_restart (S : Settings) (now ch : Nat) (r : Channel) :
    let q := loadChannel S true now ch r
    let zero := decide (S.zeroEvery ch = 1)
    (q.baseline = r.baseline ∧ q.latched = r.latched ∧ q.dirty = (r.dirty && decide (0 < S.zeroEvery ch)) ∧
      q.count = 0 ∧ q.sinceZero = 0 ∧ q.aboveRun = 0 ∧ q.belowRun = 0) ∧
    (S.channelInUse ch = true → q.windowDue = some (now + S.windowSteps ch * 10) ∧
      q.zeroWindow = zero ∧ q.valve = zero ∧ q.held = (if q.dirty then none else r.held) ∧
      q.state = (if q.dirty then .faultDirty else if zero then .zeroing else .measuring)) ∧
    (S.channelInUse ch = false → q.state = .off ∧ q.windowDue = none ∧ q.valve = false ∧ q.held = r.held) := by
  unfold loadChannel
  cases S.channelInUse ch with
  | false => simp [Channel.abandoned]
  | true =>
    generalize (r.dirty && decide (0 < S.zeroEvery ch)) = dirty
    by_cases hz : S.zeroEvery ch = 1 <;> cases dirty <;>
      simp [Channel.begun, channelStateAt, ChannelState.isFault, hz]

end Sys2Proof.Machine
end

section
/-! The load settled (R203): its parts put together. -/

namespace Sys2Proof.Machine

/-- In STARTING a load takes the judged image, or the built-in defaults as invalid. -/
theorem execLoad_starting {s : State} (answers : Bool) (hm : s.ctrl.mode = .starting) :
    ∃ S v, exec (.load answers) s = .next (s.load S v) ∧ (judgeImage (s.loadImage answers)).isSome = v ∧
      (∀ S', judgeImage (s.loadImage answers) = some S' → S = S' ∧ v = true) ∧
      (judgeImage (s.loadImage answers) = none → S = Settings.builtIn ∧ v = false) := by
  have shape : exec (.load answers) s = execLoad answers s := rfl
  rw [shape]
  unfold execLoad
  rw [if_pos hm]
  cases judgeImage (s.loadImage answers) with
  | some S => exact ⟨S, true, rfl, rfl, fun S' h => ⟨Option.some.inj h, rfl⟩, fun h => absurd h (by simp)⟩
  | none => exact ⟨Settings.builtIn, false, rfl, rfl, fun S' h => absurd h (by simp), fun _ => ⟨rfl, rfl⟩⟩

theorem execLoad_elsewhere {s : State} (answers : Bool) (hm : s.ctrl.mode ≠ .starting) : exec (.load answers) s = .next s := by
  have shape : exec (.load answers) s = execLoad answers s := rfl
  rw [shape]
  unfold execLoad
  rw [if_neg hm]

theorem Source.loaded_use (r : Source) (n : Nat) : (r.loaded (n != 0)).pendingUse = (if n ≠ 0 then r.pendingUse else 0) ∧
    (r.loaded (n != 0)).charged = r.charged := by
  by_cases h : n = 0 <;> simp [Source.loaded, h]

theorem Source.loaded_balance (r : Source) (routed : Bool) : (r.loaded routed).balance = r.balance := by cases routed <;> rfl

section
variable {s : State} (S : Settings) (v : Bool) (hm : s.ctrl.mode = .starting) (ho : s.disp.orders = [])
include hm ho

/-- Pending CLAIM_EXPIRED notices of a load (R98, R99). -/
theorem State.load_expired :
    (S.noticeSet NoticeKind.claimExpired.code = 0 → (s.load S v).zones.pending = []) ∧
    (S.noticeSet NoticeKind.claimExpired.code ≠ 0 → s.restarting = false ∨
      (∀ e ∈ s.zones.entries, s.osc < e.since + S.tClaim * 1000) → (s.load S v).zones.pending = s.zones.pending) := by
  cases hr : s.restarting with
  | false =>
    obtain ⟨_, zones, _, left⟩ := State.load_left S v hm ho hr
    rw [zones, left.expired]
    exact ⟨fun h => if_pos h, fun h _ => if_neg h⟩
  | true =>
    have judging := State.loadGate_judging S v hm ho hr
    have restarted := State.load_restarted (s := s) S v hr
    refine ⟨fun h => ?_, fun h hc => ?_⟩
    · rw [restarted.expired (.inr (by unfold State.classes; rw [judging.conf]; exact h)), judging.expired, if_pos h]
    · have current : (s.loadLeft S v).loadGate.claimsCurrent := by
        unfold State.claimsCurrent
        rw [judging.entries, judging.conf, judging.osc]
        exact hc.resolve_left (by simp)
      rw [restarted.expired (.inl current), judging.expired, if_neg h]

/-- Pending HOLD_ENDED notices of a load (R5, R111). -/
theorem State.load_held :
    (S.noticeSet NoticeKind.holdEnded.code = 0 → (s.load S v).beds.pending = []) ∧
    (S.noticeSet NoticeKind.holdEnded.code ≠ 0 → s.restarting = false ∨ (∀ b, (s.bed b).hold = none) →
      (s.load S v).beds.pending = s.beds.pending) := by
  cases hr : s.restarting with
  | false =>
    obtain ⟨beds, _, _, left⟩ := State.load_left S v hm ho hr
    rw [beds, left.held]
    exact ⟨fun h => if_pos h, fun h _ => if_neg h⟩
  | true =>
    have judging := State.loadGate_judging S v hm ho hr
    have restarted := State.load_restarted (s := s) S v hr
    refine ⟨fun h => ?_, fun h hc => ?_⟩
    · rw [restarted.held (.inr (by unfold State.classes; rw [judging.conf]; exact h)), judging.held, if_pos h]
    · have bare : ∀ b, ((s.loadLeft S v).loadGate.bed b).hold = none := fun b => by
        rw [State.bed_congr judging.beds]
        exact hc.resolve_left (by simp) b
      rw [restarted.held (.inl bare), judging.held, if_neg h]

/-- A load that makes no record keeps the queue, and the marks of the classes still told (R172, R174). -/
theorem State.load_recs (h : s.restarting = false ∨
      ((s.load S v).forecast.live = true ∨ s.forecast.live = false) ∧ ∀ b, (s.bed b).hold = none ∨ (s.bed b).band ≠ .severe) :
    (s.load S v).recs.queue = s.recs.queue ∧ ∀ c, (s.load S v).recs.marks.has c =
      (s.recs.marks.has c && (S.noticeSet NoticeKind.recordsWaiting.code).testBit c.bit) := by
  cases hr : s.restarting with
  | false =>
    obtain ⟨_, _, kept, left⟩ := State.load_left S v hm ho hr
    rw [kept]
    exact ⟨left.queue, left.marks⟩
  | true =>
    have judging := State.loadGate_judging S v hm ho hr
    obtain ⟨live, quiet⟩ := h.resolve_left (by simp [hr])
    have recs := (State.load_restarted (s := s) S v hr).recs (live.imp id (fun h => judging.live.trans h))
      (fun b => by rw [State.bed_congr judging.beds]; exact quiet b)
    rw [recs]
    exact ⟨judging.queue, judging.marks⟩

end

/-- Settles O22: the load is the blocks with their settings, the STARTED notice, the way out of STARTING, and at a settings restart
the fold over beds and claims. -/
theorem loadTakesTheImage : Obligations.LoadTakesTheImage := by
  unfold Obligations.LoadTakesTheImage
  intro s answers
  refine ⟨execLoad_elsewhere answers, fun hm ho => ?_⟩
  obtain ⟨S, v, ran, valid, image, defaults⟩ := execLoad_starting answers hm
  refine ⟨s.load S v, ran, ?_⟩
  rw [valid]
  have cannon := fun c h1 h2 => State.load_cannon S v hm ho (c := c) h1 h2
  have channel := fun ch h1 h2 => State.load_channel S v hm ho (ch := ch) h1 h2
  have bed := fun hr b h1 h2 => State.load_bed_first S v hm ho hr (b := b) h1 h2
  have restarting : s.restarting = true ↔ s.store.resetKind = .settingsRestart := by simp [State.restarting]
  have first : s.restarting = false ↔ s.store.resetKind ≠ .settingsRestart := by simp [State.restarting]
  have loaded := State.load_loaded S v hm ho
  have attempt := s.load_attempt S v
  have expired := State.load_expired S v hm ho
  have held := State.load_held S v hm ho
  have recs := State.load_recs S v hm ho
  have judging := State.loadGate_judging S v hm ho
  have restarted := State.load_restarted (s := s) S v
  generalize s.load S v = t at *
  generalize (s.loadLeft S v).loadGate = u at *
  obtain rfl : t.conf = S := loaded.conf
  obtain ⟨flags, mark, ctrl, raised⟩ := loaded.ctrl
  obtain ⟨started, store⟩ := loaded.store
  obtain ⟨gate, water⟩ := loaded.water
  obtain ⟨live, forecast⟩ := loaded.forecast
  have mode : t.ctrl.mode = modeAfterLoad v (t.ctrl.operator || t.ctrl.freeze) := congrArg Controller.mode ctrl
  have flag : t.ctrl.flags = flags := congrArg Controller.flags ctrl
  have room : s.room = decide (5 ≤ s.free) := rfl
  have told := loaded.started
  refine ⟨fun S' h => ?_, fun h => ?_, congrArg Store.working store, congrArg Store.uncommitted store,
    congrArg Store.verified store, (congrArg Store.eeprom store :), loaded.evalDue, loaded.bus, loaded.line.1,
    loaded.line.2, attempt, (congrArg Controller.operator ctrl :), congrArg Water.slotCapacity water,
    congrArg Water.flowCapacity water, ?_, ?_, fun c h1 h2 => ?_, ?_, fun hr => ?_, fun hr => ?_⟩
  · obtain ⟨same, rfl⟩ := image S' h
    exact ⟨same, mode⟩
  · obtain ⟨same, rfl⟩ := defaults h
    exact ⟨same, mode, flag ▸ raised rfl⟩
  · rw [congrArg Water.recycled water]
    exact Source.loaded_balance _ _
  · rw [congrArg Water.fresh water]
    exact Source.loaded_balance _ _
  · rw [cannon c h1 h2]
    exact ⟨rfl, rfl, rfl⟩
  · dsimp only
    refine ⟨fun hc hf => ?_, fun hc hf => told.waits hc (by simp [room, hf]), fun hc => told.unrouted (not_not.mp hc),
      fun hf => told.shut (by simp [room, hf]), fun hr => ?_, fun hr => ?_, fun w => ?_, ?_, fun hc => expired.1 (not_not.mp hc),
      fun hc => held.1 (not_not.mp hc), fun hc h => expired.2 hc (h.imp first.mpr id), fun hc h => held.2 hc (h.imp first.mpr id),
      ?_, fun h => recs (h.imp first.mpr id)⟩
    · obtain ⟨none, more, e⟩ := told.told hc (by simp [room, hf])
      exact ⟨none, more, e.symm⟩
    · rw [loaded.freeze, if_pos (restarting.mpr hr), freezeAt_eq]
    · rw [loaded.freeze, if_neg (by simp [restarting, hr])]
    · cases w with
      | recycled =>
        change t.water.recycled.pendingUse = _ ∧ t.water.recycled.charged = _
        rw [congrArg Water.recycled water]
        exact Source.loaded_use _ _
      | fresh =>
        change t.water.fresh.pendingUse = _ ∧ t.water.fresh.charged = _
        rw [congrArg Water.fresh water]
        exact Source.loaded_use _ _
    · rw [loaded.sprays]
      exact (ite_not _ _ _).symm
    · have read := loaded.read
      unfold State.readAnew at read
      rw [read, loaded.osc]
      rfl
  · refine ⟨loaded.meas.second.trans (if_neg (by simp [restarting, hr])), ?_, fun b h1 h2 => bed (first.mpr hr) b h1 h2, fun ch h1 h2 => ?_⟩
    · exact (congrArg Water.usageDue water).trans (if_neg (by simp [restarting, hr]))
    · rw [channel ch h1 h2, first.mpr hr]
      exact loadChannel_first t.conf s.osc ch (s.channel ch)
  · have restarted := restarted (restarting.mpr hr)
    have judging := judging (restarting.mpr hr)
    refine ⟨loaded.meas.second.trans (if_pos (restarting.mpr hr)), (congrArg Water.usageDue water).trans (if_pos (restarting.mpr hr)),
      loaded.meas.ring, fun ch h1 h2 => ?_, fun n hn => ⟨fun hg => ?_, fun hg => ?_⟩, fun hn => ?_,
      (congrArg Forecast.slots forecast :), restarted.live, fun hz => ?_, fun b h1 h2 => ?_⟩
    · rw [channel ch h1 h2, restarting.mpr hr]
      exact loadChannel_restart t.conf s.osc ch (s.channel ch)
    · rw [restarted.gate, judging.gate n hn, hg]
      exact gateAfter_open
    · rw [restarted.gate, judging.gate n hn, hg]
      exact gateAfter_gated
    · rw [restarted.gate, judging.ungated hn]
    · have law : u.zoneLaw := State.zoneLaw_of_entries judging.entries hz
      have machines := restarted.machines law
      rw [judging.entries, judging.osc, judging.conf] at machines
      exact machines
    · have keep := bedKept_iff s.conf t.conf b
      obtain ⟨kept, reset, surface⟩ := judging.bed restarted h1 h2
      refine ⟨fun hk => Bed.lasting_eq (kept (keep.mpr hk)), fun hk => Bed.lasting_eq (q := Bed.initial t.conf.wInit) (reset (mt keep.mp hk)),
        fun hc => ?_⟩
      obtain ⟨surfaceKept, surfaceReset⟩ := surface hc
      refine ⟨fun hk => (surfaceKept (keep.mpr hk)).1, fun hk => (surfaceKept (keep.mpr hk)).2, fun hk => ?_⟩
      rw [surfaceReset (mt keep.mp hk)]
      simp only [Bool.and_eq_true, touched_iff]

end Sys2Proof.Machine
end

section
/-! What the wind ring gives: the mean, the gust and the dominant sector (R27 to R29). -/

namespace Sys2Proof.Machine

/-! ### The largest figure of a list -/

theorem largest_cons (x : Nat) (l : List Nat) : largest (x :: l) = max x (largest l) := by
  unfold largest
  rw [List.foldl_cons, max_comm, List.foldl_assoc]

theorem le_largest {x : Nat} {l : List Nat} (h : x ∈ l) : x ≤ largest l := by
  induction l with
  | nil => exact absurd h List.not_mem_nil
  | cons y l ih =>
    rw [largest_cons]
    rcases List.mem_cons.mp h with rfl | h
    · exact le_max_left _ _
    · exact (ih h).trans (le_max_right _ _)

theorem largest_mem {l : List Nat} (h : l ≠ []) : largest l ∈ l := by
  induction l with
  | nil => exact absurd rfl h
  | cons y l ih =>
    rw [largest_cons]
    cases l with
    | nil => simp [largest]
    | cons z l =>
      rcases max_choice y (largest (z :: l)) with e | e <;> rw [e]
      · exact List.mem_cons_self
      · exact List.mem_cons_of_mem _ (ih (List.cons_ne_nil _ _))

/-! ### Three consecutive samples -/

/-- The figures of `triples` are the floored means of the ring's consecutive threes (R27). -/
theorem mem_triples_speed (k : Nat) (ring : List Sample) : k ∈ triples (ring.map Sample.speed) ↔
    ∃ x y z, [x, y, z] <:+: ring ∧ k = (x.speed + y.speed + z.speed) / 3 := by
  have short {l : List Sample} (hl : l.length ≤ 2) (x y z : Sample) : ¬[x, y, z] <:+: l := fun h => by
    have := h.length_le
    simp at this
    omega
  induction ring with
  | nil => simp [triples]
  | cons p rest ih =>
    rcases rest with _ | ⟨q, _ | ⟨r, more⟩⟩
    · simp [triples, short]
    · simp [triples, short]
    · have split : triples ((p :: q :: r :: more).map Sample.speed) =
        (p.speed + q.speed + r.speed) / 3 :: triples ((q :: r :: more).map Sample.speed) := rfl
      rw [split, List.mem_cons]
      refine (or_congr_right ih).trans ⟨?_, ?_⟩
      · rintro (e | ⟨x, y, z, hi, e⟩)
        · exact ⟨p, q, r, ⟨[], more, rfl⟩, e⟩
        · exact ⟨x, y, z, hi.trans (List.suffix_cons _ _).isInfix, e⟩
      · rintro ⟨x, y, z, hi, e⟩
        rcases List.infix_cons_iff.mp hi with hp | hi
        · obtain ⟨rfl, rfl, rfl⟩ : x = p ∧ y = q ∧ z = r := by simpa using hp
          exact .inl e
        · exact .inr ⟨x, y, z, hi, e⟩

/-- The gust of one or two samples is the larger speed (R27). -/
theorem gustOf_few {ring : List Sample} (hne : ring ≠ []) (h : ring.length ≤ 2) :
    (∀ x ∈ ring, x.speed ≤ gustOf (ring.map Sample.speed)) ∧ ∃ x ∈ ring, gustOf (ring.map Sample.speed) = x.speed := by
  have gust : gustOf (ring.map Sample.speed) = largest (ring.map Sample.speed) := if_pos (by simpa using h)
  rw [gust]
  refine ⟨fun x hx => le_largest (List.mem_map_of_mem hx), ?_⟩
  obtain ⟨x, hx, e⟩ := List.mem_map.mp (largest_mem (l := ring.map Sample.speed) (by simpa using hne))
  exact ⟨x, hx, e.symm⟩

/-- The gust of three and more samples is the largest floored mean of three consecutive ones (R27). -/
theorem gustOf_many {ring : List Sample} (h : 2 < ring.length) :
    (∀ a x y z b, ring = a ++ x :: y :: z :: b → (x.speed + y.speed + z.speed) / 3 ≤ gustOf (ring.map Sample.speed)) ∧
    ∃ a x y z b, ring = a ++ x :: y :: z :: b ∧ gustOf (ring.map Sample.speed) = (x.speed + y.speed + z.speed) / 3 := by
  have gust : gustOf (ring.map Sample.speed) = largest (triples (ring.map Sample.speed)) := if_neg (by simpa using h)
  rw [gust]
  refine ⟨fun a x y z b e => le_largest ((mem_triples_speed _ _).mpr ⟨x, y, z, ⟨a, b, by simp [e]⟩, rfl⟩), ?_⟩
  have threes : triples (ring.map Sample.speed) ≠ [] := by
    match ring, h with
    | _ :: _ :: _ :: _, _ => exact List.cons_ne_nil _ _
  obtain ⟨x, y, z, ⟨a, b, e⟩, figure⟩ := (mem_triples_speed _ _).mp (largest_mem threes)
  exact ⟨a, x, y, z, b, by simp [← e], figure⟩

/-! ### The dominant sector -/

/-- The fold of `dominantOf` is Mathlib's `argmax`: of equal scores the first met stays. -/
theorem foldl_argAux (score : Nat → Nat) (l : List Nat) : ∀ best,
    l.foldl (List.argAux fun x best => score best < score x) (some best) =
      some (l.foldl (fun best x => if score best < score x then x else best) best) := by
  induction l with
  | nil => exact fun _ => rfl
  | cons x l ih =>
    intro best
    rw [List.foldl_cons, List.foldl_cons, ← ih]
    congr 1
    exact (apply_ite some _ _ _).symm

theorem dominantOf_mem_argmax {sectors : List Nat} (h : sectors ≠ []) :
    dominantOf sectors ∈ sectors.argmax sectors.count := by
  cases sectors with
  | nil => exact absurd rfl h
  | cons x rest =>
    have start : dominantOf (x :: rest) = rest.foldl
        (fun best y => if (x :: rest).count best < (x :: rest).count y then y else best) x := by
      simp only [dominantOf, List.headD_cons, List.foldl_cons, ite_self]
    rw [start]
    exact foldl_argAux (x :: rest).count rest x

/-- The dominant sector is met, none is met oftener, and of equals it is the one met first (R28). -/
theorem dominantOf_leads {sectors : List Nat} (h : sectors ≠ []) : dominantOf sectors ∈ sectors ∧
    ∀ k ∈ sectors, sectors.count k ≤ sectors.count (dominantOf sectors) ∧
      (sectors.count k = sectors.count (dominantOf sectors) → sectors.idxOf (dominantOf sectors) ≤ sectors.idxOf k) := by
  have hm := dominantOf_mem_argmax h
  exact ⟨List.argmax_mem hm, fun k hk => ⟨List.le_of_mem_argmax hk hm, fun e => List.index_of_argmax hm hk e.ge⟩⟩

/-- Settles O25: the mean is read off, the gust is a largest figure, and the dominant sector is an `argmax`. -/
theorem liveFiguresOfTheRing : Obligations.LiveFiguresOfTheRing := by
  unfold Obligations.LiveFiguresOfTheRing
  refine ⟨rfl, fun ring hne => ?_⟩
  have live : liveOf ring = some ⟨meanOf (ring.map Sample.speed), gustOf (ring.map Sample.speed),
      dominantOf (ring.reverse.map Sample.sector)⟩ := if_neg (by simpa using hne)
  refine ⟨_, live, ?_, gustOf_few hne, gustOf_many, dominantOf_leads (by simpa using hne)⟩
  simp only [meanOf, List.length_map]

end Sys2Proof.Machine
end

section
/-! The end of a second: speeds, sectors, the judgment of the masts, the basis and the ring (R23 to R26, R30 to R33). -/

namespace Sys2Proof.Machine

/-! ### Vanes -/

/-- A byte of conditions holds each condition as the bit of its place. -/
theorem testBit_conditionByte (l : List Bool) : ∀ i, (conditionByte l).testBit i = (l[i]?).getD false := by
  induction l with
  | nil => simp [conditionByte]
  | cons b l ih =>
    have shape : conditionByte (b :: l) = Nat.bit b (conditionByte l) := by
      have : flagByte b = b.toNat := by cases b <;> rfl
      rw [Nat.bit_val, conditionByte, this, Nat.add_comm]
    intro i
    rw [shape]
    cases i with
    | zero => rw [Nat.testBit_bit_zero]; rfl
    | succ i => rw [Nat.testBit_bit_succ]; exact ih i

theorem conditionByte_lt (l : List Bool) : conditionByte l < 2 ^ l.length :=
  Nat.lt_pow_two_of_testBit _ fun i hi => by rw [testBit_conditionByte, List.getElem?_eq_none hi]; rfl

/-- The sector of a vane is the Gray decoding of its inputs: each bit below the highest is the next higher one of the sector,
changed by its input (R24). -/
theorem graySector_decodes (v : BitVec 4) : graySector v < 16 ∧ (graySector v).testBit 3 = v.getLsbD 3 ∧
    ∀ i, i < 3 → (graySector v).testBit i = xor ((graySector v).testBit (i + 1)) (v.getLsbD i) := by
  refine ⟨conditionByte_lt _, by simp [graySector, testBit_conditionByte], fun i hi => ?_⟩
  match i, hi with
  | 0, _ | 1, _ | 2, _ => simp only [graySector, testBit_conditionByte]; rfl

/-! ### The judgment of a mast -/

/-- The judgment of a HEALTHY mast beside a HEALTHY one (R30). -/
def Mast.calmJudged (r q : Mast) (speed other : Nat) : Prop :=
  let run := if speed = 0 ∧ 30 ≤ other then r.zeroRun + 1 else 0
  (run < 60 → q.health = .healthy ∧ q.zeroRun = run ∧ q.loneRun = 0) ∧
  (60 ≤ run → q.health = .failed ∧ q.zeroRun = 0 ∧ q.loneRun = 0 ∧ q.restoreRun = 0)

/-- The judgment of a HEALTHY mast beside a FAILED one (R31). -/
def Mast.loneJudged (r q : Mast) (speed mean : Nat) : Prop :=
  let run := if speed = 0 ∧ 60 ≤ mean then r.loneRun + 1 else 0
  (run < 600 → q.health = .healthy ∧ q.loneRun = run ∧ q.zeroRun = 0) ∧
  (600 ≤ run → q.health = .failed ∧ q.zeroRun = 0 ∧ q.loneRun = 0 ∧ q.restoreRun = 0)

/-- The judgment of a FAILED mast (R32). -/
def Mast.restoreJudged (r q : Mast) (speed : Nat) (otherHealth : Health) (other : Nat) : Prop :=
  let tolerance := max 10 (other * 25 / 100)
  let near := otherHealth = .failed ∨ (speed ≤ other + tolerance ∧ other ≤ speed + tolerance)
  let run := if 0 < speed ∧ near then r.restoreRun + 1 else 0
  (run < 60 → q.health = .failed ∧ q.restoreRun = run) ∧
  (60 ≤ run → q.health = .healthy ∧ q.zeroRun = 0 ∧ q.loneRun = 0 ∧ q.restoreRun = 0)

/-- The judgment of a mast for a second, by its health and the other's (R30, R31, R32). -/
def Mast.judged (r q : Mast) (speed : Nat) (otherHealth : Health) (other mean : Nat) : Prop :=
  (r.health = .healthy → otherHealth = .healthy → r.calmJudged q speed other) ∧
  (r.health = .healthy → otherHealth = .failed → r.loneJudged q speed mean) ∧
  (r.health = .failed → r.restoreJudged q speed otherHealth other)

theorem nextRun_decide (p : Prop) [Decidable p] (run : Nat) : nextRun (decide p) run = if p then run + 1 else 0 := by
  simp only [nextRun, decide_eq_true_eq]

/-- A calm mast fails at a run of 60; the other runs are at 0 then (R30). -/
theorem judgeMast_calm {r : Mast} (speed other : Nat) (mean : Option Nat) (h : r.health = .healthy) :
    r.calmJudged (judgeMast r speed .healthy other mean) speed other := by
  unfold Mast.calmJudged judgeMast
  simp only [h, nextRun_decide]
  refine ⟨fun short => ?_, fun long => ?_⟩
  · rw [if_neg (Nat.not_le.mpr short)]
    exact ⟨rfl, rfl, rfl⟩
  · rw [if_pos long]
    exact ⟨rfl, rfl, rfl, rfl⟩

/-- A lone mast fails at a run of 600 (R31). -/
theorem judgeMast_lone {r : Mast} (speed other : Nat) (mean : Option Nat) (h : r.health = .healthy) :
    r.loneJudged (judgeMast r speed .failed other mean) speed (mean.getD 0) := by
  unfold Mast.loneJudged judgeMast
  simp only [h, ← Bool.decide_and, nextRun_decide]
  refine ⟨fun short => ?_, fun long => ?_⟩
  · rw [if_neg (Nat.not_le.mpr short)]
    exact ⟨rfl, rfl, rfl⟩
  · rw [if_pos long]
    exact ⟨rfl, rfl, rfl, rfl⟩

/-- A FAILED mast is restored at a run of 60 (R32). -/
theorem judgeMast_restore {r : Mast} (speed : Nat) (otherHealth : Health) (other : Nat) (mean : Option Nat) (h : r.health = .failed) :
    r.restoreJudged (judgeMast r speed otherHealth other mean) speed otherHealth other := by
  have shape : judgeMast r speed otherHealth other mean =
      let run := if 0 < speed ∧ (otherHealth = .failed ∨ (speed ≤ other + restoreTolerance other ∧
        other ≤ speed + restoreTolerance other)) then r.restoreRun + 1 else 0
      if 60 ≤ run then r.changed .healthy else { r with restoreRun := run } := by
    unfold judgeMast
    cases otherHealth <;> simp only [h, agrees, nextRun_decide, reduceCtorEq, false_or, true_or, and_true]
  rw [shape]
  unfold Mast.restoreJudged restoreTolerance
  dsimp only
  refine ⟨fun short => ?_, fun long => ?_⟩
  · rw [if_neg (Nat.not_le.mpr short)]
    exact ⟨h, rfl⟩
  · rw [if_pos long]
    exact ⟨rfl, rfl, rfl, rfl⟩

/-- Writing a mast's figures first changes nothing of its judgment (R25). -/
theorem judgeMast_judged (r : Mast) (speed sector : Nat) (otherHealth : Health) (other : Nat) (mean : Option Nat) :
    r.judged (judgeMast (r.measured speed sector) speed otherHealth other mean) speed otherHealth other (mean.getD 0) := by
  refine ⟨?_, ?_, fun h => judgeMast_restore (r := r.measured speed sector) speed otherHealth other mean h⟩
  · rintro h rfl
    exact judgeMast_calm (r := r.measured speed sector) speed other mean h
  · rintro h rfl
    exact judgeMast_lone (r := r.measured speed sector) speed other mean h

theorem judgeMast_figures (r : Mast) (speed : Nat) (health : Health) (other : Nat) (mean : Option Nat) :
    (judgeMast r speed health other mean).pulses = r.pulses ∧ (judgeMast r speed health other mean).speed = r.speed ∧
    (judgeMast r speed health other mean).sector = r.sector := by
  unfold judgeMast
  split <;> dsimp only <;> split <;> exact ⟨rfl, rfl, rfl⟩

/-! ### The basis and the ring -/

/-- Mast A's sample is taken while it is HEALTHY, else B's while B is, else none (R33). -/
theorem basisOf_cases (a b : Health) : (a = .healthy → basisOf a b = .liveA) ∧
    (a = .failed → b = .healthy → basisOf a b = .liveB) ∧ (a = .failed → b = .failed → basisOf a b = .none) := by
  refine ⟨?_, ?_, ?_⟩ <;> rintro rfl
  · rfl
  · rintro rfl; rfl
  · rintro rfl; rfl

/-- What the basis makes of the Measurement Unit; the WIND_BASIS record leaves it (R33). -/
theorem State.setBasis_meas (s : State) (b : Basis) (subject : Nat) : (s.setBasis b subject).meas =
    if b = s.meas.basis then s.meas else { s.meas with basis := b, ring := [], live := none } := by
  unfold State.setBasis
  split
  · rfl
  · simp

/-- The ring a second's sample meets: emptied by a change of basis (R33). -/
def Measurement.ringAt (m : Measurement) (b : Basis) : List Sample := if b = m.basis then m.ring else []

/-- The Measurement Unit after steps 3 to 5 of R25. -/
theorem State.takeSample_setBasis (s : State) (b : Basis) (subject : Nat) (x : Option Sample) :
    ∃ live, ((s.setBasis b subject).takeSample x).meas = { s.meas with
        basis := b, ring := x.elim (s.meas.ringAt b) (ringJoin (s.meas.ringAt b)), live := live } ∧
      (x ≠ none → live = liveOf (x.elim (s.meas.ringAt b) (ringJoin (s.meas.ringAt b)))) := by
  have basis := s.setBasis_meas b subject
  unfold Measurement.ringAt
  by_cases h : b = s.meas.basis
  · simp only [if_pos h] at basis ⊢
    subst h
    cases x with
    | none => exact ⟨s.meas.live, basis, absurd rfl⟩
    | some v => exact ⟨_, by simp only [State.takeSample, basis, Option.elim], fun _ => rfl⟩
  · simp only [if_neg h] at basis ⊢
    cases x with
    | none => exact ⟨none, basis, absurd rfl⟩
    | some v => exact ⟨_, by simp only [State.takeSample, basis, Option.elim], fun _ => rfl⟩

/-! ### The end of a second -/

/-- The second that falls due: the oscillator has reached it and the next is 1000 ms behind (log 1). -/
def State.secondBegun (s : State) (due : Nat) : State :=
  { s.reach due with meas := { s.meas with secondDue := some (due + 1000) } }

theorem execEndOfSecond_due {s : State} {due : Nat} (h : s.meas.secondDue = some due) (vaneA vaneB : BitVec 4) :
    exec (.endOfSecond vaneA vaneB) s = .next ((s.secondBegun due).endSecond (graySector vaneA) (graySector vaneB)) := by
  simp only [exec, execEndOfSecond, h]
  rfl

theorem execEndOfSecond_idle {s : State} (h : s.meas.secondDue = none) (vaneA vaneB : BitVec 4) :
    exec (.endOfSecond vaneA vaneB) s = .next s := by
  simp only [exec, execEndOfSecond, h]

/-- The Measurement Unit after a second: both masts judged on the health and the speeds that stood before, then the basis and
the ring of the judged healths (R25). -/
theorem State.endSecond_meas (s : State) (sectorA sectorB : Nat) :
    let a := s.meas.mastA
    let b := s.meas.mastB
    let speedA := mastSpeed a.pulses (s.conf.kAn .a)
    let speedB := mastSpeed b.pulses (s.conf.kAn .b)
    let mean := s.covering.bind Slot.mean
    let a1 := judgeMast (a.measured speedA sectorA) speedA b.health speedB mean
    let b1 := judgeMast (b.measured speedB sectorB) speedB a.health speedA mean
    let basis := basisOf a1.health b1.health
    let x := basisSample basis ⟨speedA, sectorA⟩ ⟨speedB, sectorB⟩
    let ring := x.elim (s.meas.ringAt basis) (ringJoin (s.meas.ringAt basis))
    ∃ live, (s.endSecond sectorA sectorB).meas =
        { s.meas with mastA := a1, mastB := b1, basis := basis, ring := ring, live := live } ∧
      (x ≠ none → live = liveOf ring) := by
  intro a b speedA speedB mean a1 b1 basis x ring
  exact State.takeSample_setBasis { s with meas := { s.meas with mastA := a1, mastB := b1 } } basis
    (if a1.health = a.health then 2 else 1) x

/-- Settles O24: the judgment of each mast, the basis of the judged healths, and the sample that joins the ring. -/
theorem secondsEnd : Obligations.SecondsEnd := by
  unfold Obligations.SecondsEnd
  intro s vaneA vaneB
  refine ⟨fun h => execEndOfSecond_idle h vaneA vaneB, fun due h => ?_⟩
  dsimp only
  refine ⟨_, graySector vaneA, graySector vaneB, execEndOfSecond_due h vaneA vaneB, ?_⟩
  obtain ⟨live, meas, fresh⟩ := (s.secondBegun due).endSecond_meas (graySector vaneA) (graySector vaneB)
  have frame := (s.secondBegun due).endSecond_frame (graySector vaneA) (graySector vaneB)
  generalize (s.secondBegun due).endSecond (graySector vaneA) (graySector vaneB) = t at meas frame ⊢
  obtain ⟨osc, _, _, _, _, _, _, _, forecast, beds, water, zones, disp, line, mode, _, _, _, _, _, _, _, store, _⟩ := frame
  have mastA := congrArg Measurement.mastA meas
  have mastB := congrArg Measurement.mastB meas
  have basis : t.meas.basis = basisOf t.meas.mastA.health t.meas.mastB.health := by rw [meas]
  have ring := congrArg Measurement.ring meas
  obtain rfl : t.meas.live = live := congrArg Measurement.live meas
  dsimp only at mastA mastB ring fresh
  rw [← mastA, ← mastB, ← basis] at ring fresh
  obtain ⟨pulsesA, speedA, sectorA⟩ := mastA ▸ judgeMast_figures (s.meas.mastA.measured _ _) _ _ _ _
  obtain ⟨pulsesB, speedB, sectorB⟩ := mastB ▸ judgeMast_figures (s.meas.mastB.measured _ _) _ _ _ _
  obtain ⟨liveA, liveB, lost⟩ := basisOf_cases t.meas.mastA.health t.meas.mastB.health
  rw [← basis] at liveA liveB lost
  refine ⟨osc, (congrArg Measurement.secondDue meas :), pulsesA, pulsesB, speedA, speedB, sectorA, sectorB,
    graySector_decodes vaneA, graySector_decodes vaneB, mastA ▸ judgeMast_judged s.meas.mastA _ _ _ _ _,
    mastB ▸ judgeMast_judged s.meas.mastB _ _ _ _ _, basis, liveA, liveB, lost, ⟨fun named => ?_, fun named => ?_, fun named => ?_⟩,
    (congrArg Measurement.channels meas :), beds, disp, water, line, mode, zones, store, forecast⟩
  all_goals rw [named] at ring fresh ⊢
  · exact ⟨ring, (fresh nofun).trans (congrArg liveOf ring.symm)⟩
  · exact ⟨ring, (fresh nofun).trans (congrArg liveOf ring.symm)⟩
  · exact ring

end Sys2Proof.Machine
end

section
/-! Pulses, and the end of a dust window (R23, R36 to R44). -/

namespace Sys2Proof.Machine

/-! ### Pulses -/

theorem execDustPulse_idle {s : State} {ch : Nat} (h : (s.channel ch).windowDue = none) : exec (.dustPulse ch) s = .next s := by
  simp [exec, execDustPulse, h]

theorem execDustPulse_counts {s : State} {ch : Nat} (h : (s.channel ch).windowDue.isSome = true) : exec (.dustPulse ch) s =
    .next (s.setChannel ch { s.channel ch with count := min 65535 ((s.channel ch).count + 1) }) := by
  simp only [exec, execDustPulse, h, if_true, saturate]

/-- Settles O23: a pulse writes one count, and a dust pulse one channel. -/
theorem pulsesAreCounted : Obligations.PulsesAreCounted := by
  unfold Obligations.PulsesAreCounted
  refine fun s => ⟨rfl, rfl, fun ch h1 h2 => ⟨execDustPulse_idle, fun h => ⟨_, execDustPulse_counts h, rfl, ?_, fun j hj => ?_⟩⟩⟩
  · exact State.channel_setChannel_same s _ h1 h2
  · exact State.channel_setChannel_ne s _ hj

/-! ### The runs and the latch -/

/-- A channel that has taken the concentration of a window's count, with its persistence and levels (R42, R43, R44). -/
def Channel.took (r : Channel) (p limit clear concentration count : Nat) : Channel :=
  if r.latched then
    let run := nextRun (!isSaturated count && decide (concentration ≤ clear)) r.belowRun
    { r with held := some concentration, latched := decide (run < p), aboveRun := 0, belowRun := if run < p then run else 0 }
  else
    let run := nextRun (isSaturated count || decide (limit < concentration)) r.aboveRun
    { r with held := some concentration, latched := decide (p ≤ run), aboveRun := if run < p then run else 0, belowRun := 0 }

/-- A channel without what a concentration moves: what is held, the runs and the latch. -/
def Channel.bare (r : Channel) : Channel := { r with held := none, aboveRun := 0, belowRun := 0, latched := false }

section
variable (r : Channel) (p limit clear concentration count : Nat)

theorem Channel.took_bare : (r.took p limit clear concentration count).bare = r.bare := by
  unfold Channel.took
  split <;> rfl

theorem Channel.took_held : (r.took p limit clear concentration count).held = some concentration := by
  unfold Channel.took
  split <;> rfl

/-- An unlatched channel counts what is above LIMIT, and is latched at P (R42, R43). -/
theorem Channel.took_unlatched (h : r.latched = false) :
    let q := r.took p limit clear concentration count
    let above := 65535 ≤ count ∨ limit < concentration
    (above → r.aboveRun + 1 < p → q.latched = false ∧ q.aboveRun = r.aboveRun + 1 ∧ q.belowRun = 0) ∧
    (above → p ≤ r.aboveRun + 1 → q.latched = true ∧ q.aboveRun = 0 ∧ q.belowRun = 0) ∧
    (¬above → 0 < p → q.latched = false ∧ q.aboveRun = 0 ∧ q.belowRun = 0) := by
  have run : nextRun (isSaturated count || decide (limit < concentration)) r.aboveRun =
      if 65535 ≤ count ∨ limit < concentration then r.aboveRun + 1 else 0 := by simp [nextRun, isSaturated]
  simp only [Channel.took, h, Bool.false_eq_true, if_false, run]
  refine ⟨fun above more => ?_, fun above reached => ?_, fun broken pos => ?_⟩
  · simp [above, more]
  · simp [above, reached]
  · simp [broken, pos, pos.ne']

/-- A latched channel counts what is not above CLEAR, and is unlatched at P (R42, R44). -/
theorem Channel.took_latched (h : r.latched = true) :
    let q := r.took p limit clear concentration count
    let below := count < 65535 ∧ concentration ≤ clear
    (below → r.belowRun + 1 < p → q.latched = true ∧ q.belowRun = r.belowRun + 1 ∧ q.aboveRun = 0) ∧
    (below → p ≤ r.belowRun + 1 → q.latched = false ∧ q.aboveRun = 0 ∧ q.belowRun = 0) ∧
    (¬below → 0 < p → q.latched = true ∧ q.aboveRun = 0 ∧ q.belowRun = 0) := by
  have run : nextRun (!isSaturated count && decide (concentration ≤ clear)) r.belowRun =
      if count < 65535 ∧ concentration ≤ clear then r.belowRun + 1 else 0 := by simp [nextRun, isSaturated]
  simp only [Channel.took, h, if_true, run]
  refine ⟨fun below more => ?_, fun below reached => ?_, fun broken pos => ?_⟩
  · simp [below, more]
  · simp [below, reached]
  · simp [broken, pos]

end

/-- The channel after its concentration; the records of R43 and R44 leave it. -/
theorem State.takeConcentration_meas (s : State) (ch concentration count : Nat) :
    (s.takeConcentration ch concentration (isSaturated count)).meas =
      (s.setChannel ch ((s.channel ch).took (s.conf.persistence ch) (s.conf.limitLevel ch) (s.conf.clearLevel ch)
        concentration count)).meas := by
  have asked (u : State) (k : RecordKind) : (u.askRecord k ch concentration none).meas = u.meas := by simp
  unfold State.takeConcentration Channel.took
  dsimp only
  cases (s.channel ch).latched <;> simp only [if_true, if_false, Bool.false_eq_true]
  all_goals
    split
    · rename_i reached
      simp only [asked, reached, Nat.not_lt.mpr reached, decide_true, decide_false, if_false]
    · rename_i more
      simp only [more, Nat.not_le.mp more, decide_true, decide_false, if_true]

/-! ### The end of a window -/

/-- The channel after a zero window's figures (R39). -/
def Channel.cleaned (r : Channel) (ready : Bool) (kCal steps : Nat) : Channel :=
  if r.zeroWindow ∧ ready = true then r.zeroed kCal steps else r

/-- The channel as its next window begins, before the concentration of the one that ended (R36, R39, R40). -/
def Channel.opened (r : Channel) (ready : Bool) (kCal steps z due : Nat) : Channel :=
  (r.cleaned ready kCal steps).begun
    (channelStateAt ready (r.cleaned ready kCal steps).dirty (zeroNext z (r.sinceAfter z))) (zeroNext z (r.sinceAfter z))
    (r.sinceAfter z) due

section
variable {r : Channel} {ready : Bool} {kCal steps z due : Nat}

/-- A clean zero window writes the baseline and clears the mark (R39). -/
theorem Channel.cleaned_clean (hz : r.zeroWindow = true) (hr : ready = true) (hc : r.count < 65535)
    (hg : grossFigure r.count kCal steps ≤ 500) :
    r.cleaned ready kCal steps = { r with baseline := grossFigure r.count kCal steps, dirty := false } := by
  rw [Channel.cleaned, if_pos ⟨hz, hr⟩, Channel.zeroed, if_pos ⟨decide_eq_false (Nat.not_le.mpr hc), hg⟩]

/-- A zero window past 500 marks the channel dirty and leaves the baseline (R39). -/
theorem Channel.cleaned_dirty (hz : r.zeroWindow = true) (hr : ready = true)
    (h : 65535 ≤ r.count ∨ 500 < grossFigure r.count kCal steps) :
    r.cleaned ready kCal steps = { r with dirty := true } := by
  rw [Channel.cleaned, if_pos ⟨hz, hr⟩, Channel.zeroed, if_neg]
  rintro ⟨unsaturated, hg⟩
  exact h.elim (of_decide_eq_false unsaturated) (Nat.not_lt.mpr hg)

/-- An ordinary window, and one that ends with the ready input low, leaves baseline and mark (R39, log 38). -/
theorem Channel.cleaned_rest (h : r.zeroWindow = false ∨ ready = false) : r.cleaned ready kCal steps = r :=
  if_neg fun ⟨hz, hr⟩ => h.elim (ne_false_of_eq_true hz) (ne_false_of_eq_true hr)

/-- The baseline and the mark at the next window, as R39 has left them. -/
theorem Channel.opened_zeroed :
    let q := r.opened ready kCal steps z due
    let gross := grossFigure r.count kCal steps
    (r.zeroWindow = true → ready = true → r.count < 65535 → gross ≤ 500 → q.baseline = gross ∧ q.dirty = false) ∧
    (r.zeroWindow = true → ready = true → (65535 ≤ r.count ∨ 500 < gross) → q.baseline = r.baseline ∧ q.dirty = true) ∧
    (r.zeroWindow = false ∨ ready = false → q.baseline = r.baseline ∧ q.dirty = r.dirty) := by
  intro q gross
  have written : q.baseline = (r.cleaned ready kCal steps).baseline ∧ q.dirty = (r.cleaned ready kCal steps).dirty := ⟨rfl, rfl⟩
  refine ⟨fun hz hr hc hg => ?_, fun hz hr h => ?_, fun h => ?_⟩
  · rwa [Channel.cleaned_clean hz hr hc hg] at written
  · rwa [Channel.cleaned_dirty hz hr h] at written
  · rwa [Channel.cleaned_rest h] at written

/-- What R39 reads and writes is the baseline and the mark. -/
theorem Channel.cleaned_eq : ∃ baseline dirty, r.cleaned ready kCal steps = { r with baseline := baseline, dirty := dirty } := by
  unfold Channel.cleaned Channel.zeroed
  split
  · split <;> exact ⟨_, _, rfl⟩
  · exact ⟨_, _, rfl⟩

/-- A channel state is FAULT by the ready input or by the mark (R40). -/
theorem channelStateAt_isFault (ready dirty zero : Bool) : (channelStateAt ready dirty zero).isFault = (!ready || dirty) := by
  cases ready <;> cases dirty <;> cases zero <;> rfl

/-- FAULT holds no concentration; any other state leaves the one that is held (R41). -/
theorem Channel.opened_held : (r.opened ready kCal steps z due).held =
    if ready = false ∨ (r.opened ready kCal steps z due).dirty = true then none else r.held := by
  obtain ⟨baseline, dirty, e⟩ := Channel.cleaned_eq (r := r) (ready := ready) (kCal := kCal) (steps := steps)
  simp only [Channel.opened, Channel.begun, channelStateAt_isFault, e, Bool.or_eq_true, Bool.not_eq_true']

/-- The runs and the latch stay until a concentration is taken. -/
theorem Channel.opened_runs : (r.opened ready kCal steps z due).aboveRun = r.aboveRun ∧
    (r.opened ready kCal steps z due).belowRun = r.belowRun ∧ (r.opened ready kCal steps z due).latched = r.latched := by
  obtain ⟨baseline, dirty, e⟩ := Channel.cleaned_eq (r := r) (ready := ready) (kCal := kCal) (steps := steps)
  simp only [Channel.opened, Channel.begun, e, and_self]

end

/-- A window gives a concentration: ordinary, and in FAULT neither while it ran nor at its end (R37). -/
def Channel.forms (r : Channel) (ready dirty : Bool) : Prop :=
  r.zeroWindow = false ∧ r.state ≠ .faultNotReady ∧ r.state ≠ .faultDirty ∧ ready = true ∧ dirty = false

theorem Channel.forms_iff (r : Channel) (ready dirty zero : Bool) : r.forms ready dirty ↔
    r.zeroWindow = false ∧ r.state.isFault = false ∧ (channelStateAt ready dirty zero).isFault = false := by
  have ran : r.state.isFault = false ↔ r.state ≠ .faultNotReady ∧ r.state ≠ .faultDirty := by
    cases r.state <;> simp [ChannelState.isFault]
  simp only [Channel.forms, ran, channelStateAt_isFault, Bool.or_eq_false_iff, Bool.not_eq_false', and_assoc]

theorem State.setChannel_setChannel (s : State) (ch : Nat) (q r : Channel) :
    (s.setChannel ch q).setChannel ch r = s.setChannel ch r := by
  simp only [State.setChannel, setNth]
  split <;> simp

/-- The channel as the window after the one that ends at `due` begins. -/
def State.openedChannel (s : State) (ch : Nat) (ready : Bool) (due : Nat) : Channel :=
  (s.channel ch).opened ready (s.conf.kCal ch) (s.conf.windowSteps ch) (s.conf.zeroEvery ch)
    (due + s.conf.windowSteps ch * 10)

/-- The channel with the concentration of the window that ends at `due`. -/
def State.tookChannel (s : State) (ch : Nat) (ready : Bool) (due : Nat) : Channel :=
  (s.openedChannel ch ready due).took (s.conf.persistence ch) (s.conf.limitLevel ch) (s.conf.clearLevel ch)
    (concentrationOf (s.channel ch).count (s.conf.kCal ch) (s.conf.windowSteps ch) (s.channel ch).baseline)
    (s.channel ch).count

/-- What the end of a window writes is one channel, with or without a concentration (R36 to R44). -/
theorem State.endWindow_channel (s : State) {ch : Nat} (h1 : 1 ≤ ch) (h2 : ch ≤ 8) (ready : Bool) (due : Nat) :
    let o := s.openedChannel ch ready due
    ∃ q, ((s.reach due).endWindow ch ready due).meas = (s.setChannel ch q).meas ∧ q.bare = o.bare ∧
      ((s.channel ch).forms ready o.dirty → q = s.tookChannel ch ready due) ∧
      (¬(s.channel ch).forms ready o.dirty → q = o) := by
  intro o
  by_cases formed : (s.channel ch).forms ready o.dirty
  · have taken := State.takeConcentration_meas ((s.reach due).setChannel ch o) ch
      (concentrationOf (s.channel ch).count (s.conf.kCal ch) (s.conf.windowSteps ch) (s.channel ch).baseline)
      (s.channel ch).count
    rw [State.channel_setChannel_same _ o h1 h2, State.setChannel_setChannel] at taken
    refine ⟨_, ?_, Channel.took_bare _ _ _ _ _ _, fun _ => rfl, absurd formed⟩
    exact (congrArg State.meas (if_pos ((Channel.forms_iff _ _ _ _).mp formed))).trans taken
  · have kept : ((s.reach due).endWindow ch ready due).meas = ((s.reach due).setChannel ch o).meas :=
      congrArg State.meas (if_neg (mt (Channel.forms_iff _ _ _ _).mpr formed))
    exact ⟨o, kept, rfl, fun h => absurd h formed, fun _ => rfl⟩

/-- The concentration in the words of R37 and R38. -/
theorem concentrationOf_eq (count kCal steps baseline : Nat) : concentrationOf count kCal steps baseline =
    if 65535 ≤ count then 20000 else min 20000 (count * 100 * kCal / (steps * 256) - baseline) := by
  simp only [concentrationOf, isSaturated, decide_eq_true_eq, grossFigure]

theorem execWindowEnd_idle {s : State} {ch : Nat} (ready : Bool) (h : (s.channel ch).windowDue = none) :
    exec (.windowEnd ch ready) s = .next s := by
  simp only [exec, execWindowEnd, h]

theorem execWindowEnd_due {s : State} {ch due : Nat} (ready : Bool) (h : (s.channel ch).windowDue = some due) :
    exec (.windowEnd ch ready) s = .next ((s.reach due).endWindow ch ready due) := by
  simp only [exec, execWindowEnd, h]

theorem channelStateAt_eq (ready dirty zero : Bool) : channelStateAt ready dirty zero =
    if ready = false then .faultNotReady else if dirty then .faultDirty else if zero then .zeroing else .measuring := by
  cases ready <;> rfl

/-- Settles O26: one channel is written, by its next window and, where the window forms one, by its concentration. -/
theorem dustWindowsEnd : Obligations.DustWindowsEnd := by
  unfold Obligations.DustWindowsEnd
  intro s ch ready h1 h2
  refine ⟨execWindowEnd_idle ready, fun due h => ?_⟩
  dsimp only
  refine ⟨_, execWindowEnd_due ready h, ?_⟩
  obtain ⟨q, meas, bare, taken, kept⟩ := s.endWindow_channel h1 h2 ready due
  have frame := (s.reach due).endWindow_frame ch ready due
  generalize (s.reach due).endWindow ch ready due = t at meas frame ⊢
  obtain ⟨osc, _, _, _, _, _, _, _, forecast, beds, water, zones, disp, line, mode, _⟩ := frame
  have channel (j : Nat) : t.channel j = (s.setChannel ch q).channel j := State.channel_congr (congrArg Measurement.channels meas) j
  have unlatched := Channel.took_unlatched (s.openedChannel ch ready due) (s.conf.persistence ch) (s.conf.limitLevel ch)
    (s.conf.clearLevel ch) (concentrationOf (s.channel ch).count (s.conf.kCal ch) (s.conf.windowSteps ch) (s.channel ch).baseline)
    (s.channel ch).count
  have latched := Channel.took_latched (s.openedChannel ch ready due) (s.conf.persistence ch) (s.conf.limitLevel ch)
    (s.conf.clearLevel ch) (concentrationOf (s.channel ch).count (s.conf.kCal ch) (s.conf.windowSteps ch) (s.channel ch).baseline)
    (s.channel ch).count
  obtain ⟨above, below, latch⟩ : (s.openedChannel ch ready due).aboveRun = (s.channel ch).aboveRun ∧
    (s.openedChannel ch ready due).belowRun = (s.channel ch).belowRun ∧
    (s.openedChannel ch ready due).latched = (s.channel ch).latched := Channel.opened_runs
  rw [latch, above] at unlatched
  rw [latch, below] at latched
  obtain ⟨clean, marked, left⟩ : _ ∧ _ := Channel.opened_zeroed (r := s.channel ch) (ready := ready) (kCal := s.conf.kCal ch)
    (steps := s.conf.windowSteps ch) (z := s.conf.zeroEvery ch) (due := due + s.conf.windowSteps ch * 10)
  have held : (s.openedChannel ch ready due).held =
    if ready = false ∨ (s.openedChannel ch ready due).dirty = true then none else (s.channel ch).held := Channel.opened_held
  have unformed (h : ready = false ∨ (s.openedChannel ch ready due).dirty = true) :
      ¬(s.channel ch).forms ready (s.openedChannel ch ready due).dirty := by
    rintro ⟨_, _, _, high, clean⟩
    exact h.elim (ne_false_of_eq_true high) (ne_true_of_eq_false clean)
  have zero : q.zeroWindow = (s.openedChannel ch ready due).zeroWindow := (congrArg Channel.zeroWindow bare :)
  have dirty : q.dirty = (s.openedChannel ch ready due).dirty := (congrArg Channel.dirty bare :)
  have baseline : q.baseline = (s.openedChannel ch ready due).baseline := (congrArg Channel.baseline bare :)
  have state : q.state = (s.openedChannel ch ready due).state := (congrArg Channel.state bare :)
  rw [(channel ch).trans (State.channel_setChannel_same s q h1 h2), dirty, baseline, state, zero, ← concentrationOf_eq]
  refine ⟨osc, ⟨(congrArg Channel.count bare :), (congrArg Channel.windowDue bare :), (congrArg Channel.sinceZero bare :), rfl,
    (congrArg Channel.valve bare :), channelStateAt_eq _ _ _, clean, marked, left, fun h => ?_, fun formed => ?_,
    fun formed hr hd => ?_, fun formed => ?_, fun formed => ?_, fun formed => ?_, fun formed => ?_, fun formed => ?_,
    fun formed => ?_, fun formed => ?_⟩, fun j hj => (channel j).trans (State.channel_setChannel_ne s q hj),
    (congrArg Measurement.ring meas :), beds, disp, water, line, zones, forecast, mode⟩
  · rw [kept (unformed h)]
    exact held.trans (if_pos h)
  · rw [taken formed]
    exact Channel.took_held _ _ _ _ _ _
  · rw [kept formed]
    refine held.trans (if_neg ?_)
    rintro (low | marked)
    · exact ne_true_of_eq_false low hr
    · exact ne_true_of_eq_false hd marked
  · rw [kept formed]
    exact Channel.opened_runs
  all_goals
    rw [taken formed]
    intro h
  · exact (unlatched h).1
  · exact (unlatched h).2.1
  · exact (unlatched h).2.2
  · exact (latched h).1
  · exact (latched h).2.1
  · exact (latched h).2.2

end Sys2Proof.Machine
end

section
/-! FORECAST_SLOT (R46 to R50). -/

namespace Sys2Proof.Machine

/-! ### Fields of a part -/

theorem forecastWord_toNat (fields : BitVec 40) : (fields.extractLsb' 24 16).toNat = fields.toNat / 16777216 := by
  have bound : fields.toNat < 1099511627776 := fields.isLt
  rw [BitVec.extractLsb'_toNat, Nat.shiftRight_eq_div_pow]
  omega

theorem forecastMiddle_toNat (fields : BitVec 40) : (fields.extractLsb' 8 16).toNat = fields.toNat / 256 % 65536 := by
  rw [BitVec.extractLsb'_toNat, Nat.shiftRight_eq_div_pow]

theorem forecastLow_toNat (fields : BitVec 40) : (fields.extractLsb' 0 8).toNat = fields.toNat % 256 := by
  rw [BitVec.extractLsb'_toNat, Nat.shiftRight_zero]

theorem forecastThird_toNat (fields : BitVec 40) : (fields.extractLsb' 16 8).toNat = fields.toNat / 65536 % 256 := by
  rw [BitVec.extractLsb'_toNat, Nat.shiftRight_eq_div_pow]

theorem forecastDegrees_eq (fields : BitVec 40) : fields.extractLsb' 8 8 = BitVec.ofNat 8 (fields.toNat / 256) := by
  apply BitVec.eq_of_toNat_eq
  rw [BitVec.extractLsb'_toNat, Nat.shiftRight_eq_div_pow, BitVec.toNat_ofNat]

theorem field8_eq (b : Byte) : field8 b = if b.toNat = 255 then none else some b.toNat :=
  if_congr BitVec.toNat_inj.symm rfl rfl

theorem fieldTemperature_eq (b : Byte) : fieldTemperature b = if b.toInt = -128 then none else some b.toInt :=
  if_congr (BitVec.toInt_inj (y := 128#8)).symm rfl rfl

theorem clampField_marked (hi n : Nat) (marker : Prop) [Decidable marker] :
    clampField hi (if marker then none else some n) = if marker then none else some (min hi n) := by
  split <;> rfl

theorem clampTemperature_marked (t : Int) (marker : Prop) [Decidable marker] :
    clampTemperature (if marker then none else some t) = if marker then none else some (max (-40) (min 60 t)) := by
  split
  · rfl
  · exact congrArg some (clampInt_eq (by decide) t)

/-- Part 0 as stored: hour, mean and sector (R48). -/
theorem Slot.withPart_zero (k : Slot) (fields : BitVec 40) : k.withPart 0 fields = { k with
    hour := if fields.toNat / 16777216 = 65535 then none else some (fields.toNat / 16777216)
    mean := if fields.toNat / 256 % 65536 = 65535 then none else some (min 600 (fields.toNat / 256 % 65536))
    sector := if fields.toNat % 256 = 255 then none else some (min 15 (fields.toNat % 256)) } := by
  simp only [Slot.withPart, if_true, field8_eq, field16, clampField_marked, forecastWord_toNat, forecastMiddle_toNat,
    forecastLow_toNat]

/-- Part 1 as stored: gust, humidity and temperature (R48). -/
theorem Slot.withPart_one (k : Slot) (fields : BitVec 40) : k.withPart 1 fields = { k with
    gust := if fields.toNat / 16777216 = 65535 then none else some (min 600 (fields.toNat / 16777216))
    humidity := if fields.toNat / 65536 % 256 = 255 then none else some (min 100 (fields.toNat / 65536 % 256))
    temperature := if (BitVec.ofNat 8 (fields.toNat / 256)).toInt = -128 then none
      else some (max (-40) (min 60 (BitVec.ofNat 8 (fields.toNat / 256)).toInt)) } := by
  simp only [Slot.withPart, if_neg one_ne_zero, if_true, field8_eq, field16, fieldTemperature_eq, clampField_marked,
    clampTemperature_marked, forecastWord_toNat, forecastThird_toNat, forecastDegrees_eq]

/-- Part 2 as stored: rain (R48). -/
theorem Slot.withPart_two (k : Slot) (fields : BitVec 40) : k.withPart 2 fields = { k with
    rain := if fields.toNat / 16777216 = 65535 then none else some (fields.toNat / 16777216) } := by
  simp only [Slot.withPart, if_neg two_ne_zero, if_neg (show ¬2 = 1 by decide), field16, forecastWord_toNat]

/-! ### Fields out of their range -/

theorem clampField_moves (hi n marker : Nat) :
    (clampField hi (if n = marker then none else some n) != if n = marker then none else some n) = true ↔
      n ≠ marker ∧ hi < n := by
  rw [clampField_marked, bne_iff_ne]
  by_cases absent : n = marker
  · simp [absent]
  · simp only [if_neg absent, ne_eq, Option.some.injEq]
    omega

theorem clampTemperature_moves (t marker : Int) :
    (clampTemperature (if t = marker then none else some t) != if t = marker then none else some t) = true ↔
      t ≠ marker ∧ (t < -40 ∨ 60 < t) := by
  rw [clampTemperature_marked, bne_iff_ne]
  by_cases absent : t = marker
  · simp [absent]
  · simp only [if_neg absent, ne_eq, Option.some.injEq]
    omega

/-- Which parts are answered CLAMPED: a field is present and out of its range (R48, R199). -/
theorem partClamped_iff (part : Nat) (fields : BitVec 40) : partClamped part fields = true ↔
    (part = 0 ∧ ((fields.toNat / 256 % 65536 ≠ 65535 ∧ 600 < fields.toNat / 256 % 65536) ∨
      (fields.toNat % 256 ≠ 255 ∧ 15 < fields.toNat % 256))) ∨
    (part = 1 ∧ ((fields.toNat / 16777216 ≠ 65535 ∧ 600 < fields.toNat / 16777216) ∨
      (fields.toNat / 65536 % 256 ≠ 255 ∧ 100 < fields.toNat / 65536 % 256) ∨
      ((BitVec.ofNat 8 (fields.toNat / 256)).toInt ≠ -128 ∧
        ((BitVec.ofNat 8 (fields.toNat / 256)).toInt < -40 ∨ 60 < (BitVec.ofNat 8 (fields.toNat / 256)).toInt)))) := by
  unfold partClamped
  dsimp only
  split
  next h =>
    simp only [field8_eq, field16, Bool.or_eq_true, clampField_moves, forecastMiddle_toNat, forecastLow_toNat, h,
      true_and, zero_ne_one, false_and, or_false]
  next h0 =>
    split
    next h =>
      simp only [field8_eq, field16, fieldTemperature_eq, Bool.or_eq_true, clampField_moves, clampTemperature_moves,
        forecastWord_toNat, forecastThird_toNat, forecastDegrees_eq, h, true_and, one_ne_zero, false_and, false_or, or_assoc]
    next h1 => simp [h0, h1]

/-! ### The issue -/

/-- The slots of the table are the slots 1 to 12 (R46). -/
theorem State.mem_slotList {s : State} {k : Slot} : k ∈ s.slotList ↔ ∃ n, 1 ≤ n ∧ n ≤ 12 ∧ s.slot n = k := by
  simp only [State.slotList, slotNumbers, List.mem_map, mem_numbersFrom, and_assoc, Nat.lt_succ_iff, Nat.reduceAdd]

theorem State.tableEmpty_iff (s : State) : s.tableEmpty = true ↔ ∀ k, 1 ≤ k → k ≤ 12 → s.slot k = Slot.empty := by
  simp only [State.tableEmpty, List.all_eq_true, beq_iff_eq, State.mem_slotList]
  exact ⟨fun h k h1 h2 => h _ ⟨k, h1, h2, rfl⟩, fun h _ ⟨k, h1, h2, e⟩ => e ▸ h k h1 h2⟩

theorem State.issueAge_new_iff (s : State) (i : Nat) : s.issueAge i = .new ↔
    (∀ k, 1 ≤ k → k ≤ 12 → s.slot k = Slot.empty) ∨
      (1 ≤ (i + 256 - s.forecast.issue) % 256 ∧ (i + 256 - s.forecast.issue) % 256 ≤ 127) := by
  rw [← s.tableEmpty_iff]
  unfold State.issueAge
  dsimp only
  split
  next h => exact iff_of_true rfl h
  next h => exact iff_of_false (by split <;> decide) h

theorem State.issueAge_older_iff (s : State) (i : Nat) :
    s.issueAge i = .older ↔ s.issueAge i ≠ .new ∧ (i + 256 - s.forecast.issue) % 256 ≠ 0 := by
  unfold State.issueAge
  dsimp only
  split
  · simp
  · split
    next h => simp [h]
    next h => simp [h]

theorem State.openIssue_new {s : State} {i : Nat} (h : s.issueAge i = .new) : s.openIssue i =
    { s with forecast := { s.forecast with issue := i, slots := Vector.replicate 12 Slot.empty } } := if_pos h

theorem State.openIssue_held {s : State} {i : Nat} (h : s.issueAge i ≠ .new) : s.openIssue i = s := if_neg h

/-- Opening an issue writes the issue number and the slots alone. -/
theorem State.openIssue_form (s : State) (i : Nat) : ∃ n slots,
    s.openIssue i = { s with forecast := { s.forecast with issue := n, slots := slots } } := by
  unfold State.openIssue
  split
  · exact ⟨_, _, rfl⟩
  · exact ⟨s.forecast.issue, s.forecast.slots, rfl⟩

theorem State.openIssue_slot_new {s : State} {i : Nat} (h : s.issueAge i = .new) (k : Nat) :
    (s.openIssue i).slot k = Slot.empty := by
  rw [State.openIssue_new h]
  exact nth_replicate 12 Slot.empty k

/-- Once an issue that is not older is opened it is the one held (R47). -/
theorem State.openIssue_issue {s : State} {i : Nat} (h : s.issueAge i ≠ .older) (held : s.forecast.issue < 256) (hi : i < 256) :
    (s.openIssue i).forecast.issue = i := by
  by_cases new : s.issueAge i = .new
  · rw [State.openIssue_new new]
  · rw [State.openIssue_held new]
    have same : (i + 256 - s.forecast.issue) % 256 = 0 := by
      by_contra aged
      exact h ((s.issueAge_older_iff i).mpr ⟨new, aged⟩)
    omega

/-! ### The part in its slot -/

theorem State.storePart_slot_same (s : State) (part : Nat) (fields : BitVec 40) {k : Nat} (h1 : 1 ≤ k) (h2 : k ≤ 12) :
    (s.storePart k part fields).slot k = (s.slot k).withPart part fields := nth_setNth_same _ _ _ h1 h2

theorem State.storePart_slot_ne (s : State) (part : Nat) (fields : BitVec 40) {j k : Nat} (h : j ≠ k) :
    (s.storePart k part fields).slot j = s.slot j := nth_setNth_ne _ _ _ h

/-- The state in which FORECAST_SLOT re-judges the forecast (R47, R48). -/
def State.forecastStored (s : State) (issue slot part : Nat) (fields : BitVec 40) : State :=
  (s.openIssue issue).storePart slot part fields

/-- A taken part writes the issue number and the slots alone. -/
theorem State.forecastStored_form (s : State) (issue slot part : Nat) (fields : BitVec 40) : ∃ n slots,
    s.forecastStored issue slot part fields = { s with forecast := { s.forecast with issue := n, slots := slots } } := by
  obtain ⟨n, slots, e⟩ := s.openIssue_form issue
  rw [State.forecastStored, e]
  exact ⟨n, _, rfl⟩

theorem State.forecastStored_nowHour (s : State) (issue slot part : Nat) (fields : BitVec 40) :
    (s.forecastStored issue slot part fields).nowHour = s.nowHour := by
  obtain ⟨n, slots, e⟩ := s.forecastStored_form issue slot part fields
  rw [e]
  rfl

/-! ### The judgments after it -/

/-- The forecast is LIVE while the hour of some slot is not past (R49, R50). -/
theorem State.slotsLive_iff (s : State) : s.slotsLive = true ↔ ∃ k hour, 1 ≤ k ∧ k ≤ 12 ∧ (s.slot k).hour = some hour ∧
    (hour + 65536 - s.nowHour) % 65536 ≤ 32767 := by
  have live (k : Slot) : offsetLive (k.offset s.nowHour) = true ↔
      ∃ hour, k.hour = some hour ∧ (hour + 65536 - s.nowHour) % 65536 ≤ 32767 := by
    cases h : k.hour <;> simp [Slot.offset, h, offsetLive, hourOffset]
  simp only [State.slotsLive, List.any_eq_true, State.mem_slotList, live]
  exact ⟨fun ⟨_, ⟨k, h1, h2, e⟩, hour, h3, h4⟩ => ⟨k, hour, h1, h2, e ▸ h3, h4⟩,
    fun ⟨k, hour, h1, h2, h3, h4⟩ => ⟨_, ⟨k, h1, h2, rfl⟩, hour, h3, h4⟩⟩

/-- The judgments of a change of the now hour move nothing of the forecast but whether it is LIVE. -/
theorem State.changeHour_forecast (s : State) : s.changeHour.forecast = { s.forecast with live := s.slotsLive } := by
  have frozen : s.changeHour.forecast = s.judgeForecast.forecast := by
    have frame : ModeFrame s.judgeForecast s.changeHour := State.judgeFreeze_frame _
    simp_all only [ModeFrame]
  have live := s.judgeForecast_live
  obtain ⟨_, _, _, _, _, _, _, _, form⟩ := s.judgeForecast_late.keeps
  rw [form] at live
  rw [frozen, form, ← live]

theorem State.changeHour_aside (s : State) : Aside s s.changeHour :=
  s.judgeForecast_aside.trans (State.judgeFreeze_aside _)

/-! ### A taken part -/

/-- The state in which FORECAST_SLOT answers a part it takes (R47, R48, R50, R180). -/
def State.forecastTaken (s : State) (issue slot part : Nat) (fields : BitVec 40) : State :=
  (s.forecastStored issue slot part fields).changeHour

theorem State.forecastTaken_forecast (s : State) (issue slot part : Nat) (fields : BitVec 40) :
    (s.forecastTaken issue slot part fields).forecast = { (s.forecastStored issue slot part fields).forecast with
      live := (s.forecastStored issue slot part fields).slotsLive } := State.changeHour_forecast _

/-- The judgments leave every slot as it was stored. -/
theorem State.forecastTaken_slot (s : State) (issue slot part : Nat) (fields : BitVec 40) (k : Nat) :
    (s.forecastTaken issue slot part fields).slot k = (s.forecastStored issue slot part fields).slot k := by
  simp only [State.slot, State.forecastTaken_forecast]

theorem State.forecastTaken_slot_same (s : State) (issue part : Nat) (fields : BitVec 40) {k : Nat} (h1 : 1 ≤ k) (h2 : k ≤ 12) :
    (s.forecastTaken issue k part fields).slot k = ((s.openIssue issue).slot k).withPart part fields :=
  (s.forecastTaken_slot ..).trans (State.storePart_slot_same _ _ _ h1 h2)

theorem State.forecastTaken_slot_ne (s : State) (issue part : Nat) (fields : BitVec 40) {j k : Nat} (h : j ≠ k) :
    (s.forecastTaken issue k part fields).slot j = (s.openIssue issue).slot j :=
  (s.forecastTaken_slot ..).trans (State.storePart_slot_ne _ _ _ h)

theorem State.forecastTaken_issue {s : State} {issue : Nat} (slot part : Nat) (fields : BitVec 40)
    (h : s.issueAge issue ≠ .older) (held : s.forecast.issue < 256) (hi : issue < 256) :
    (s.forecastTaken issue slot part fields).forecast.issue = issue := by
  rw [State.forecastTaken_forecast]
  exact State.openIssue_issue h held hi

/-- A taken part leaves the forecast LIVE as its own slots judge (R49, R50). -/
theorem State.forecastTaken_live_iff (s : State) (issue slot part : Nat) (fields : BitVec 40) :
    (s.forecastTaken issue slot part fields).forecast.live = true ↔
      ∃ k hour, 1 ≤ k ∧ k ≤ 12 ∧ ((s.forecastTaken issue slot part fields).slot k).hour = some hour ∧
        (hour + 65536 - s.nowHour) % 65536 ≤ 32767 := by
  simp only [State.forecastTaken_forecast, State.slotsLive_iff, State.forecastStored_nowHour, State.forecastTaken_slot]

/-- Nothing but the forecast and what its judgments tell and stop moves when a part is taken. -/
theorem State.forecastTaken_kept (s : State) (issue slot part : Nat) (fields : BitVec 40) :
    let t := s.forecastTaken issue slot part fields
    (t.port.urgent = s.port.urgent ∧ t.port.routine = s.port.routine ∧ s.port.outbound <+: t.port.outbound) ∧
      t.forecast.humidity = s.forecast.humidity ∧ t.forecast.temperature = s.forecast.temperature ∧
      t.osc = s.osc ∧ t.conf = s.conf ∧ t.meas = s.meas ∧ t.zones = s.zones ∧ t.store = s.store := by
  obtain ⟨n, slots, form⟩ := s.forecastStored_form issue slot part fields
  have frame : HourFrame _ (s.forecastTaken issue slot part fields) := State.changeHour_frame _
  have told : _ <+: (s.forecastTaken issue slot part fields).port.outbound := (State.changeHour_aside _).outbound
  have forecast := s.forecastTaken_forecast issue slot part fields
  dsimp only
  generalize s.forecastTaken issue slot part fields = t at frame told forecast ⊢
  rw [form] at frame told forecast
  simp_all [HourFrame]

/-! ### The request -/

theorem forecastSlot_ready {s : State} {node : Node} {issue slot part : Byte} {fields : BitVec 40}
    (h : s.ready node 0x20 (issue :: slot :: part :: be40 fields.toNat)) : exec (.forecastSlot node issue slot part fields) s =
      .next (s.takeRequest.forecastSlot node issue.toNat slot.toNat part.toNat fields) :=
  congrArg Host.Outcome.next (State.serve_ready _ h)

section
variable {s : State} {issue slot part : Nat} (node : Node) (fields : BitVec 40)

theorem State.forecastSlot_badValue (h : slot = 0 ∨ 12 < slot ∨ 2 < part) :
    s.forecastSlot node issue slot part fields = s.reply node 0x20 .badValue (be8 s.forecast.issue) := if_pos h

theorem State.forecastSlot_stale (h : ¬(slot = 0 ∨ 12 < slot ∨ 2 < part)) (older : s.issueAge issue = .older) :
    s.forecastSlot node issue slot part fields = s.reply node 0x20 .stale (be8 s.forecast.issue) :=
  (if_neg h).trans (if_pos older)

theorem State.forecastSlot_taken (h : ¬(slot = 0 ∨ 12 < slot ∨ 2 < part)) (taken : s.issueAge issue ≠ .older) :
    s.forecastSlot node issue slot part fields =
      (s.forecastTaken issue slot part fields).reply node 0x20 (okOrClamped (partClamped part fields))
        (be8 (s.forecastTaken issue slot part fields).forecast.issue) :=
  (if_neg h).trans (if_neg taken)

end

/-- Settles O27: a part is judged by its slot, its number and the age of its issue; a stored one is written to its slot of the
held or emptied table, and the forecast is judged by the table it leaves. -/
theorem forecastSlots : Obligations.ForecastSlots := by
  intro s node issue slot part fields ready age new word middle low third degrees clamped stored
  rw [forecastSlot_ready ready]
  set u := s.takeRequest with hu
  have forecast : u.forecast = s.forecast := by simp [hu]
  have slotOf (k : Nat) : u.slot k = s.slot k := by simp only [State.slot, forecast]
  have isNew : u.issueAge issue.toNat = .new ↔ new := by simp only [State.issueAge_new_iff, slotOf, forecast, new, age]
  have isOlder : u.issueAge issue.toNat = .older ↔ ¬new ∧ age ≠ 0 := by
    rw [State.issueAge_older_iff, ne_eq, isNew, forecast]
  have zero : slot = 0#8 ↔ slot.toNat = 0 := BitVec.toNat_inj.symm
  refine ⟨fun bad => ?_, fun h1 h2 hp => ?_⟩
  · rw [State.forecastSlot_badValue node fields (by rwa [← zero]), forecast]
  have good : ¬(slot.toNat = 0 ∨ 12 < slot.toNat ∨ 2 < part.toNat) := by omega
  refine ⟨fun held aged => ?_, fun taken bound => ?_⟩
  · rw [State.forecastSlot_stale node fields good (isOlder.mpr ⟨held, aged⟩), forecast]
  have notOlder : u.issueAge issue.toNat ≠ .older := fun h => taken.elim (isOlder.mp h).1 (isOlder.mp h).2
  have issued := State.forecastTaken_issue slot.toNat part.toNat fields notOlder (forecast ▸ bound) issue.isLt
  rw [State.forecastSlot_taken node fields good notOlder, issued]
  obtain ⟨⟨urgent, routine, outbound⟩, humidity, temperature, osc, conf, meas, zones, store⟩ :=
    u.forecastTaken_kept issue.toNat slot.toNat part.toNat fields
  have live := u.forecastTaken_live_iff issue.toNat slot.toNat part.toNat fields
  rw [show u.nowHour = s.nowHour by simp [State.nowHour, hu]] at live
  have named := u.forecastTaken_slot_same issue.toNat part.toNat fields h1 h2
  have others (k : Nat) (h : k ≠ slot.toNat) := u.forecastTaken_slot_ne issue.toNat part.toNat fields h
  generalize u.forecastTaken issue.toNat slot.toNat part.toNat fields = t at *
  have opened (k : Nat) (h : new) : (u.openIssue issue.toNat).slot k = Slot.empty := State.openIssue_slot_new (isNew.mpr h) k
  have unopened (k : Nat) (h : ¬new) : (u.openIssue issue.toNat).slot k = s.slot k := by
    rw [State.openIssue_held (mt isNew.mp h), slotOf]
  have partStored (k : Slot) : stored k (k.withPart part.toNat fields) :=
    ⟨by rintro rfl; exact k.withPart_zero fields, by rintro rfl; exact k.withPart_one fields,
      by rintro rfl; exact k.withPart_two fields⟩
  have isClamped : partClamped part.toNat fields = true ↔ clamped := by
    simp only [partClamped_iff, clamped, ← BitVec.toNat_inj]
    rfl
  have answered (r : Result) : s.answers (t.reply node 0x20 r (be8 issue.toNat)) node 0x20 r (be8 issue.toNat) :=
    State.answers_of_reply urgent routine outbound
  refine ⟨_, rfl, issued, fun k _ _ other => ⟨fun h => ?_, fun h => ?_⟩, fun h => ?_, fun h => ?_, ?_,
    humidity.trans (by rw [forecast]), temperature.trans (by rw [forecast]), fun h => ?_, fun h => ?_,
    ?_, ?_, ?_, ?_, ?_⟩
  · exact (others k other).trans (opened k h)
  · exact (others k other).trans (unopened k h)
  · exact opened _ h ▸ named ▸ partStored _
  · exact unopened _ h ▸ named ▸ partStored _
  · exact live
  · rw [isClamped.mpr h]
    exact answered .clamped
  · rw [Bool.eq_false_iff.mpr (mt isClamped.mp h)]
    exact answered .ok
  · simp [osc, hu]
  · simp [conf, hu]
  · simp [meas, hu]
  · simp [zones, hu]
  · simp [store, hu]

end Sys2Proof.Machine
end

section
/-! How the band moves with R (R60). -/

namespace Sys2Proof.Machine

theorem Settings.entryOf_riskBand_le (S : Settings) (r : Nat) : S.entryOf (S.riskBand r) ≤ r := by
  unfold Settings.riskBand
  split
  next h => exact h
  next =>
    split
    next h => exact h
    next =>
      split
      next h => exact h
      next => exact Nat.zero_le r

/-- A band that R reaches is no higher than the risk band. -/
theorem Settings.code_le_riskBand {S : Settings} {r : Nat} (b : Band) (h : S.entryOf b ≤ r) : b.code ≤ (S.riskBand r).code := by
  unfold Settings.riskBand
  cases b with
  | low => exact Nat.zero_le _
  | watch =>
    have reached : S.tWatch ≤ r := h
    rw [if_pos reached]
    split
    · decide
    · split <;> decide
  | act =>
    have reached : S.tAct ≤ r := h
    rw [if_pos reached]
    split <;> decide
  | severe =>
    have reached : S.tSev ≤ r := h
    rw [if_pos reached]

theorem Band.down_code {b : Band} (h : b ≠ .low) : b.down.code + 1 = b.code := by
  cases b with
  | low => exact absurd rfl h
  | watch => rfl
  | act => rfl
  | severe => rfl

section
variable {S : Settings} {previous : Band} {r : Nat}

theorem Settings.nextBand_rises (h : previous.code < (S.riskBand r).code) : S.nextBand previous r = S.riskBand r := if_pos h

theorem Settings.nextBand_falls (h : (S.riskBand r).code ≤ previous.code) (below : r + S.hysteresis < S.entryOf previous) :
    S.nextBand previous r = previous.down := (if_neg h.not_gt).trans (if_pos below)

theorem Settings.nextBand_stays (h : (S.riskBand r).code ≤ previous.code) (within : S.entryOf previous ≤ r + S.hysteresis) :
    S.nextBand previous r = previous := (if_neg h.not_gt).trans (if_neg within.not_gt)

/-- A band whose entry threshold is at most the hysteresis cannot be left downward. -/
theorem Settings.code_le_nextBand (h : S.entryOf previous ≤ S.hysteresis) : previous.code ≤ (S.nextBand previous r).code := by
  rcases lt_or_ge previous.code (S.riskBand r).code with above | within
  · rw [Settings.nextBand_rises above]
    exact above.le
  · rw [Settings.nextBand_stays within (h.trans (Nat.le_add_left _ _))]

end

/-- Settles O30: the risk band is the highest one R reaches; the band rises to it at once and falls by the hysteresis. -/
theorem bandsMoveByRisk : Obligations.BandsMoveByRisk := by
  intro S previous r _ _ _
  refine ⟨S.entryOf_riskBand_le r, Settings.code_le_riskBand, Settings.nextBand_rises,
    fun within above below => ?_, Settings.nextBand_stays, Settings.code_le_nextBand⟩
  rw [Settings.nextBand_falls within below]
  exact Band.down_code above

end Sys2Proof.Machine
end

section
/-! SUPPORT. The relation `Moves`: the kinds of move by which every event changes the orders, the water, the tests, the moisture
holds and the TRIMs asked for. Nearly every command is a course of such moves; a law kept by each kind of move is kept by all
of them. -/

namespace Sys2Proof.Machine

/-- The terms of a start: all but what its cannon has reported of it. -/
def Start.terms (st : Start) : Start := { st with acknowledged := false, delivered := none }

theorem Start.terms_cannon {p q : Start} (h : p.terms = q.terms) : p.cannon = q.cannon := (congrArg Start.cannon h :)
theorem Start.terms_source {p q : Start} (h : p.terms = q.terms) : p.source = q.source := (congrArg Start.source h :)
theorem Start.terms_volume {p q : Start} (h : p.terms = q.terms) : p.volume = q.volume := (congrArg Start.volume h :)
theorem Start.terms_sequence {p q : Start} (h : p.terms = q.terms) : p.sequence = q.sequence := (congrArg Start.sequence h :)
theorem Start.terms_count {p q : Start} (h : p.terms = q.terms) : p.count = q.count := (congrArg Start.count h :)
theorem Start.terms_share {p q : Start} (h : p.terms = q.terms) : p.share = q.share := (congrArg Start.share h :)
theorem Start.terms_holdPoint {p q : Start} (h : p.terms = q.terms) : p.holdPoint = q.holdPoint :=
  (congrArg Start.holdPoint h :)

/-! ### What surrounds a move -/

/-- Around every move: the settings and the serials of holds stay, no test begins, a TRIM asked for was asked for before or is
one of `A`, and MAINTENANCE with the drain ended stays so. -/
structure Around (A : Nat → Nat → Prop) (s t : State) : Prop where
  conf : t.conf = s.conf
  serial : t.beds.holdSerial = s.beds.holdSerial
  tests : ∀ c, (t.cannon c).test ≠ .none → (s.cannon c).test ≠ .none
  asks : ∀ l n, t.asksTrim l n → s.asksTrim l n ∨ A l n
  mode : s.ctrl.mode = .maintenance → t.ctrl.mode = .maintenance
  drain : s.ctrl.drain = none → t.ctrl.drain = none

theorem Around.refl (A : Nat → Nat → Prop) (s : State) : Around A s s :=
  ⟨rfl, rfl, fun _ => id, fun _ _ => .inl, id, id⟩

theorem Around.trans {A : Nat → Nat → Prop} {s t u : State} (h1 : Around A s t) (h2 : Around A t u) : Around A s u where
  conf := h2.conf.trans h1.conf
  serial := h2.serial.trans h1.serial
  tests c h := h1.tests c (h2.tests c h)
  asks l n h := (h2.asks l n h).elim (h1.asks l n) .inr
  mode h := h2.mode (h1.mode h)
  drain h := h2.drain (h1.drain h)

/-- An event beside the water and the orders: these and the moisture holds stay as they were. -/
structure Steady (A : Nat → Nat → Prop) (s t : State) : Prop extends Around A s t where
  hold : ∀ b, (t.bed b).hold = (s.bed b).hold
  orders : t.disp.orders = s.disp.orders
  reserved : ∀ w, (t.source w).reserved = (s.source w).reserved
  balance : ∀ w, (t.source w).balance = (s.source w).balance
  today : t.water.freshToday = s.water.freshToday

theorem Steady.refl (A : Nat → Nat → Prop) (s : State) : Steady A s s :=
  ⟨.refl A s, fun _ => rfl, rfl, fun _ => rfl, fun _ => rfl, rfl⟩

theorem Steady.trans {A : Nat → Nat → Prop} {s t u : State} (h1 : Steady A s t) (h2 : Steady A t u) : Steady A s u where
  toAround := h1.toAround.trans h2.toAround
  hold b := (h2.hold b).trans (h1.hold b)
  orders := h2.orders.trans h1.orders
  reserved w := (h2.reserved w).trans (h1.reserved w)
  balance w := (h2.balance w).trans (h1.balance w)
  today := h2.today.trans h1.today

/-- What a steady event reads and writes, field by field, is as it was. -/
abbrev Level (s t : State) : Prop :=
  t.conf = s.conf ∧ t.beds.records = s.beds.records ∧ t.beds.holdSerial = s.beds.holdSerial ∧
    t.disp.orders = s.disp.orders ∧ t.water.recycled = s.water.recycled ∧ t.water.fresh = s.water.fresh ∧
    t.water.freshToday = s.water.freshToday ∧ t.line.cannons = s.line.cannons ∧ t.line.transaction = s.line.transaction ∧
    t.ctrl.mode = s.ctrl.mode ∧ t.ctrl.drain = s.ctrl.drain

theorem State.asksTrim_congr {s t : State} (hc : t.line.cannons = s.line.cannons)
    (ht : t.line.transaction = s.line.transaction) (l n : Nat) : t.asksTrim l n ↔ s.asksTrim l n := by
  unfold State.asksTrim
  simp only [State.cannon_congr hc, ht]

theorem Steady.level {A : Nat → Nat → Prop} {s t : State} (h : Level s t) : Steady A s t := by
  obtain ⟨hconf, hbeds, hserial, horders, hrec, hfresh, htoday, hcannons, htrans, hmode, hdrain⟩ := h
  have source : ∀ w, t.source w = s.source w := fun w => by cases w <;> assumption
  exact ⟨⟨hconf, hserial, fun c => by rw [State.cannon_congr hcannons]; exact id,
    fun l n hl => .inl ((State.asksTrim_congr hcannons htrans l n).mp hl), fun hm => hmode.trans hm, fun hd => hdrain.trans hd⟩,
    fun b => by rw [State.bed_congr hbeds], horders, fun w => by rw [source], fun w => by rw [source], htoday⟩

/-- A cannon's record is written: no test begins in it, and a TRIM held in it was held in it or is one of `A`. -/
theorem Steady.setCannon {A : Nat → Nat → Prop} (s : State) (c : Nat) (r : Cannon)
    (ht : r.test ≠ .none → (s.cannon c).test ≠ .none)
    (hh : ∀ l n, r.held.map HeldCommand.command = some (.trim l n) →
      (s.cannon c).held.map HeldCommand.command = some (.trim l n) ∨ A l n) : Steady A s (s.setCannon c r) := by
  refine ⟨⟨rfl, rfl, fun a => ?_, fun l n hl => ?_, id, id⟩, fun _ => rfl, rfl, fun w => by cases w <;> rfl,
    fun w => by cases w <;> rfl, rfl⟩
  · rw [State.cannon_setCannon]
    split
    · rename_i e; rw [e.1]; exact ht
    · exact id
  · rcases hl with ⟨a, ha⟩ | hl
    · rw [State.cannon_setCannon] at ha
      split at ha
      · exact (hh l n ha).imp (fun h => .inl ⟨c, h⟩) id
      · exact .inl (.inl ⟨a, ha⟩)
    · exact .inl (.inr hl)

/-- A write of a cannon's record that leaves its test and its held command. -/
theorem Steady.setCannon_same {A : Nat → Nat → Prop} (s : State) (c : Nat) (r : Cannon) (ht : r.test = (s.cannon c).test)
    (hh : r.held = (s.cannon c).held) : Steady A s (s.setCannon c r) :=
  .setCannon s c r (fun h => ht ▸ h) (fun _ _ h => .inl (hh ▸ h))

/-- A write of a bed's record that leaves its hold. -/
theorem Steady.setBed {A : Nat → Nat → Prop} (s : State) (b : Nat) (r : Bed) (h : r.hold = (s.bed b).hold) :
    Steady A s (s.setBed b r) := by
  refine ⟨⟨rfl, rfl, fun _ => id, fun _ _ => .inl, id, id⟩, fun a => ?_, rfl, fun w => by cases w <;> rfl,
    fun w => by cases w <;> rfl, rfl⟩
  rw [State.bed_setBed]
  split
  · rename_i e; rw [e.1, h]
  · rfl

/-! ### The moves -/

/-- The end of a start on bed `b` is charged (R74, R75, R108): its source is released and charged, and the tally of the bed's hold
rises by no more than the counted delivery. -/
structure Charged (A : Nat → Nat → Prop) (s t : State) (b : Nat) (st : Start) (d : Nat) : Prop extends Around A s t where
  hold_ne : ∀ a, a ≠ b → (t.bed a).hold = (s.bed a).hold
  hold : ∃ n, n ≤ st.counted d ∧ (t.bed b).hold = (s.bed b).hold.map (Hold.risen · n)
  orders : t.disp.orders = s.disp.orders
  reserved : (t.source st.source).reserved = (s.source st.source).reserved - st.volume
  balance : (t.source st.source).balance = (s.source st.source).balance - d
  others : ∀ w, w ≠ st.source →
    (t.source w).reserved = (s.source w).reserved ∧ (t.source w).balance = (s.source w).balance
  today : t.water.freshToday = if st.source = .fresh then s.water.freshToday + d else s.water.freshToday

/-- The order on bed `b` leaves the queue or waits there without a start (R128, R130). -/
structure Settled (A : Nat → Nat → Prop) (s t : State) (b : Nat) : Prop extends Around A s t where
  hold : ∀ a, (t.bed a).hold = (s.bed a).hold
  orders : t.disp.orders = ordersWithout b s.disp.orders ∨ ∃ p : Order, p.bed = b ∧ p.start = none ∧ p.state = .waiting ∧
    t.disp.orders = insertOrder p (ordersWithout b s.disp.orders)
  water : t.water = s.water

/-- The reply to a TRIM rewrites a start (R75, R107). -/
def Start.trimmedBy (st : Start) (dt limit : Nat) (standing : Bool) : Start :=
  { st with volume := min st.volume (dt + limit), count := if standing then .trimmed dt else st.count }

/-- The moves. `A` holds the TRIMs that may be asked for; `P` says that a TRIM's reply is not below the hold point. -/
inductive Moves (A : Nat → Nat → Prop) (P : Prop) : State → State → Prop
  /-- An event beside the water and the orders. -/
  | steady {s t : State} (h : Steady A s t) : Moves A P s t
  | trans {s t u : State} (h1 : Moves A P s t) (h2 : Moves A P t u) : Moves A P s u
  /-- Water is granted or withdrawn (R69, R70). -/
  | pour (s : State) (w : WaterSource) (n : Nat) (low : (s.source w).reserved ≤ (s.source w).balance → (s.source w).reserved ≤ n)
      (high : (s.source w).balance ≤ 100000000 → n ≤ 100000000) : Moves A P s (s.setSource w { s.source w with balance := n })
  /-- A day begins (R77). -/
  | dawn (s : State) : Moves A P s { s with water := { s.water with freshToday := 0 } }
  /-- The order of a bed is written with the terms of its start (R112). -/
  | put {s : State} {b : Nat} {o : Order} (h : s.order b = some o) (p : Order) (bed : p.bed = o.bed)
      (waiting : p.state = .waiting ↔ o.state = .waiting) (start : p.start.map Start.terms = o.start.map Start.terms) :
      Moves A P s (s.putOrder p)
  /-- A new order (R114). -/
  | create {s : State} (p : Order) (none : s.order p.bed = .none) (start : p.start = .none) (waiting : p.state = .waiting) :
      Moves A P s (s.putOrder p)
  /-- A waiting order leaves (R119). -/
  | drop {s : State} {b : Nat} {o : Order} (h : s.order b = some o) (waiting : o.state = .waiting) :
      Moves A P s { s with disp := { s.disp with orders := ordersWithout b s.disp.orders } }
  /-- A line fault stops every order (R156). -/
  | fault (s : State) : Moves A P s { s with disp := { s.disp with orders := s.disp.orders.map Order.faulted } }
  /-- A hold leaves its bed (R105). -/
  | unhold (s : State) (b : Nat) (r : Bed) (h : r.hold = none) : Moves A P s (s.setBed b r)
  /-- A start on a bed without a hold counts otherwise (R105). -/
  | recount {s : State} {b : Nat} {o : Order} {st : Start} (h : s.order b = some o) (start : o.start = some st)
      (hold : (s.bed b).hold = none) (k : HoldCount) : Moves A P s (s.putOrder { o with start := some { st with count := k } })
  /-- The cap of a hold changes to no less than the tally with the share (R104). -/
  | cap {s : State} {b : Nat} {h : Hold} (hold : (s.bed b).hold = some h) (n : Nat) (fits : h.tally + s.shareOf b ≤ n) :
      Moves A P s (s.setBed b { s.bed b with hold := some { h with cap := n } })
  /-- A start ends within its volume (R75, R130). -/
  | ends {s u t : State} {b : Nat} {o : Order} {st : Start} {d : Nat} (h : s.order b = some o) (start : o.start = some st)
      (within : s.oneOrderPerBed → d ≤ st.volume) (charged : Charged A s u b st d) (settled : Settled A u t b) : Moves A P s t
  /-- A TRIM is answered (R107). -/
  | trim {s : State} {b : Nat} {o : Order} {st : Start} (h : s.order b = some o) (start : o.start = some st) (dt limit n : Nat)
      (asked : A limit n) (ahead : P → min st.holdPoint st.volume ≤ dt) :
      Moves A P s ((s.releaseWater st.source (st.volume - min st.volume (dt + limit))).putOrder
        { o with start := some (st.trimmedBy dt limit ((s.bed b).holdIs n)) })
  /-- A test ends, with a charge only when it was in progress (R159). -/
  | test (s : State) (c d : Nat) (h : d ≠ 0 → (s.cannon c).test ≠ .none) : Moves A P s (s.endTest c d)

namespace Moves
variable {A : Nat → Nat → Prop} {P : Prop}

theorem refl (s : State) : Moves A P s s := .steady (.refl A s)

theorem level {s t : State} (h : Level s t) : Moves A P s t := .steady (.level h)

theorem foldl {α : Type} (f : State → α → State) (h : ∀ s a, Moves A P s (f s a)) (l : List α) (s : State) :
    Moves A P s (l.foldl f s) :=
  foldl_keeps (Moves A P) refl (fun _ _ _ => trans) f h l s

theorem of_next {s t u : State} (h : (Host.Outcome.next u : Out) = .next t) (hm : Moves A P s u) : Moves A P s t := by
  injection h with h
  exact h ▸ hm

/-- A request is a course of moves when its owner's event is one, on the state whose request has been taken. -/
theorem serve (s : State) (node : Node) (code : Nat) (data : List Byte) (owner : State → State)
    (h : Moves A P s.takeRequest (owner s.takeRequest)) : Moves A P s (s.serve node code data owner) := by
  have taken : Moves A P s s.takeRequest := .level (by simp [Level])
  have reply : ∀ r, Moves A P s (s.takeRequest.reply node code r []) := fun r => taken.trans (.level (by simp [Level, State.reply]))
  rcases s.serve_cases node code data owner with ⟨_, e⟩ | ⟨_, _, e⟩ | ⟨_, _, _, _, e⟩ | ⟨_, e⟩ <;> rw [e]
  · exact refl s
  · exact reply _
  · exact reply _
  · exact taken.trans h

end Moves
end Sys2Proof.Machine
end

section
/-! SUPPORT. Which shared operations are courses of moves (Machine/Ops.lean, Machine/Starts.lean). -/

namespace Sys2Proof.Machine
section
variable {A : Nat → Nat → Prop} {P : Prop}

/-! ### Simple events -/

theorem Around.of {s t : State} (conf : t.conf = s.conf) (serial : t.beds.holdSerial = s.beds.holdSerial)
    (cannons : t.line.cannons = s.line.cannons) (trans : t.line.transaction = s.line.transaction)
    (mode : t.ctrl.mode = s.ctrl.mode) (drain : s.ctrl.drain = none → t.ctrl.drain = none) : Around A s t :=
  ⟨conf, serial, fun c => by rw [State.cannon_congr cannons]; exact id,
    fun l n h => .inl ((State.asksTrim_congr cannons trans l n).mp h), fun h => mode.trans h, drain⟩

theorem State.bed_outside (s : State) {b : Nat} (h : ¬(1 ≤ b ∧ b ≤ 32)) : s.bed b = Bed.initial 0 :=
  nth_outside _ _ (by omega)

theorem State.cause_moves (s : State) : Moves A P s s.cause := .level (by simp [Level])

theorem State.reply_moves (s : State) (n : Node) (c : Nat) (r : Result) (d : List Byte) : Moves A P s (s.reply n c r d) :=
  .level (by simp [Level, State.reply])

theorem State.reach_moves (s : State) (d : Nat) : Moves A P s (s.reach d) := .level (by simp [Level])

theorem State.setCannon_moves (s : State) (c : Nat) (r : Cannon) (ht : r.test = (s.cannon c).test)
    (hh : r.held = (s.cannon c).held) : Moves A P s (s.setCannon c r) := .steady (.setCannon_same s c r ht hh)

/-- A cannon's record is written without a held command, or with a command that is no TRIM. -/
theorem State.holdCannon_moves (s : State) (c : Nat) (r : Cannon) (ht : r.test = (s.cannon c).test)
    (hh : ∀ l n, r.held.map HeldCommand.command ≠ some (.trim l n)) : Moves A P s (s.setCannon c r) :=
  .steady (.setCannon s c r (fun h => ht ▸ h) (fun l n h => absurd h (hh l n)))

theorem State.place_moves (s : State) (c : Nat) (k : LineCommand) (hk : ∀ l n, k = .trim l n → A l n) :
    Moves A P s (s.place c k) := by
  have held : Moves A P s (s.setCannon c { s.cannon c with held := some ⟨k, s.line.heldSerial⟩ }) :=
    .steady (.setCannon s c _ id (fun l n h => .inr (hk l n (by simpa using h))))
  exact held.trans (.level (by simp [Level]))

theorem State.placeStop_moves (s : State) (c : Nat) : Moves A P s (s.place c .stop) :=
  s.place_moves c .stop (fun _ _ h => by cases h)

theorem State.askRecord_moves (s : State) (k : RecordKind) (a v : Nat) (b : Option Band) :
    Moves A P s (s.askRecord k a v b) := .level (by simp [Level])

theorem flushCannon_steady (s : State) (c : Nat) : Steady A s (flushCannon s c) := by
  unfold flushCannon
  split
  · split
    · exact .setCannon_same s c _ rfl rfl
    · split
      · exact (Steady.level (by simp [Level, State.notice])).trans (.setCannon_same (s.notice _ _) c _ rfl rfl)
      · exact .refl A s
  · exact .refl A s

theorem State.flushCannons_moves (s : State) : Moves A P s s.flushCannons :=
  .foldl _ (fun t c => .steady (flushCannon_steady t c)) _ s

theorem State.makeHoldEnded_moves (s : State) (h : HoldEnded) : Moves A P s (s.makeHoldEnded h) := .level (by simp [Level])

theorem State.makeClaimExpired_moves (s : State) (m : Nat) : Moves A P s (s.makeClaimExpired m) := .level (by simp [Level])

theorem State.makeSprayDone_moves (s : State) (d : SprayDone) : Moves A P s (s.makeSprayDone d) := .level (by simp [Level])

theorem State.setBed_moves (s : State) (b : Nat) (r : Bed) (h : r.hold = (s.bed b).hold) : Moves A P s (s.setBed b r) :=
  .steady (.setBed s b r h)

theorem State.judgeAtRisk_steady (s : State) (b : Nat) : Steady A s (s.judgeAtRisk b) := by
  unfold State.judgeAtRisk
  dsimp only
  split
  · split
    · exact .refl A s
    · exact (Steady.setBed s b { s.bed b with cappedAtRisk := true } rfl).trans (.level (by simp [Level]))
  · exact .setBed s b _ rfl

theorem State.judgeAtRisk_moves (s : State) (b : Nat) : Moves A P s (s.judgeAtRisk b) := .steady (s.judgeAtRisk_steady b)

theorem State.removeHold_moves (s : State) (b : Nat) : Moves A P s (s.removeHold b) := by
  have unheld : Moves A P s (s.setBed b { s.bed b with hold := none, cappedAtRisk := false }) := .unhold s b _ rfl
  refine (unheld.trans ?_).trans (State.cause_moves _)
  unfold uncountStart
  split
  · rename_i o ho
    split
    · rename_i st hst
      refine .recount ho hst ?_ .uncounted
      rw [State.bed_setBed]
      split
      · rfl
      · rename_i h
        rw [s.bed_outside (by simpa using h)]
        rfl
    · exact .refl _
  · exact .refl _

theorem State.endHold_moves (s : State) (b : Nat) : Moves A P s (s.endHold b) := by
  unfold State.endHold
  split
  · exact (s.removeHold_moves b).trans (State.makeHoldEnded_moves ..)
  · exact .refl s

/-! ### The end of an order and of a start -/

theorem State.removeOrder_hold (s : State) (o : Order) (k : OrderOutcome) (b : Nat) :
    ((s.removeOrder o k).bed b).hold = (s.bed b).hold := (s.removeOrder_aside o k).hold b

theorem State.removeOrder_moves {s : State} {o : Order} (ho : s.order o.bed = some o) (hw : o.state = .waiting)
    (k : OrderOutcome) : Moves A P s (s.removeOrder o k) := by
  have left : Moves A P s (({ s with disp := { s.disp with orders := ordersWithout o.bed s.disp.orders } } : State).setBed o.bed
      { s.bed o.bed with waterShort := false }) := (Moves.drop ho hw).trans (State.setBed_moves _ _ _ rfl)
  unfold State.removeOrder
  dsimp only
  split
  · exact left.trans (State.makeSprayDone_moves ..)
  · exact left

theorem State.removeOrder_settled (s : State) (o : Order) (k : OrderOutcome) : Settled A s (s.removeOrder o k) o.bed :=
  ⟨.of (by simp) (by simp) (by simp) (by simp) (by simp) (by simp), s.removeOrder_hold o k, .inl (s.removeOrder_orders o k),
    by simp⟩

theorem State.putOrder_settled (s : State) (p : Order) (hs : p.start = none) (hw : p.state = .waiting) :
    Settled A s (s.putOrder p) p.bed :=
  ⟨.of rfl rfl rfl rfl rfl id, fun _ => rfl, .inr ⟨p, rfl, hs, hw, rfl⟩, rfl⟩

theorem State.settleEnded_settled (s : State) (q : Order) (hs : q.start = none) : Settled A s (s.settleEnded q) q.bed := by
  unfold State.settleEnded
  split
  · exact s.removeOrder_settled ..
  · split
    · exact s.removeOrder_settled ..
    · exact s.putOrder_settled { q with state := .waiting, blocked := none, waitStart := s.osc } hs rfl

theorem State.settleRefused_settled (s : State) (q : Order) (hs : q.start = none) : Settled A s (s.settleRefused q) q.bed := by
  unfold State.settleRefused
  split
  · exact s.removeOrder_settled ..
  · split
    · exact s.removeOrder_settled ..
    · exact s.putOrder_settled { q with state := .waiting, blocked := none } hs rfl

theorem State.endDrain_moves (s : State) (f : Bool) : Moves A P s (s.endDrain f) := by
  unfold State.endDrain
  split
  · exact .steady ⟨.of rfl rfl rfl rfl rfl (fun _ => rfl), fun _ => rfl, rfl, fun w => by cases w <;> rfl,
      fun w => by cases w <;> rfl, rfl⟩
  · exact .steady ⟨.of rfl rfl rfl rfl rfl (fun _ => rfl), fun _ => rfl, rfl, fun w => by cases w <;> rfl,
      fun w => by cases w <;> rfl, rfl⟩

theorem State.checkDrained_moves (s : State) : Moves A P s s.checkDrained := by
  unfold State.checkDrained
  split
  · exact s.endDrain_moves false
  · exact .refl s

theorem heldAfterStart_trim {h : Option HeldCommand} {l n : Nat}
    (e : (heldAfterStart h).map HeldCommand.command = some (.trim l n)) : h.map HeldCommand.command = some (.trim l n) := by
  unfold heldAfterStart at e
  split at e
  · cases e
  · cases e
  · exact e

theorem State.freeCannon_steady (s : State) (c : Nat) : Steady A s (s.freeCannon c) :=
  .setCannon s c _ id (fun _ _ h => .inl (heldAfterStart_trim h))

theorem State.chargeStart_around (s : State) (b : Nat) (o : Order) (st : Start) (d : Nat) :
    Around A s (s.chargeStart b o st d) := by
  obtain ⟨u, hu, hline⟩ := s.chargeStart_line b o st d
  have freed : Around A u (u.freeCannon st.cannon) := (u.freeCannon_steady st.cannon).toAround
  have ctrl : (s.chargeStart b o st d).ctrl.mode = s.ctrl.mode ∧ (s.chargeStart b o st d).ctrl.drain = s.ctrl.drain := by
    have charged : (s.chargeSource st.source st.volume d).ctrl = s.ctrl := by cases st.source <;> rfl
    unfold State.chargeStart State.chargeTally State.chargeBed State.freeCannon
    dsimp only
    split <;> split <;> simp [charged]
  refine ⟨s.chargeStart_conf b o st d, by rw [State.chargeStart_beds]; simp, fun c h => ?_, fun l n h => ?_,
    fun h => ctrl.1.trans h, fun h => ctrl.2.trans h⟩
  · rw [State.cannon_congr (congrArg Line.cannons hline)] at h
    rw [← State.cannon_congr (congrArg Line.cannons hu)]
    exact freed.tests c h
  · rw [State.asksTrim_congr (congrArg Line.cannons hline) (congrArg Line.transaction hline)] at h
    rw [← State.asksTrim_congr (congrArg Line.cannons hu) (congrArg Line.transaction hu)]
    exact freed.asks l n h

theorem State.chargeStart_charged (s : State) (b : Nat) (o : Order) (st : Start) (d : Nat) :
    Charged A s (s.chargeStart b o st d) b st d := by
  have source := State.source_congr (s.chargeStart_water b o st d)
  refine ⟨s.chargeStart_around b o st d, fun a ha => by rw [s.chargeStart_bed_ne b o st d ha], ⟨st.counted d, le_rfl, ?_⟩,
    s.chargeStart_orders b o st d, ?_, ?_, fun w hw => ?_, ?_⟩
  · by_cases h : 1 ≤ b ∧ b ≤ 32
    · obtain ⟨x, e⟩ := s.chargeStart_bed b o st d h.1 h.2
      rw [e]
    · rw [State.bed_outside _ h, State.bed_outside _ h]
      rfl
  · rw [source, State.chargeSource_source]
  · rw [source, State.chargeSource_source]
  · rw [source, State.chargeSource_source_ne _ _ _ hw]
    exact ⟨rfl, rfl⟩
  · rw [s.chargeStart_water, State.chargeSource_today]

/-- A start released without delivery, its cannon free. -/
theorem State.releaseWater_charged (s : State) (b : Nat) (st : Start) :
    Charged A s ((s.releaseWater st.source st.volume).freeCannon st.cannon) b st 0 := by
  have freed := State.freeCannon_steady (A := A) (s.releaseWater st.source st.volume) st.cannon
  have released : Around A s (s.releaseWater st.source st.volume) := by
    cases h : st.source <;> exact .of rfl rfl rfl rfl rfl id
  have hold : ∀ a, ((s.releaseWater st.source st.volume).bed a).hold = (s.bed a).hold := fun a => by
    cases st.source <;> rfl
  refine ⟨released.trans freed.toAround, fun a _ => (freed.hold a).trans (hold a), ⟨0, Nat.zero_le _, ?_⟩, ?_, ?_, ?_, ?_, ?_⟩
  · rw [freed.hold, hold]
    cases (s.bed b).hold <;> rfl
  · rw [freed.orders, State.releaseWater_disp]
  all_goals cases h : st.source
  all_goals first
    | rfl
    | intro w hw
      cases w <;> first | exact ⟨rfl, rfl⟩ | exact absurd rfl hw

/-- The end of a start within its volume. -/
theorem State.endStart_moves (s : State) (b d : Nat)
    (within : s.oneOrderPerBed → ∀ o st, s.order b = some o → o.start = some st → d ≤ st.volume) :
    Moves A P s (s.endStart b d) := by
  cases ho : s.order b with
  | none => rw [State.endStart, ho]; exact .refl s
  | some o =>
    cases hs : o.start with
    | none => rw [State.endStart, ho]; dsimp only; rw [hs]; exact .refl s
    | some st =>
      rw [State.endStart_eq ho hs]
      refine ((Moves.ends ho hs (fun h => within h o st ho hs) (s.chargeStart_charged b o st d) ?_).trans
        (State.cause_moves _)).trans (State.checkDrained_moves _)
      have bed : (o.afterStart (deliveredSum s.freeCount o.delivered d) d).bed = b := (State.order_mem ho).2
      exact bed ▸ State.settleEnded_settled _ _ rfl

theorem State.refuseStart_moves (s : State) (b : Nat) : Moves A P s (s.refuseStart b) := by
  unfold State.refuseStart
  split
  · exact .refl s
  · rename_i o ho
    split
    · exact .refl s
    · rename_i st hs
      obtain ⟨_, rfl⟩ := State.order_mem ho
      exact ((Moves.ends ho hs (fun _ => Nat.zero_le _) (s.releaseWater_charged o.bed st)
        (State.settleRefused_settled _ { o with start := none } rfl)).trans (State.cause_moves _)).trans
        (State.checkDrained_moves _)

/-! ### Figures of a start -/

theorem State.acknowledgeStart_moves (s : State) (b : Nat) : Moves A P s (s.acknowledgeStart b) := by
  unfold State.acknowledgeStart
  split
  · exact .refl s
  · rename_i o ho
    split
    · exact .refl s
    · rename_i st hst
      refine .put ho _ rfl ?_ (by simp [hst, Start.terms])
      cases hs : o.state <;> simp

theorem State.setDelivered_moves (s : State) (b d : Nat) : Moves A P s (s.setDelivered b d) := by
  unfold State.setDelivered
  split
  · exact .refl s
  · rename_i o ho
    split
    · exact .refl s
    · rename_i st hst
      exact .put ho _ rfl .rfl (by simp [hst, Start.terms])

/-- A TRIM's reply is taken: of a TRIM that was asked for, and not below the hold point where `P` says so. -/
theorem State.takeTrim_moves (s : State) (b dt l n : Nat) (asked : A l n)
    (ahead : P → ∀ o st, s.order b = some o → o.start = some st → min st.holdPoint st.volume ≤ dt) :
    Moves A P s (s.takeTrim b dt l n) := by
  unfold State.takeTrim
  split
  · exact .refl s
  · rename_i o ho
    split
    · exact .refl s
    · rename_i st hst
      have put := Moves.trim (A := A) (P := P) ho hst dt l n asked (fun hp => ahead hp o st ho hst)
      dsimp only
      split
      · exact put.trans (State.cause_moves _)
      · exact put

theorem State.endTest_moves (s : State) (c d : Nat) (h : d ≠ 0 → (s.cannon c).test ≠ .none) : Moves A P s (s.endTest c d) :=
  .test s c d h

theorem State.endTestUncharged_moves (s : State) (c : Nat) : Moves A P s (s.endTest c 0) := .test s c 0 (fun h => absurd rfl h)

/-! ### Commands for a cannon -/

theorem State.refuseOn_moves (s : State) (c : Nat) : Moves A P s (s.refuseOn c) := by
  unfold State.refuseOn
  split
  · exact s.refuseStart_moves _
  · exact .refl s

theorem State.askStop_moves (s : State) (c : Nat) : Moves A P s (s.askStop c) := by
  unfold State.askStop
  split
  · exact .refl s
  · exact (s.placeStop_moves c).trans (State.refuseOn_moves ..)
  · exact (s.placeStop_moves c).trans (State.endTestUncharged_moves ..)
  · exact s.placeStop_moves c

theorem State.stopOrder_moves (s : State) (b : Nat) (e : Option OrderOutcome) : Moves A P s (s.stopOrder b e) := by
  unfold State.stopOrder
  split
  · exact .refl s
  · rename_i o ho
    split
    · rename_i hr
      have waiting : (o.stopped e).state = .waiting ↔ o.state = .waiting := by
        cases hs : o.state <;> simp_all [Order.stopped, Order.running]
      have put : Moves A P s (s.putOrder (o.stopped e)) := .put ho _ rfl waiting rfl
      split
      · exact put.trans (State.askStop_moves ..)
      · exact put
    · exact .refl s

theorem State.stopWhere_moves (s : State) (p : Order → Bool) : Moves A P s (s.stopWhere p) :=
  .foldl _ (fun t b => t.stopOrder_moves b none) _ s

/-! ### Cannon activity and the fault score -/

theorem State.setActivity_moves (s : State) (c : Nat) (a : CannonActivity) : Moves A P s (s.setActivity c a) := by
  unfold State.setActivity
  dsimp only
  split
  · exact (s.setCannon_moves c _ (by rfl) (by rfl)).trans (State.cause_moves _)
  · exact s.setCannon_moves c _ rfl rfl

theorem State.showActivity_moves (s : State) (c : Nat) (a : CannonActivity) : Moves A P s (s.showActivity c a) := by
  unfold State.showActivity
  split
  · exact .refl s
  · exact s.setActivity_moves c a

theorem State.goodTransaction_moves (s : State) (c : Nat) : Moves A P s (s.goodTransaction c) := by
  unfold State.goodTransaction
  dsimp only
  split
  · exact .refl s
  · exact s.setCannon_moves c _ rfl rfl

theorem State.noteGoodReply_moves (s : State) (c : Nat) : Moves A P s (s.noteGoodReply c) := s.setCannon_moves c _ rfl rfl

theorem State.unholdCannon_moves (s : State) (c : Nat) : Moves A P s (s.setCannon c { s.cannon c with held := none }) :=
  s.holdCannon_moves c _ rfl (fun _ _ h => by cases h)

theorem State.dropHeld_moves (s : State) (c : Nat) : Moves A P s (s.dropHeld c) := by
  unfold State.dropHeld
  dsimp only
  split
  · exact (s.unholdCannon_moves c).trans (State.refuseOn_moves ..)
  · exact (s.unholdCannon_moves c).trans (State.endTestUncharged_moves ..)
  · exact s.unholdCannon_moves c

theorem State.estimateStart_moves (s : State) (c t : Nat) : Moves A P s (s.estimateStart c t) := by
  unfold State.estimateStart
  split
  · exact .refl s
  · rename_i o ho
    split
    · exact .refl s
    · rename_i st hst
      split
      · refine s.endStart_moves _ _ (fun hn q qst hq hqst => ?_)
        rw [State.order_of_mem hn (State.startOn_mem ho)] at hq
        injection hq with hq
        rw [← hq, hst] at hqst
        injection hqst with hqst
        rw [← hqst]
        exact min_le_left _ _
      · exact s.refuseStart_moves _

theorem State.estimateTest_moves (s : State) (c : Nat) : Moves A P s (s.estimateTest c) := by
  unfold State.estimateTest
  split
  · exact .refl s
  · exact s.endTestUncharged_moves c
  · rename_i h
    exact s.endTest_moves c _ (fun _ => by rw [h]; simp)

theorem State.closeEstimate_moves (s : State) (c : Nat) : Moves A P s (s.closeEstimate c) := by
  unfold State.closeEstimate
  dsimp only
  split
  · split
    · exact .refl s
    · split
      · exact s.placeStop_moves c
      · exact s.unholdCannon_moves c
  · split
    · exact s.unholdCannon_moves c
    · exact (s.unholdCannon_moves c).trans (State.setActivity_moves ..)

theorem State.endByEstimate_moves (s : State) (c t : Nat) : Moves A P s (s.endByEstimate c t) :=
  ((s.estimateStart_moves c t).trans (State.estimateTest_moves _ c)).trans (State.closeEstimate_moves _ c)

theorem State.goOut_moves (s : State) (c : Nat) : Moves A P s (s.goOut c) := by
  have out : Moves A P s ((s.setCannon c { s.cannon c with streak := 0 }).setActivity c .outOfService) :=
    (s.setCannon_moves c _ (by rfl) (by rfl)).trans (State.setActivity_moves _ c .outOfService)
  unfold State.goOut
  dsimp only
  refine Moves.trans ?_ (State.askRecord_moves ..)
  refine Moves.trans ?_ (State.unholdCannon_moves ..)
  split
  · exact out.trans (State.endByEstimate_moves ..)
  · exact out

theorem State.scoreEvent_moves (s : State) (c : Nat) (f : CannonFault) (n : Nat) : Moves A P s (s.scoreEvent c f n) := by
  unfold State.scoreEvent
  dsimp only
  split
  · split
    · exact s.setCannon_moves c _ rfl rfl
    · exact (s.setCannon_moves c _ (by rfl) (by rfl)).trans (State.goOut_moves _ c)
  · exact s.setCannon_moves c _ rfl rfl

theorem State.scoreBadState_moves (s : State) (c : Nat) : Moves A P s (s.scoreBadState c) := s.scoreEvent_moves c _ _

theorem State.scoreMiss_moves (s : State) (c : Nat) (f : CannonFault) : Moves A P s (s.scoreMiss c f) := by
  unfold State.scoreMiss
  split
  · exact .refl s
  · exact s.scoreEvent_moves c f _

theorem State.goLocal_moves (s : State) (c : Nat) : Moves A P s (s.goLocal c) :=
  ((s.setCannon_moves c _ (by rfl) (by rfl)).trans (State.dropHeld_moves _ c)).trans (State.showActivity_moves ..)

end
end Sys2Proof.Machine
end

section
/-! SUPPORT. Moves ask no TRIM and rewrite no start volume of their own: the delivered figure of a reply stays within the start that
it ends, and the events of the cannon line are courses of moves (Machine/CannonLine.lean). -/

namespace Sys2Proof.Machine

/-! ### The starts that moves without a TRIM leave -/

/-- What names a start and bounds it: its bed, its cannon, its grant, its volume and its source. -/
def Order.startKey (o : Order) : Option (Nat × Nat × Nat × Nat × WaterSource) :=
  o.start.map (fun st => (o.bed, st.cannon, st.sequence, st.volume, st.source))

/-- The keys of the starts in progress. -/
def startKeysOf (l : List Order) : List (Nat × Nat × Nat × Nat × WaterSource) := l.filterMap Order.startKey

theorem startKeysOf_subperm {l m : List Order} (h : l.Subperm m) : (startKeysOf l).Subperm (startKeysOf m) := by
  obtain ⟨k, hp, hs⟩ := h
  exact ⟨startKeysOf k, hp.filterMap _, hs.filterMap _⟩

theorem Order.startKey_congr {p q : Order} (hb : p.bed = q.bed) (hs : p.start.map Start.terms = q.start.map Start.terms) :
    p.startKey = q.startKey := by
  unfold Order.startKey
  cases hp : p.start <;> cases hq : q.start <;> simp [hp, hq] at hs ⊢
  exact ⟨hb, Start.terms_cannon hs, Start.terms_sequence hs, Start.terms_volume hs, Start.terms_source hs⟩

/-- A write of the order of a bed that keeps its key, or has none. -/
theorem startKeysOf_put {s : State} {b : Nat} {o : Order} (h : s.order b = some o) {p : Order} (hb : p.bed = o.bed)
    (hk : p.startKey = o.startKey) : (startKeysOf (s.putOrder p).disp.orders).Subperm (startKeysOf s.disp.orders) := by
  obtain ⟨hm, _⟩ := State.order_mem h
  refine (startKeysOf_subperm (insertOrder_perm p _).subperm).trans ?_
  have := startKeysOf_subperm (cons_ordersWithout_subperm hm)
  rw [hb]
  unfold startKeysOf at this ⊢
  rw [List.filterMap_cons] at this ⊢
  rw [hk]
  exact this

theorem startKeysOf_insert {p : Order} (hs : p.start = none) (b : Nat) (l : List Order) :
    (startKeysOf (insertOrder p (ordersWithout b l))).Subperm (startKeysOf l) := by
  refine (startKeysOf_subperm (insertOrder_perm p _).subperm).trans ?_
  unfold startKeysOf
  rw [List.filterMap_cons, show p.startKey = none by simp [Order.startKey, hs]]
  exact startKeysOf_subperm List.filter_sublist.subperm

/-- Moves that take no TRIM's reply begin no start and rewrite no volume. -/
theorem Moves.startKeys {P : Prop} {s t : State} (h : Moves (fun _ _ => False) P s t) :
    (startKeysOf t.disp.orders).Subperm (startKeysOf s.disp.orders) := by
  induction h with
  | steady h => rw [h.orders]
  | trans _ _ ih1 ih2 => exact ih2.trans ih1
  | pour s w n => simpa using List.Subperm.refl _
  | dawn s => exact .refl _
  | put h p bed _ start => exact startKeysOf_put h bed (Order.startKey_congr bed start)
  | create p _ start => exact startKeysOf_insert start _ _
  | drop h => exact startKeysOf_subperm List.filter_sublist.subperm
  | fault s =>
    have e : Order.startKey ∘ Order.faulted = Order.startKey := by
      funext o
      simp only [Function.comp_apply, Order.faulted]
      split <;> rfl
    dsimp only [startKeysOf]
    rw [List.filterMap_map, e]
  | unhold s b r => exact .refl _
  | recount h start hold k =>
    exact startKeysOf_put h rfl (by simp [Order.startKey, start])
  | cap hold n => exact .refl _
  | ends h start within charged settled =>
    rw [← charged.orders]
    rcases settled.orders with e | ⟨p, _, hs, _, e⟩ <;> rw [e]
    · exact startKeysOf_subperm List.filter_sublist.subperm
    · exact startKeysOf_insert hs _ _
  | trim h start dt limit n asked => exact asked.elim
  | test s c d => exact .refl _

/-- With one start per cannon, the order whose start uses a cannon is the one found. -/
theorem startOn_of_mem {l : List Order} (hn : (l.filterMap (fun o => o.start.map Start.cannon)).Nodup) {o : Order}
    (ho : o ∈ l) {st : Start} (hs : o.start = some st) :
    l.find? (fun q => match q.start with
      | some r => r.cannon == st.cannon
      | none => false) = some o := by
  induction l with
  | nil => cases ho
  | cons x rest ih =>
    rw [List.filterMap_cons] at hn
    rw [List.find?_cons]
    rcases List.mem_cons.mp ho with rfl | ho
    · simp [hs]
    · have used : st.cannon ∈ rest.filterMap (fun o => o.start.map Start.cannon) :=
        List.mem_filterMap.mpr ⟨o, ho, by simp [hs]⟩
      cases hx : x.start with
      | none =>
        rw [hx] at hn
        exact ih hn ho
      | some r =>
        rw [hx] at hn
        obtain ⟨hr, hn⟩ := List.nodup_cons.mp hn
        have : (r.cannon == st.cannon) = false := by simpa using fun e : r.cannon = st.cannon => hr (e.symm ▸ used)
        simp only [this]
        exact ih hn ho

theorem State.startOn_eq {s : State} (hn : s.startCannons.Nodup) {o : Order} (ho : o ∈ s.disp.orders) {st : Start}
    (hs : o.start = some st) : s.startOn st.cannon = some o := startOn_of_mem hn ho hs

/-- The order of a cannon has a start that uses it. -/
theorem State.startOn_start {s : State} {c : Nat} {o : Order} (h : s.startOn c = some o) :
    ∃ st, o.start = some st ∧ st.cannon = c := by
  have := List.find?_some h
  cases hs : o.start with
  | none => simp [hs] at this
  | some st => exact ⟨st, rfl, by simpa [hs] using this⟩

theorem State.startOf_some {s : State} {x : Transaction} {o : Order} (h : s.startOf x = some o) :
    s.startOn x.cannon = some o ∧ ∃ st, o.start = some st ∧ st.cannon = x.cannon ∧ x.sequence = some st.sequence := by
  unfold State.startOf at h
  split at h
  · rename_i q hq
    split at h
    · rename_i hseq
      injection h with h
      subst h
      obtain ⟨st, hs, hc⟩ := State.startOn_start hq
      exact ⟨hq, st, hs, hc, by rw [← hseq, hs]; rfl⟩
    · cases h
  · cases h

/-- A start still served after such moves was served before them, with the same volume. -/
theorem State.startOf_before {P : Prop} {s u : State} (hn : s.startCannons.Nodup) (hm : Moves (fun _ _ => False) P s u)
    {x : Transaction} {o : Order} {st : Start} (h : u.startOf x = some o) (hs : o.start = some st) :
    ∃ q qst, s.startOf x = some q ∧ q.start = some qst ∧ q.bed = o.bed ∧ qst.volume = st.volume := by
  obtain ⟨hon, st', hst', hc, hseq⟩ := State.startOf_some h
  obtain rfl : st' = st := Option.some.inj (hst'.symm.trans hs)
  have key : (o.bed, st'.cannon, st'.sequence, st'.volume, st'.source) ∈ startKeysOf u.disp.orders :=
    List.mem_filterMap.mpr ⟨o, State.startOn_mem hon, by simp [Order.startKey, hs]⟩
  obtain ⟨q, hq, e⟩ := List.mem_filterMap.mp (hm.startKeys.subset key)
  cases hqs : q.start with
  | none => simp [Order.startKey, hqs] at e
  | some qst =>
    simp only [Order.startKey, hqs, Option.map_some, Option.some.injEq, Prod.mk.injEq] at e
    obtain ⟨hbed, hcannon, hsequence, hvolume, _⟩ := e
    refine ⟨q, qst, ?_, hqs, hbed, hvolume⟩
    have on : s.startOn x.cannon = some q := by rw [← hc, ← hcannon]; exact State.startOn_eq hn hq hqs
    exact State.startOf_served on hqs (by rw [hseq, hsequence])

/-- The delivered figure of a reply lies within the start that is still served (R149, R155). -/
theorem State.figure_within {P : Prop} {s u : State} (hn : s.startCannons.Nodup) (hm : Moves (fun _ _ => False) P s u)
    {x : Transaction} (m : Nat) {o : Order} {st : Start} (h : u.startOf x = some o) (hs : o.start = some st) :
    s.figure x m ≤ st.volume := by
  obtain ⟨q, qst, hq, hqs, _, hvolume⟩ := State.startOf_before hn hm h hs
  unfold State.figure servedVolume
  rw [hq]
  simp [hqs, hvolume]

section
variable {A : Nat → Nat → Prop} {P : Prop}

/-! ### The end of a transaction -/

/-- The transaction in flight leaves the line. -/
theorem State.quietLine_steady (s : State) (l : Line) (hc : l.cannons = s.line.cannons) (ht : l.transaction = none) :
    Steady A s { s with line := l } := by
  refine ⟨⟨rfl, rfl, fun c => by rw [State.cannon_congr (t := { s with line := l }) hc]; exact id, fun k n h => .inl ?_, id, id⟩,
    fun _ => rfl, rfl, fun w => by cases w <;> rfl, fun w => by cases w <;> rfl, rfl⟩
  rcases h with ⟨c, h⟩ | h
  · exact .inl ⟨c, by rwa [State.cannon_congr (t := { s with line := l }) hc] at h⟩
  · simp [ht] at h

theorem State.endTransaction_moves (s : State) (x : Transaction) : Moves A P s (s.endTransaction x) := by
  have quiet := s.quietLine_steady (A := A) { s.line with transaction := none } rfl rfl
  exact .steady (quiet.trans (.setCannon_same _ _ _ rfl rfl))

/-- A served start ends with a figure within its volume. -/
theorem State.endServed_moves (s : State) (x : Transaction) (d : Nat)
    (within : ∀ o st, s.startOf x = some o → o.start = some st → d ≤ st.volume) : Moves A P s (s.endServed x d) := by
  unfold State.endServed
  split
  · rename_i o ho
    refine s.endStart_moves _ _ (fun hn q qst hq hqst => ?_)
    rw [State.order_of_mem hn (State.startOn_mem (State.startOf_some ho).1)] at hq
    injection hq with hq
    exact within o qst ho (hq ▸ hqst)
  · exact .refl s

theorem State.endBegunTest_moves (s : State) (c d : Nat) : Moves A P s (s.endBegunTest c d) := by
  unfold State.endBegunTest State.testBegun
  split
  · rename_i h
    exact s.endTest_moves c d (fun _ => by simp at h; exact h.1)
  · exact .refl s

theorem State.noteReply_moves (s : State) (x : Transaction) : Moves A P s (s.noteReply x) := by
  unfold State.noteReply
  split
  · exact s.noteGoodReply_moves _
  · exact .refl s

theorem State.afterMiss_moves (s : State) (x : Transaction) (asked : ∀ l n, x.command = .trim l n → A l n) :
    Moves A P s (s.afterMiss x) := by
  unfold State.afterMiss
  split
  · exact s.askStop_moves _
  · exact s.askStop_moves _
  · exact s.askStop_moves _
  · rename_i l n hx
    split
    · exact .refl s
    · exact .refl s
    · exact s.place_moves _ _ (fun a b e => asked a b (hx.trans e))
  · exact .refl s

theorem State.missed_moves (s : State) (x : Transaction) (f : CannonFault) (asked : ∀ l n, x.command = .trim l n → A l n) :
    Moves A P s (s.missed x f) := by
  unfold State.missed
  dsimp only
  split
  · exact s.scoreMiss_moves ..
  · exact (s.scoreMiss_moves ..).trans (State.afterMiss_moves _ x asked)

theorem State.meterFault_moves (s : State) (c b v m : Nat) : Moves A P s (s.meterFault c b v m) := by
  unfold State.meterFault
  dsimp only
  split
  · exact s.setDelivered_moves b v
  · refine Moves.trans ?_ (State.askRecord_moves ..)
    exact ((s.setDelivered_moves b v).trans (State.setCannon_moves _ c _ (by rfl) (by rfl))).trans (State.scoreEvent_moves ..)

theorem State.judgeMeter_moves (s : State) (x : Transaction) (m : Nat) : Moves A P s (s.judgeMeter x m) := by
  unfold State.judgeMeter
  split
  · split
    · exact s.meterFault_moves ..
    · exact .refl s
  · exact .refl s

theorem State.goodUnless_moves (s : State) (c : Nat) (e : Bool) : Moves A P s (s.goodUnless c e) := by
  unfold State.goodUnless
  split
  · exact .refl s
  · exact s.goodTransaction_moves c

/-! ### What each reply does -/

theorem State.pingOutOfService_moves (s : State) (c : Nat) (r : Reply) : Moves A P s (s.pingOutOfService c r) := by
  unfold State.pingOutOfService
  split
  · dsimp only
    split
    · exact (s.setCannon_moves c _ (by rfl) (by rfl)).trans (State.setActivity_moves ..)
    · exact s.setCannon_moves c _ rfl rfl
  · exact s.goLocal_moves c
  · exact (s.scoreBadState_moves c).trans (State.askStop_moves ..)
  · exact s.scoreBadState_moves c

theorem State.takePing_moves (s : State) (x : Transaction) (r : Reply) : Moves A P s (s.takePing x r) := by
  have good : Moves A P s (s.goodPing x.cannon) := by
    unfold State.goodPing
    split
    · exact .refl s
    · exact s.goodTransaction_moves _
  unfold State.takePing
  dsimp only
  split
  · exact s.pingOutOfService_moves ..
  · split
    · exact good.trans (State.setActivity_moves ..)
    · exact s.goLocal_moves _
    · exact ((s.scoreBadState_moves _).trans (State.showActivity_moves ..)).trans (State.askStop_moves ..)
    · exact s.scoreBadState_moves _

theorem State.refuseDropping_moves (s : State) (x : Transaction) : Moves A P s (s.refuseDropping x) := by
  unfold State.refuseDropping
  split
  · exact (s.refuseStart_moves _).trans (State.unholdCannon_moves ..)
  · exact .refl s

theorem State.takeStart_moves (s : State) (x : Transaction) (r : Reply) : Moves A P s (s.takeStart x r) := by
  unfold State.takeStart
  dsimp only
  split
  · have shown : Moves A P s ((s.goodTransaction x.cannon).showActivity x.cannon .spraying) :=
      (s.goodTransaction_moves x.cannon).trans (State.showActivity_moves ..)
    split
    · exact (shown.trans (State.noteGoodReply_moves ..)).trans (State.acknowledgeStart_moves ..)
    · exact shown
  · exact (s.refuseDropping_moves x).trans (State.goLocal_moves ..)
  · exact (s.refuseDropping_moves x).trans (State.scoreBadState_moves ..)

theorem State.takePoll_moves {s : State} (hn : s.startCannons.Nodup) (x : Transaction) (r : Reply) :
    Moves A P s (s.takePoll x r) := by
  have judged : ∀ B, Moves B P s (s.judgeMeter x r.meter) := fun B => s.judgeMeter_moves x r.meter
  have good := fun B => (judged B).trans (State.goodUnless_moves _ x.cannon (s.overMeter x r.meter))
  have served : ∀ u, (∀ B, Moves B P s u) → Moves A P s (u.endServed x (s.figure x r.meter)) := fun u hu =>
    (hu A).trans (u.endServed_moves x _ (fun _ _ ho hst => State.figure_within hn (hu _) _ ho hst))
  unfold State.takePoll
  dsimp only
  split
  · split
    · rename_i o _
      have noted := ((good A).trans (State.setDelivered_moves _ o.bed (s.figure x r.meter))).trans
        (State.noteGoodReply_moves _ x.cannon)
      split
      · exact noted.trans (State.askStop_moves ..)
      · exact noted
    · exact (good A).trans (State.noteReply_moves ..)
  · exact (served _ (fun B => (good B).trans (State.showActivity_moves ..))).trans (State.endBegunTest_moves ..)
  · exact ((served _ judged).trans (State.endBegunTest_moves ..)).trans (State.goLocal_moves ..)
  · exact ((served _ (fun B => (judged B).trans (State.showActivity_moves ..))).trans (State.endBegunTest_moves ..)).trans
      (State.scoreBadState_moves ..)

theorem State.goodTransaction_disp (s : State) (c : Nat) : (s.goodTransaction c).disp = s.disp := by
  unfold State.goodTransaction
  dsimp only
  split <;> rfl

theorem State.startOf_congr {s t : State} (h : t.disp.orders = s.disp.orders) (x : Transaction) : t.startOf x = s.startOf x := by
  unfold State.startOf
  rw [State.startOn_congr h]

/-- A TRIM's reply is not below the hold point of the start it serves, or counts as the start's volume (R107, R155). -/
theorem State.trim_ahead {s u : State} (hn : s.startCannons.Nodup) (h1 : s.oneOrderPerBed) {x : Transaction} {m : Nat}
    (hu : u = (s.judgeMeter x m).goodUnless x.cannon (s.overMeter x m))
    (meter : ∀ o st, s.startOf x = some o → s.order o.bed = some o → o.start = some st → st.holdPoint ≤ m) {o : Order}
    (ho : (s.judgeMeter x m).startOf x = some o) {q : Order} {st : Start} (hq : u.order o.bed = some q)
    (hs : q.start = some st) : min st.holdPoint st.volume ≤ s.figure x m := by
  have judged : ∀ B, Moves B True s (s.judgeMeter x m) := fun B => s.judgeMeter_moves x m
  have orders : u.disp.orders = (s.judgeMeter x m).disp.orders := by
    rw [hu, State.goodUnless]
    split
    · rfl
    · rw [State.goodTransaction_disp]
  have one : (s.judgeMeter x m).oneOrderPerBed := (s.judgeMeter_calm x m).oneOrder h1
  rw [State.order_congr orders, State.order_of_mem one (State.startOn_mem (State.startOf_some ho).1)] at hq
  obtain rfl : o = q := Option.some.inj hq
  obtain ⟨p, pst, hp, hps, _, hvolume⟩ := State.startOf_before hn (judged _) ho hs
  have figure : s.figure x m = min m st.volume := by
    unfold State.figure servedVolume
    rw [hp]
    simp [hps, hvolume]
  by_cases excess : pst.volume < m
  · omega
  · have still : s.judgeMeter x m = s := by
      unfold State.judgeMeter servedVolume
      rw [hp]
      simp [hps, excess]
    rw [still] at ho
    have := meter o st ho (State.order_of_mem h1 (State.startOn_mem (State.startOf_some ho).1)) hs
    omega

theorem State.takeTrimReply_moves {s : State} (hn : s.startCannons.Nodup) (h1 : s.oneOrderPerBed) (x : Transaction) (r : Reply)
    (asked : A x.command.trimLimit x.command.trimHold)
    (meter : P → ∀ o st, s.startOf x = some o → s.order o.bed = some o → o.start = some st → st.holdPoint ≤ r.meter) :
    Moves A P s (s.takeTrimReply x r) := by
  have judged : ∀ B, Moves B P s (s.judgeMeter x r.meter) := fun B => s.judgeMeter_moves x r.meter
  have good := fun B => (judged B).trans (State.goodUnless_moves _ x.cannon (s.overMeter x r.meter))
  have served : ∀ u, (∀ B, Moves B P s u) → Moves A P s (u.endServed x (s.figure x r.meter)) := fun u hu =>
    (hu A).trans (u.endServed_moves x _ (fun _ _ ho hst => State.figure_within hn (hu _) _ ho hst))
  unfold State.takeTrimReply
  dsimp only
  split
  · split
    · rename_i o ho
      have noted := (((good A).trans (State.takeTrim_moves _ o.bed (s.figure x r.meter) _ _ asked
        (fun hp q st hq hs => State.trim_ahead hn h1 rfl (meter hp) ho hq hs))).trans
        (State.setDelivered_moves _ o.bed (s.figure x r.meter))).trans (State.noteGoodReply_moves _ x.cannon)
      split
      · exact noted.trans (State.askStop_moves ..)
      · exact noted
    · exact good A
  · exact served _ (fun B => (good B).trans (State.showActivity_moves ..))
  · exact (served _ judged).trans (State.goLocal_moves ..)
  · exact (served _ (fun B => (judged B).trans (State.showActivity_moves ..))).trans (State.scoreBadState_moves ..)

theorem State.settleLostStart_moves (s : State) (x : Transaction) (m : Nat) : Moves A P s (s.settleLostStart x m) := by
  unfold State.settleLostStart
  split
  · split
    · exact s.acknowledgeStart_moves _
    · exact .refl s
  · exact .refl s

theorem State.settleLostStart_startCannons (s : State) (x : Transaction) (m : Nat) (hn : s.startCannons.Nodup) :
    (s.settleLostStart x m).startCannons.Nodup := by
  obtain ⟨k, hp, hs⟩ := (s.settleLostStart_moves (A := fun _ _ => False) (P := True) x m).startKeys
  have cannons : ∀ l : List Order, (startKeysOf l).map (fun k => k.2.1) = l.filterMap (fun o => o.start.map Start.cannon) := by
    intro l
    rw [startKeysOf, List.map_filterMap]
    congr 1
    funext o
    cases h : o.start <;> simp [Order.startKey, h]
  unfold State.startCannons at hn ⊢
  rw [← cannons] at hn ⊢
  exact (hp.map _).nodup_iff.mp (hn.sublist (hs.map _))

theorem State.stopConfirmed_moves {s : State} (hn : s.startCannons.Nodup) (x : Transaction) (m : Nat) :
    Moves A P s (s.stopConfirmed x m) := by
  have lost : Moves A P s (s.settleLostStart x m) := s.settleLostStart_moves x m
  have judged : ∀ B, Moves B P (s.settleLostStart x m) ((s.settleLostStart x m).judgeMeter x m) := fun B =>
    State.judgeMeter_moves ..
  unfold State.stopConfirmed State.confirmStop
  dsimp only
  refine (lost.trans (judged A)).trans ?_
  split
  · split
    · exact State.endServed_moves _ x _ (fun _ _ ho hst =>
        State.figure_within (s.settleLostStart_startCannons x m hn) (judged _) _ ho hst)
    · exact State.refuseDropping_moves ..
  · exact State.endBegunTest_moves ..

theorem State.takeStop_moves {s : State} (hn : s.startCannons.Nodup) (x : Transaction) (r : Reply) :
    Moves A P s (s.takeStop x r) := by
  have good : (s.goodUnless x.cannon (s.overMeter x r.meter)).startCannons.Nodup := by
    unfold State.goodUnless State.startCannons
    split
    · exact hn
    · rw [State.goodTransaction_disp]; exact hn
  unfold State.takeStop
  dsimp only
  split
  · exact ((s.goodUnless_moves ..).trans (State.stopConfirmed_moves good ..)).trans (State.showActivity_moves ..)
  · exact (State.stopConfirmed_moves hn ..).trans (State.goLocal_moves ..)
  · exact ((State.stopConfirmed_moves hn ..).trans (State.showActivity_moves ..)).trans (State.scoreBadState_moves ..)
  · have scored : Moves A P s (((s.noteReply x).judgeMeter x r.meter).scoreBadState x.cannon) :=
      ((s.noteReply_moves x).trans (State.judgeMeter_moves _ x r.meter)).trans (State.scoreBadState_moves _ x.cannon)
    split
    · exact scored
    · exact scored.trans (State.askStop_moves ..)

theorem State.takeTest_moves (s : State) (x : Transaction) (r : Reply) : Moves A P s (s.takeTest x r) := by
  unfold State.takeTest
  dsimp only
  split
  · have shown : Moves A P s ((s.goodTransaction x.cannon).showActivity x.cannon .spraying) :=
      (s.goodTransaction_moves x.cannon).trans (State.showActivity_moves ..)
    split
    · rename_i h
      refine shown.trans (.steady (.setCannon _ _ _ (fun _ => ?_) (fun _ _ => .inl)))
      rw [h]; simp
    · exact shown
  · exact (s.endBegunTest_moves ..).trans (State.goLocal_moves ..)
  · exact (s.endBegunTest_moves ..).trans (State.scoreBadState_moves ..)

/-- A reply is a course of moves when what is taken of it is one; the TRIMs that may be asked for hold those asked for before. -/
theorem State.replied_moves {s : State} (before : ∀ l n, s.asksTrim l n → A l n) (mine : LineCommand → Bool) (bytes : List Byte)
    (taken : State → Transaction → Reply → State)
    (h : ∀ x r, s.line.transaction = some x → mine x.command = true → x.sentAt.isSome = true →
      replyLength x.command ≤ bytes.length → judgeReply x.cannon x.command (bytes.take (replyLength x.command)) = some r →
      Moves A P (s.endTransaction x) (taken (s.endTransaction x) x r)) : Moves A P s (s.replied mine bytes taken) := by
  unfold State.replied
  split
  · exact .refl s
  · rename_i x hx
    split
    · rename_i hm
      refine Moves.trans ?_ (State.flushCannons_moves _)
      split
      · rename_i r hr
        exact (s.endTransaction_moves x).trans (h x r hx hm.1 hm.2.1 hm.2.2 hr)
      · exact (s.endTransaction_moves x).trans
          (State.missed_moves _ x _ (fun l n e => before l n (.inr (by rw [hx]; exact congrArg some e))))
    · exact .refl s

theorem State.timedOut_moves {s : State} (before : ∀ l n, s.asksTrim l n → A l n) (l : Nat) (f : CannonFault) :
    Moves A P s (s.timedOut l f) := by
  unfold State.timedOut
  split
  · rename_i x hx
    split
    · exact (((s.reach_moves _).trans (State.endTransaction_moves ..)).trans (State.missed_moves _ x _
        (fun l n e => before l n (.inr (by rw [hx]; exact congrArg some e))))).trans (State.flushCannons_moves _)
    · exact .refl s
  · exact .refl s

/-! ### The line's own events -/

/-- A TRIM that a transaction begins with was held. -/
theorem State.nextTransaction_trim {s : State} {c l n : Nat} (h : s.nextTransaction = some (c, .trim l n)) :
    (s.cannon c).held.map HeldCommand.command = some (.trim l n) := by
  have held : ∀ a, s.heldChoice a = some (c, .trim l n) → (s.cannon c).held.map HeldCommand.command = some (.trim l n) := by
    intro a ha
    unfold State.heldChoice at ha
    cases hh : (s.cannon a).held with
    | none => simp [hh] at ha
    | some k =>
      simp only [hh, Option.map_some, Option.some.injEq, Prod.mk.injEq] at ha
      rw [← ha.1, hh, Option.map_some, ha.2]
  unfold State.nextTransaction at h
  split at h
  · cases h
  · split at h
    · exact held _ h
    · split at h
      · exact held _ h
      · split at h
        · exact held _ h
        · split at h
          · cases h
          · simp at h

theorem State.beginTransaction_cannon (s : State) (c : Nat) (k : LineCommand) (a : Nat) :
    (s.beginTransaction c k).cannon a = if a = c ∧ 1 ≤ c ∧ c ≤ 24 then
      { s.cannon c with held := if k.isHeld then none else (s.cannon c).held, pollDue := false, pingDue := false }
    else s.cannon a := State.cannon_setCannon ..

theorem State.beginTransaction_moves {s : State} {c : Nat} {k : LineCommand} (h : s.nextTransaction = some (c, k)) :
    Moves A P s (s.beginTransaction c k) := by
  refine .steady ⟨⟨rfl, rfl, fun a ha => ?_, fun l n hl => .inl ?_, id, id⟩, fun _ => rfl, rfl,
    fun w => by cases w <;> rfl, fun w => by cases w <;> rfl, rfl⟩
  · rw [State.beginTransaction_cannon] at ha
    split at ha
    · rename_i e; rwa [e.1]
    · exact ha
  · rcases hl with ⟨a, ha⟩ | hl
    · rw [State.beginTransaction_cannon] at ha
      split at ha
      · dsimp only at ha
        split at ha
        · cases ha
        · exact .inl ⟨c, ha⟩
      · exact .inl ⟨a, ha⟩
    · obtain rfl : k = .trim l n := by simpa [State.beginTransaction] using hl
      exact .inl ⟨c, State.nextTransaction_trim h⟩

theorem sweepCannon_moves (s : State) (c : Nat) : Moves A P s (sweepCannon s c) := by
  unfold sweepCannon
  split
  · exact s.setCannon_moves c _ rfl rfl
  · exact .refl s

theorem State.sweep_moves (s : State) : Moves A P s s.sweep := .foldl _ sweepCannon_moves _ s

theorem execLineFault_moves {s t : State} (h : execLineFault s = .next t) : Moves A P s t := by
  refine .of_next h ?_
  split
  · have cleared : Moves A P s (cannonNumbers.foldl clearHeld s) := .foldl _ (fun u c => u.unholdCannon_moves c) _ s
    have quiet : ∀ (u : State) n, Moves A P u { u with
        line := { u.line with state := .fault n false, transaction := none, allStopDue := false } } :=
      fun u _ => .steady (u.quietLine_steady _ rfl rfl)
    dsimp only
    generalize cannonNumbers.foldl clearHeld s = u at cleared
    exact ((cleared.trans (.fault u)).trans (quiet _ s.osc)).trans (State.askRecord_moves ..)
  · exact .refl s

theorem execLineFaultEndOfStarts_moves {s t : State} (h : execLineFaultEndOfStarts s = .next t) : Moves A P s t := by
  have estimated : ∀ n (u : State) c, Moves A P u (estimateBusy n u c) := fun n u c => by
    unfold estimateBusy
    split
    · exact u.endByEstimate_moves c n
    · exact .refl u
  refine .of_next h ?_
  split
  · rename_i since _
    have ended : Moves A P s (cannonNumbers.foldl (estimateBusy since) (s.reach (since + 10000))) :=
      (s.reach_moves _).trans (.foldl _ (estimated since) _ _)
    have noted : ∀ u : State, Moves A P u { u with line := { u.line with state := .fault since true } } :=
      fun _ => .level (by simp [Level])
    exact (ended.trans (noted _)).trans (State.flushCannons_moves _)
  · exact .refl s

theorem execLineReturn_moves {s t : State} (h : execLineReturn s = .next t) : Moves A P s t := by
  have returned : ∀ (u : State) c, Moves A P u (returnCannon u c) := fun u c => by
    unfold returnCannon
    split
    · exact u.setActivity_moves c _
    · exact .refl u
  refine .of_next h ?_
  split
  · have ok : Moves A P s { s with line := { s.line with state := .ok } } := .level (by simp [Level])
    exact (((ok.trans (.foldl _ returned cannonNumbers _)).trans (State.sweep_moves _)).trans (State.cause_moves _)).trans
      (State.flushCannons_moves _)
  · exact .refl s

theorem State.cannonRestore_moves (s : State) (n : Node) (c : Nat) : Moves A P s (s.cannonRestore n c) := by
  unfold State.cannonRestore
  split
  · exact s.reply_moves ..
  · split
    · exact s.reply_moves ..
    · refine Moves.trans ?_ (State.reply_moves ..)
      exact ((s.setActivity_moves c .offline).trans (State.setCannon_moves _ c _ (by rfl) (by rfl))).trans
        (State.flushCannons_moves _)

theorem State.cannonQuery_moves (s : State) (n : Node) (c p : Nat) : Moves A P s (s.cannonQuery n c p) := by
  unfold State.cannonQuery
  split
  · exact s.reply_moves ..
  · split <;> exact s.reply_moves ..

end
end Sys2Proof.Machine
end

section
/-! SUPPORT. Which events of the Water Account, the orders, the beds, the modes, the evaluation and the store are courses of moves,
and the commands that are. -/

namespace Sys2Proof.Machine
section
variable {A : Nat → Nat → Prop} {P : Prop}

/-! ### The Water Account -/

theorem State.grantWater_moves (s : State) (n : Node) (w : WaterSource) (a : Nat) : Moves A P s (s.grantWater n w a) := by
  have poured : Moves A P s (s.setSource w { s.source w with
      balance := (s.source w).balance + min a (balanceLimit - (s.source w).balance) }) :=
    .pour s w _ (fun h => by omega) (fun h => by unfold balanceLimit; omega)
  unfold State.grantWater
  refine Moves.trans ?_ (State.reply_moves ..)
  split
  · exact poured
  · exact poured.trans (State.cause_moves _)

theorem State.waterGrant_moves (s : State) (n : Node) (b : Byte) (a : Nat) : Moves A P s (s.waterGrant n b a) := by
  unfold State.waterGrant
  split
  · exact s.reply_moves ..
  · exact s.grantWater_moves ..

theorem State.withdrawWater_moves (s : State) (n : Node) (w : WaterSource) (a : Nat) : Moves A P s (s.withdrawWater n w a) := by
  have poured : Moves A P s (s.setSource w { s.source w with
      balance := (s.source w).balance - min a (s.source w).available }) :=
    .pour s w _ (fun h => by unfold Source.available; omega) (fun h => by omega)
  unfold State.withdrawWater
  refine Moves.trans ?_ (State.reply_moves ..)
  split
  · exact poured
  · exact poured.trans (State.cause_moves _)

theorem State.waterWithdraw_moves (s : State) (n : Node) (b : Byte) (a : Nat) : Moves A P s (s.waterWithdraw n b a) := by
  unfold State.waterWithdraw
  split
  · exact s.reply_moves ..
  · exact s.withdrawWater_moves ..

theorem State.judgeGate_moves (s : State) (n : Nat) : Moves A P s (s.judgeGate n) := by
  have moved : Moves A P s { s with water := { s.water with gate := gateAfter s.conf.qLim n s.water.gate } } :=
    .level (by simp [Level])
  unfold State.judgeGate
  dsimp only
  split
  · exact moved
  · refine Moves.trans ?_ (State.cause_moves _)
    split
    · exact moved.trans (State.stopWhere_moves ..)
    · exact moved

theorem State.waterQuality_moves (s : State) (n : Node) (v : Nat) : Moves A P s (s.waterQuality n v) := by
  have held : Moves A P s { s with water := { s.water with turbidity := some (min 4000 v) } } := .level (by simp [Level])
  unfold State.waterQuality
  exact (held.trans (State.judgeGate_moves _ (min 4000 v))).trans (State.reply_moves ..)

theorem dropCapacity_moves (n : Nat) : ∀ s : State, Moves A P s (dropCapacity n s) := by
  induction n with
  | zero => exact Moves.refl
  | succ n ih =>
    intro s
    unfold dropCapacity
    split
    · exact .refl s
    · split
      · exact (s.stopOrder_moves ..).trans (ih _)
      · exact .refl s

theorem State.pumpState_moves (s : State) (n : Node) (p f : Nat) : Moves A P s (s.pumpState n p f) := by
  have formed : Moves A P s ({ s with water := { s.water with pumps := min 8 p, flowLimit := f } } : State).formCapacities :=
    .level (by simp [Level, State.formCapacities])
  have dropped := formed.trans (dropCapacity_moves
    ({ s with water := { s.water with pumps := min 8 p, flowLimit := f } } : State).formCapacities.disp.orders.length _)
  unfold State.pumpState
  refine Moves.trans ?_ (State.reply_moves ..)
  dsimp only
  split
  · refine Moves.trans ?_ (State.cause_moves _)
    split
    · exact dropped
    · exact formed
  · split
    · exact dropped
    · exact formed

/-- A write of what a source has charged and what is pending of it. -/
theorem Steady.setSource (s : State) (w : WaterSource) (r : Source) (hr : r.reserved = (s.source w).reserved)
    (hb : r.balance = (s.source w).balance) : Steady A s (s.setSource w r) := by
  cases w <;> refine ⟨.of rfl rfl rfl rfl rfl id, fun _ => rfl, rfl, fun z => ?_, fun z => ?_, rfl⟩ <;>
    cases z <;> first | rfl | assumption

theorem flushUse_steady (s : State) (w : WaterSource) : Steady A s (flushUse s w) := by
  unfold flushUse
  split
  · exact (Steady.level (by simp [Level, State.notice])).trans (Steady.setSource (s.notice _ _) w _ (by cases w <;> rfl)
      (by cases w <;> rfl))
  · exact .refl A s

theorem execUsagePeriodExpiry_moves {s t : State} (h : execUsagePeriodExpiry s = .next t) : Moves A P s t := by
  have closed : ∀ (u : State) w, Steady A u (closePeriod u w) := fun u w => .setSource u w _ rfl rfl
  refine .of_next h ?_
  split
  · rename_i due _
    have due : Steady A s { s.reach due with
        water := { (s.reach due).water with usageDue := some (due + ms s.conf.tUse), demandMark := false } } :=
      .level (by simp [Level])
    exact .steady ((((due.trans (closed _ _)).trans (closed _ _)).trans (flushUse_steady _ _)).trans (flushUse_steady _ _))
  · exact .refl s

theorem State.waterQuery_moves (s : State) (n : Node) (p : Nat) : Moves A P s (s.waterQuery n p) := by
  unfold State.waterQuery
  split <;> exact s.reply_moves ..

/-! ### Demands and manual orders -/

theorem State.createOrder_moves {s : State} {b : Nat} (hb : s.order b = none) (o : Origin) (v : Nat) (m : Bool) (p : Preference) :
    Moves A P s (s.createOrder b o v m p) := by
  have put : Moves A P s (s.putOrder ⟨s.disp.nextId, b, o, v, 0, m, p, .waiting, none, none, none, s.osc, s.osc,
    s.disp.serial⟩) := .create _ hb rfl rfl
  unfold State.createOrder
  exact put.trans (.level (by simp [Level]))

/-- A merge that keeps the state and the start of an order. -/
theorem State.mergeOrder_moves {s : State} {b : Nat} {o : Order} (h : s.order b = some o) (p : Order) (hb : p.bed = o.bed)
    (hw : p.state = o.state) (hs : p.start = o.start) : Moves A P s (s.mergeOrder o p) := by
  unfold State.mergeOrder
  split
  · exact .refl s
  · exact (Moves.put h p hb (by rw [hw]) (by rw [hs])).trans (State.cause_moves _)

theorem State.removeWaiting_moves {s : State} {b : Nat} {o : Order} (h : s.order b = some o) (hw : o.state = .waiting)
    (k : OrderOutcome) : Moves A P s (s.removeOrder o k) := by
  obtain ⟨_, rfl⟩ := State.order_mem h
  exact State.removeOrder_moves h hw k

theorem State.handDemand_moves (s : State) (b : Nat) (o : Origin) (v : Nat) : Moves A P s (s.handDemand b o v) := by
  unfold State.handDemand State.takeDemand State.takeShort
  split
  · split
    · rename_i hq
      exact State.createOrder_moves hq ..
    · rename_i q hq
      exact State.mergeOrder_moves hq _ rfl rfl rfl
  · split
    · exact .refl s
    · rename_i q hq
      split
      · rename_i hw
        exact State.removeWaiting_moves hq hw.1 _
      · exact State.mergeOrder_moves hq _ rfl rfl rfl

theorem State.manualSpray_moves (s : State) (n : Node) (b v : Nat) (p : Byte) : Moves A P s (s.manualSpray n b v p) := by
  unfold State.manualSpray
  split
  · exact s.reply_moves ..
  · split
    · exact s.reply_moves ..
    · refine Moves.trans ?_ (State.reply_moves ..)
      unfold State.takeManual
      split
      · rename_i hq
        exact State.createOrder_moves hq ..
      · rename_i q hq
        exact State.mergeOrder_moves hq _ rfl rfl rfl

theorem State.cancelSpray_moves (s : State) (n : Node) (b : Nat) : Moves A P s (s.cancelSpray n b) := by
  unfold State.cancelSpray
  split
  · exact s.reply_moves ..
  · split
    · exact s.reply_moves ..
    · rename_i o ho
      refine Moves.trans ?_ (State.reply_moves ..)
      unfold State.cancelOrder
      split
      · rename_i hw
        exact State.removeWaiting_moves ho hw _
      · exact .put ho _ rfl .rfl rfl
      · exact s.stopOrder_moves ..

theorem execOrderExpiry_moves {b : Nat} {s t : State} (h : execOrderExpiry b s = .next t) : Moves A P s t := by
  refine .of_next h ?_
  split
  · rename_i o ho
    split
    · rename_i hw
      exact (s.reach_moves _).trans (State.removeWaiting_moves (s := s.reach _) ho hw _)
    · exact .refl s
  · exact .refl s

/-! ### Beds and claims -/

theorem State.setSurface_moves (s : State) (b : Nat) (f : Surface) : Moves A P s (s.setSurface b f) := s.setBed_moves b _ rfl

theorem State.becomeEmpty_moves (s : State) (b : Nat) : Moves A P s (s.becomeEmpty b) := by
  unfold State.becomeEmpty State.satisfyOrder
  refine ((s.setSurface_moves b .empty).trans (State.endHold_moves _ b)).trans ?_
  split
  · exact .refl _
  · rename_i o ho
    split
    · rename_i hw
      exact State.removeWaiting_moves ho hw _
    · exact .put ho _ rfl .rfl rfl

theorem State.setEntries_moves (s : State) (l : List Claim) : Moves A P s (s.setEntries l) :=
  .level (by simp [Level])

theorem State.applyActivity_moves (s : State) (b : Nat) (a : ZoneActivity) (p : Surface) :
    Moves A P s (s.applyActivity b a p) := by
  unfold State.applyActivity
  split
  · exact (s.setSurface_moves b .worked).trans (State.setEntries_moves ..)
  · exact .refl s

theorem State.enterRange_moves (s : State) (m : Nat) (a : ZoneActivity) (b : Nat) : Moves A P s (s.enterRange m a b) := by
  unfold State.enterRange
  split
  · exact ((s.setEntries_moves _).trans (State.applyActivity_moves ..)).trans (State.stopOrder_moves ..)
  · exact .refl s

theorem State.releaseUncovered_moves (s : State) (b : Nat) (o : ReleaseOutcome) (p : Surface) :
    Moves A P s (s.releaseUncovered b o p) := by
  unfold State.releaseUncovered
  split
  · exact (s.setSurface_moves b .fresh).trans (State.setBed_moves _ b _ (by rfl))
  · exact .refl s
  · exact s.setSurface_moves ..
  · exact .refl s
  · exact s.becomeEmpty_moves b
  · split
    · exact s.becomeEmpty_moves b
    · exact s.setSurface_moves ..
  · exact .refl s
  · exact s.setSurface_moves ..
  · exact .refl s

theorem State.foldOutcome_moves (s : State) (b : Nat) (o : ReleaseOutcome) (p : Surface) : Moves A P s (s.foldOutcome b o p) := by
  unfold State.foldOutcome
  split
  · exact (s.setEntries_moves _).trans (State.setBed_moves _ b _ (by rfl))
  · split
    · exact .refl s
    · exact s.setEntries_moves _
  · exact s.setEntries_moves _
  · exact .refl s
  · exact s.setEntries_moves _

theorem State.releaseBed_moves (s : State) (b : Nat) (o : ReleaseOutcome) (p : Surface) : Moves A P s (s.releaseBed b o p) := by
  unfold State.releaseBed
  split
  · split
    · split
      · exact s.foldOutcome_moves ..
      · exact .refl s
    · exact s.releaseUncovered_moves ..
  · exact .refl s

theorem State.removeClaim_moves (s : State) (e : Claim) (o : ReleaseOutcome) : Moves A P s (s.removeClaim e o) :=
  (s.setEntries_moves _).trans (.foldl _ (fun t b => t.releaseBed_moves b o _) _ _)

theorem State.causeIfUncovered_moves (s t : State) : Moves A P s (s.causeIfUncovered t) := by
  unfold State.causeIfUncovered
  split
  · exact s.cause_moves
  · exact .refl s

theorem replaceBed_moves (m : Nat) (e : Claim) (a : ZoneActivity) (s : State) (b : Nat) : Moves A P s (replaceBed m e a s b) := by
  unfold replaceBed
  split
  · exact .refl s
  · split
    · have written : Moves A P s (if (s.bed b).surface = .worked then s else s.writePrior m b (s.bed b).surface) := by
        split
        · exact .refl s
        · exact s.setEntries_moves _
      dsimp only
      split
      · exact written.trans (State.applyActivity_moves ..)
      · split
        · exact written.trans (State.releaseBed_moves ..)
        · exact written
    · exact s.enterRange_moves ..

theorem State.replaceClaim_moves (s : State) (e : Claim) (a : ZoneActivity) (f l : Nat) :
    Moves A P s (s.replaceClaim e a f l) := by
  unfold State.replaceClaim
  dsimp only
  split
  · exact s.setEntries_moves _
  · refine Moves.trans ?_ (State.causeIfUncovered_moves ..)
    exact ((s.setEntries_moves _).trans (.foldl _ (fun t b => t.releaseBed_moves b _ _) _ _)).trans
      (.foldl _ (replaceBed_moves _ e a) _ _)

theorem State.zoneClaim_moves (s : State) (n : Node) (m : Nat) (a : Byte) (f l : Nat) : Moves A P s (s.zoneClaim n m a f l) := by
  unfold State.zoneClaim
  split
  · exact s.reply_moves ..
  · split
    · exact s.reply_moves ..
    · split
      · exact s.reply_moves ..
      · split
        · exact (s.replaceClaim_moves ..).trans (State.reply_moves ..)
        · split
          · exact s.reply_moves ..
          · exact ((s.setEntries_moves _).trans (.foldl _ (fun t b => t.enterRange_moves m _ b) _ _)).trans
              (State.reply_moves ..)

theorem State.zoneRelease_moves (s : State) (n : Node) (m : Nat) (o : Byte) : Moves A P s (s.zoneRelease n m o) := by
  unfold State.zoneRelease
  split
  · exact s.reply_moves ..
  · split
    · exact s.reply_moves ..
    · split
      · exact s.reply_moves ..
      · exact ((s.removeClaim_moves ..).trans (State.causeIfUncovered_moves ..)).trans (State.reply_moves ..)

theorem State.expireClaim_moves (s : State) (e : Claim) : Moves A P s (s.expireClaim e) :=
  ((s.removeClaim_moves ..).trans (State.causeIfUncovered_moves ..)).trans (State.makeClaimExpired_moves ..)

theorem execClaimExpiry_moves {m : Nat} {s t : State} (h : execClaimExpiry m s = .next t) : Moves A P s t := by
  refine .of_next h ?_
  split
  · exact (s.reach_moves _).trans (State.expireClaim_moves ..)
  · exact .refl s

/-- A cap no less than the tally with the share. -/
theorem State.changeCap_moves {s : State} {b : Nat} {h : Hold} (hb : (s.bed b).hold = some h) (c : Nat)
    (hc : h.tally + s.shareOf b ≤ c) : Moves A P s (s.changeCap b h c) := by
  unfold State.changeCap
  split
  · exact .refl s
  · exact ((Moves.cap hb c hc).trans (State.cause_moves _)).trans (State.judgeAtRisk_moves _ b)

theorem State.holdClear_moves (s : State) (n : Node) (b g : Nat) : Moves A P s (s.holdClear n b g) := by
  unfold State.holdClear
  split
  · exact s.reply_moves ..
  · split
    · exact s.reply_moves ..
    · split
      · exact (s.removeHold_moves b).trans (State.reply_moves ..)
      · exact s.reply_moves ..

theorem State.bedQuery_moves (s : State) (n : Node) (b p : Nat) : Moves A P s (s.bedQuery n b p) := by
  unfold State.bedQuery
  split
  · exact s.reply_moves ..
  · split
    · exact s.reply_moves ..
    · split <;> exact s.reply_moves ..

/-! ### Modes and the clock -/

theorem State.judgeForecast_moves (s : State) : Moves A P s s.judgeForecast := by
  have judged : Moves A P s { s with forecast := { s.forecast with live := s.slotsLive } } := .level (by simp [Level])
  unfold State.judgeForecast
  dsimp only
  split
  · exact judged.trans (State.askRecord_moves ..)
  · exact judged

theorem State.makeMode_moves (s : State) : Moves A P s s.makeMode := .level (by simp [Level])

theorem State.stopSprays_moves (s : State) : Moves A P s s.stopSprays := by
  have asked : Moves A P s s.askAllStop := by
    unfold State.askAllStop
    split
    · exact .level (by simp [Level])
    · exact .refl s
  exact asked.trans (State.stopWhere_moves ..)

/-- The entry of a mode is a course of moves but where it leaves MAINTENANCE. -/
theorem State.enterMode_moves (s : State) (m : Mode) (h : s.ctrl.mode = .maintenance → m = .maintenance) :
    Moves A P s (s.enterMode m) := by
  have moved : Moves A P s { s with ctrl := { s.ctrl with mode := m } } :=
    .steady ⟨⟨rfl, rfl, fun _ => id, fun _ _ => .inl, h, id⟩, fun _ => rfl, rfl, fun w => by cases w <;> rfl,
      fun w => by cases w <;> rfl, rfl⟩
  have told := moved.trans (State.makeMode_moves _)
  unfold State.enterMode
  dsimp only
  refine Moves.trans ?_ (State.cause_moves _)
  split
  · exact told.trans (State.stopSprays_moves _)
  · exact told

theorem State.judgeBasis_moves (s : State) : Moves A P s s.judgeBasis := by
  unfold State.judgeBasis
  split
  · rename_i hm
    split
    · exact s.enterMode_moves _ (by simp [hm])
    · exact .refl s
  · rename_i hm
    split
    · exact .refl s
    · exact s.enterMode_moves _ (by simp [hm])
  · exact .refl s

theorem State.setReasons_moves (s : State) (a b : Bool) : Moves A P s (s.setReasons a b) := by
  have set : Moves A P s { s with ctrl := { s.ctrl with operator := a, freeze := b } } := .level (by simp [Level])
  unfold State.setReasons
  split
  · exact .refl s
  · dsimp only
    split
    · exact set
    · exact set.trans (State.makeMode_moves _)
    all_goals
      rename_i hm
      split
      · first
        | exact set.trans (State.makeMode_moves _)
        | exact set.trans (State.enterMode_moves _ _ (by simp [hm]))
      · first
        | exact set.trans (State.makeMode_moves _)
        | exact set.trans (State.enterMode_moves _ _ (by simp [hm]))

theorem State.judgeFreeze_moves (s : State) : Moves A P s s.judgeFreeze := s.setReasons_moves _ _

theorem State.holdRelease_moves (s : State) (n : Node) : Moves A P s (s.holdRelease n) := by
  unfold State.holdRelease
  split
  · exact (s.setReasons_moves ..).trans (State.reply_moves ..)
  · exact s.reply_moves ..

theorem execDrainDeadline_moves {s t : State} (h : execDrainDeadline s = .next t) : Moves A P s t := by
  have force : ∀ n (u : State) c, Moves A P u (forceStart n u c) := fun n u c => by
    unfold forceStart
    split
    · exact u.endByEstimate_moves c n
    · exact .refl u
  have stopped : ∀ u : State, Moves A P u { u with ctrl := { u.ctrl with drain := none } } := fun u =>
    .steady ⟨.of rfl rfl rfl rfl rfl (fun _ => rfl), fun _ => rfl, rfl, fun w => by cases w <;> rfl,
      fun w => by cases w <;> rfl, rfl⟩
  have forced : ∀ u : State, Moves A P u (u.setFlag .drainForced) := fun _ => .level (by simp [Level, State.setFlag])
  refine .of_next h ?_
  split
  · rename_i deadline _
    have ended := ((s.reach_moves deadline).trans (stopped _)).trans
      (.foldl _ (force { s.reach deadline with ctrl := { (s.reach deadline).ctrl with drain := none } }.osc) cannonNumbers _)
    exact ((ended.trans (forced _)).trans (State.endDrain_moves _ true)).trans (State.flushCannons_moves _)
  · exact .refl s

theorem State.changeDay_moves (s : State) : Moves A P s s.changeDay := (Moves.dawn s).trans (State.cause_moves _)

theorem State.changeHour_moves (s : State) : Moves A P s s.changeHour :=
  s.judgeForecast_moves.trans (State.judgeFreeze_moves _)

theorem State.setClock_moves (s : State) (d n : Nat) : Moves A P s (s.setClock d n) := .level (by simp [Level, State.setClock])

theorem execYardSecond_moves {s t : State} (h : execYardSecond s = .next t) : Moves A P s t := by
  have second : Moves A P s { s.reach s.ctrl.yardDue with
      ctrl := { (s.reach s.ctrl.yardDue).ctrl with yardDue := s.ctrl.yardDue + 1000 } } := .level (by simp [Level])
  refine .of_next h ?_
  dsimp only
  split
  · exact ((second.trans (State.setClock_moves ..)).trans (State.changeDay_moves _)).trans (State.changeHour_moves _)
  · split
    · exact (second.trans (State.setClock_moves ..)).trans (State.changeHour_moves _)
    · exact second.trans (State.setClock_moves ..)

theorem State.timeSet_moves (s : State) (n : Node) (d v : Nat) : Moves A P s (s.timeSet n d v) := by
  have set : Moves A P s (s.setClock d (min 86399 v)).clearTimeUnset := .level (by simp [Level, State.setClock, State.clearTimeUnset])
  have day : Moves A P s (if d = s.ctrl.day then (s.setClock d (min 86399 v)).clearTimeUnset
      else (s.setClock d (min 86399 v)).clearTimeUnset.changeDay) := by
    split
    · exact set
    · exact set.trans (State.changeDay_moves _)
  unfold State.timeSet
  refine Moves.trans ?_ (State.reply_moves ..)
  split
  · exact day
  · exact day.trans (State.changeHour_moves _)

/-! ### The forecast, the weather and the evaluation -/

theorem State.forecastSlot_moves (s : State) (n : Node) (i k p : Nat) (f : BitVec 40) :
    Moves A P s (s.forecastSlot n i k p f) := by
  have opened : Moves A P s (s.openIssue i) := by
    unfold State.openIssue
    split
    · exact .level (by simp [Level])
    · exact .refl s
  have stored : ∀ u : State, Moves A P u (u.storePart k p f) := fun _ => .level (by simp [Level, State.storePart])
  unfold State.forecastSlot
  split
  · exact s.reply_moves ..
  · split
    · exact s.reply_moves ..
    · exact (((opened.trans (stored _)).trans (State.judgeForecast_moves _)).trans (State.judgeFreeze_moves _)).trans
        (State.reply_moves ..)

theorem State.weatherNow_moves (s : State) (n : Node) (r : Nat) (h t : Byte) : Moves A P s (s.weatherNow n r h t) := by
  have noted : Moves A P s (s.noteWeather (clampField 100 (field8 h)) (clampTemperature (fieldTemperature t))) :=
    .level (by simp [Level, State.noteWeather])
  have rain : ∀ k (u : State) b, Moves A P u (rainOn k u b) := fun k u b => by
    unfold rainOn
    split
    · exact u.setBed_moves b _ rfl
    · exact .refl u
  have rained := noted.trans (.foldl _ (rain ((field16 r).getD 0)) bedNumbers _)
  unfold State.weatherNow
  refine Moves.trans ?_ (State.reply_moves ..)
  split
  · exact rained.trans (State.judgeFreeze_moves _)
  · exact rained

theorem evaluateBed_moves (f : Bool) (s : State) (b : Nat) : Moves A P s (evaluateBed f s b) := by
  have written : ∀ r k, Moves A P s (s.writeRisk b r k) := fun r k =>
    (s.setBed_moves b _ (by rfl)).trans (State.judgeAtRisk_moves _ b)
  have handed : ∀ (u : State) w d, Moves A P u (u.handFor b w d) := fun u w d => by
    unfold State.handFor
    split
    · exact u.handDemand_moves ..
    · exact .refl u
  unfold evaluateBed
  split
  · exact .refl s
  · split
    · exact written ..
    · split
      · exact (written ..).trans (handed ..)
      · exact (written ..).trans (handed ..)

theorem execEvaluation_moves {s t : State} (h : execEvaluation s = .next t) : Moves A P s t := by
  refine .of_next h ?_
  split
  · rename_i due _
    have timed : Moves A P s { s.reach due with evalDue := some (due + 60000) } := .level (by simp [Level])
    exact timed.trans (((State.judgeBasis_moves _).trans (State.judgeFreeze_moves _)).trans
      (.foldl _ (evaluateBed_moves _) _ _))
  · exact .refl s

/-! ### The settings store -/

theorem State.settingWrite_moves (s : State) (n : Node) (i k : Nat) (w : BitVec 32) : Moves A P s (s.settingWrite n i k w) := by
  unfold State.settingWrite
  split
  · exact s.reply_moves ..
  · split
    · exact s.reply_moves ..
    · dsimp only
      split
      · exact .level (by simp [Level, State.reply])
      · exact s.reply_moves ..

theorem State.settingRead_moves (s : State) (n : Node) (i k : Nat) : Moves A P s (s.settingRead n i k) := by
  unfold State.settingRead
  split
  · exact s.reply_moves ..
  · split <;> exact s.reply_moves ..

theorem State.settingCommit_moves (s : State) (n : Node) : Moves A P s (s.settingCommit n) := by
  unfold State.settingCommit
  split
  · exact s.reply_moves ..
  · split
    · exact s.reply_moves ..
    · split
      · exact s.reply_moves ..
      · exact .level (by simp [Level])

theorem State.replyCommit_moves (s : State) (r : Result) (d : List Byte) : Moves A P s (s.replyCommit r d) := by
  unfold State.replyCommit
  split
  · exact .level (by simp [Level, State.reply])
  · exact .refl s

theorem State.failCommit_moves (s : State) (a : Nat) : Moves A P s (s.failCommit a) := by
  have failed : Moves A P s (({ s with store := { s.store with commit := none } } : State).setFlag .storeFault) :=
    .level (by simp [Level, State.setFlag])
  exact failed.trans (State.replyCommit_moves ..)

theorem execPageFailure_moves {s t : State} (h : execPageFailure s = .next t) : Moves A P s t := by
  refine .of_next h ?_
  split
  · rename_i c _
    split
    · have doubted : Moves A P s ((s.reach (c.since + 20)).doubtPage c.page (pageBytes c.image c.page).length) :=
        .level (by simp [Level, State.doubtPage])
      exact doubted.trans (State.failCommit_moves ..)
    · exact .refl s
  · exact .refl s

/-- The tests of a settings restart end (R206). -/
theorem endRunningTest_moves (s : State) (c : Nat) : Moves A P s (endRunningTest s c) := by
  unfold endRunningTest
  split
  · exact .refl s
  · exact s.endByEstimate_moves ..

end

/-! ### The commands -/

/-- The pass over the producers (R196) moves no water and no order. -/
theorem State.offerRoom_moves {A : Nat → Nat → Prop} {P : Prop} (s : State) : Moves A P s s.offerRoom := by
  have offered : ∀ (turn : State → State), (∀ u, Moves A P u (turn u)) → ∀ u, Moves A P u (offer turn u) := by
    intro turn h u
    rcases offer_cases turn u with e | ⟨_, e⟩ <;> rw [e]
    · exact .refl u
    · exact h u
  have use : ∀ u : State, Moves A P u u.flushWaterUse := fun u =>
    .steady ((flushUse_steady u .recycled).trans (flushUse_steady _ .fresh))
  unfold State.offerRoom
  exact (((((((offered _ (fun u => .level (by simp [Level])) s).trans (offered _ (fun u => .level (by simp [Level])) _)).trans
    (offered _ State.flushCannons_moves _)).trans (offered _ (fun u => .level (by simp [Level])) _)).trans
    (offered _ (fun u => .level (by simp [Level])) _)).trans (offered _ (fun u => .level (by simp [Level])) _)).trans
    (offered _ use _)).trans (offered _ (fun u => .level (by simp [Level])) _)

/-- The commands that are courses of moves. -/
def Instr.isMoves : Instr → Bool
  | .powerOnReset => false
  | .externalReset => false
  | .load _ => false
  | .dispatchAttempt => false
  | .moistureHoldSet _ _ _ _ => false
  | .testSpray _ _ => false
  | .maintEnter _ => false
  | .maintExit _ => false
  | .readBack _ => false
  | _ => true

/-- Such a command is a course of moves from a state with one order per bed and one start per cannon, whose TRIMs are among `A`. -/
theorem exec_moves {A : Nat → Nat → Prop} {P : Prop} {c : Instr} {s t : State} (hc : Instr.isMoves c = true)
    (law : s.orderLaw) (before : ∀ l n, s.asksTrim l n → A l n)
    (meter : P → ∀ bytes x r o st, c = .trim bytes → s.replyTaken x bytes r → s.serves x o st → st.holdPoint ≤ r.meter)
    (h : exec c s = .next t) : Moves A P s t := by
  obtain ⟨one, _, starts, addresses⟩ := law
  cases c with
  | powerOnReset => cases hc
  | externalReset => cases hc
  | load => cases hc
  | dispatchAttempt => cases hc
  | moistureHoldSet => cases hc
  | testSpray => cases hc
  | maintEnter => cases hc
  | maintExit => cases hc
  | readBack => cases hc
  | anemometerPulse m => exact .of_next h (.level (by simp [Level]))
  | endOfSecond a b => exact .of_next h (by split; exacts [.level (by simp [Level]), .refl s])
  | dustPulse ch => exact .of_next h (by split; exacts [.level (by simp [Level]), .refl s])
  | windowEnd ch r => exact .of_next h (by split; exacts [.level (by simp [Level]), .refl s])
  | forecastSlot n i k p f => exact .of_next h (.serve _ _ _ _ _ (State.forecastSlot_moves ..))
  | weatherNow n r hu te => exact .of_next h (.serve _ _ _ _ _ (State.weatherNow_moves ..))
  | evaluation => exact execEvaluation_moves h
  | settleTimerExpiry b =>
    exact .of_next h (by split; exacts [(s.reach_moves _).trans (State.setSurface_moves ..), .refl s])
  | waterGrant n w a => exact .of_next h (.serve _ _ _ _ _ (State.waterGrant_moves ..))
  | waterWithdraw n w a => exact .of_next h (.serve _ _ _ _ _ (State.waterWithdraw_moves ..))
  | waterQuality n v => exact .of_next h (.serve _ _ _ _ _ (State.waterQuality_moves ..))
  | pumpState n p f => exact .of_next h (.serve _ _ _ _ _ (State.pumpState_moves ..))
  | usagePeriodExpiry => exact execUsagePeriodExpiry_moves h
  | waterQuery n p => exact .of_next h (.serve _ _ _ _ _ (State.waterQuery_moves ..))
  | zoneClaim n m a f l => exact .of_next h (.serve _ _ _ _ _ (State.zoneClaim_moves ..))
  | zoneRelease n m o => exact .of_next h (.serve _ _ _ _ _ (State.zoneRelease_moves ..))
  | claimExpiry m => exact execClaimExpiry_moves h
  | moistureHoldClear n b g => exact .of_next h (.serve _ _ _ _ _ (State.holdClear_moves ..))
  | manualSpray n b v p => exact .of_next h (.serve _ _ _ _ _ (State.manualSpray_moves ..))
  | cancelSpray n b => exact .of_next h (.serve _ _ _ _ _ (State.cancelSpray_moves ..))
  | orderExpiry b => exact execOrderExpiry_moves h
  | transactionBegin =>
    refine .of_next h ?_
    split
    · split
      · rename_i hn
        exact State.beginTransaction_moves hn
      · exact .refl s
    · exact .refl s
  | requestSent =>
    refine .of_next h ?_
    split
    · rename_i x hx
      split
      · refine .steady ⟨⟨rfl, rfl, fun _ => id, fun l n hl => .inl ?_, id, id⟩, fun _ => rfl, rfl,
          fun w => by cases w <;> rfl, fun w => by cases w <;> rfl, rfl⟩
        exact hl.imp id (fun e => by rw [hx]; exact e)
      · exact .refl s
    · exact .refl s
  | ping r => exact .of_next h (State.replied_moves before _ _ _ (fun x r _ _ _ _ _ => State.takePing_moves _ x r))
  | start r => exact .of_next h (State.replied_moves before _ _ _ (fun x r _ _ _ _ _ => State.takeStart_moves _ x r))
  | poll r => exact .of_next h (State.replied_moves before _ _ _ (fun x r _ _ _ _ _ => State.takePoll_moves (by exact starts) x r))
  | stop r => exact .of_next h (State.replied_moves before _ _ _ (fun x r _ _ _ _ _ => State.takeStop_moves (by exact starts) x r))
  | test r => exact .of_next h (State.replied_moves before _ _ _ (fun x r _ _ _ _ _ => State.takeTest_moves _ x r))
  | trim bytes =>
    refine .of_next h (State.replied_moves before _ _ _ (fun x r hx hm hsent hlen hr => ?_))
    refine State.takeTrimReply_moves (by exact starts) (by exact one) x r (before _ _ (.inr ?_)) (fun hp o st ho hbed hs => ?_)
    · rw [hx, Option.map_some]
      cases hk : x.command <;> simp [hk, LineCommand.code] at hm
      rfl
    · obtain ⟨hon, st', hst', hcannon, hseq⟩ := State.startOf_some ho
      obtain rfl : st' = st := Option.some.inj (hst'.symm.trans hs)
      have address := addresses x.cannon (List.mem_filterMap.mpr ⟨o, State.startOn_mem hon, by simp [hs, hcannon]⟩)
      exact meter hp bytes x r o st' rfl ⟨hx, hsent, address.1, address.2, hlen, hr⟩ ⟨hon, hbed, hs, hseq⟩
  | allStop =>
    refine .of_next h ?_
    split
    · split
      · exact .steady (State.quietLine_steady s _ rfl rfl)
      · exact .refl s
    · exact .refl s
  | noReply => exact .of_next h (State.timedOut_moves before _ _)
  | shortReply => exact .of_next h (State.timedOut_moves before _ _)
  | pollDue c =>
    refine .of_next h ?_
    split
    · split
      · exact (s.reach_moves _).trans (State.setCannon_moves _ c _ (by rfl) (by rfl))
      · exact .refl s
    · exact .refl s
  | pingDue c =>
    refine .of_next h ?_
    split
    · split
      · exact (s.reach_moves _).trans (State.setCannon_moves _ c _ (by rfl) (by rfl))
      · exact .refl s
    · exact .refl s
  | lineFault => exact execLineFault_moves h
  | lineFaultEndOfStarts => exact execLineFaultEndOfStarts_moves h
  | lineReturn => exact execLineReturn_moves h
  | cannonRestore n c => exact .of_next h (.serve _ _ _ _ _ (State.cannonRestore_moves ..))
  | cannonQuery n c p => exact .of_next h (.serve _ _ _ _ _ (State.cannonQuery_moves ..))
  | bedQuery n b p => exact .of_next h (.serve _ _ _ _ _ (State.bedQuery_moves ..))
  | recordRead n =>
    refine .of_next h (.serve _ _ _ _ _ ?_)
    unfold State.recordRead State.recordReadFor
    split
    · split
      · split
        · exact State.reply_moves ..
        · exact .level (by simp [Level, State.reply, State.readRecord])
      · exact State.reply_moves ..
    · exact State.reply_moves ..
  | readTimerExpiry => exact .of_next h (by split; exacts [.level (by simp [Level]), .refl s])
  | allHold n => exact .of_next h (.serve _ _ _ _ _ ((State.setReasons_moves ..).trans (State.reply_moves ..)))
  | holdRelease n => exact .of_next h (.serve _ _ _ _ _ (State.holdRelease_moves _ n))
  | drainDeadline => exact execDrainDeadline_moves h
  | flagClear n m => exact .of_next h (.serve _ _ _ _ _ (.level (by simp [Level, State.flagClear, State.reply])))
  | statusQuery n p =>
    refine .of_next h (.serve _ _ _ _ _ ?_)
    unfold State.statusQuery
    split <;> exact State.reply_moves ..
  | yardSecond => exact execYardSecond_moves h
  | timeSet n d v => exact .of_next h (.serve _ _ _ _ _ (State.timeSet_moves ..))
  | requestArrival i d => exact .of_next h (by split; exacts [.level (by simp [Level]), .refl s])
  | frameSent =>
    refine .of_next h ?_
    split
    · split
      · have popped : ∀ f l, Moves A P s (s.popFrame f l) := fun _ _ => .level (by simp [Level])
        exact (popped ..).trans (State.offerRoom_moves _)
      · exact .refl s
    · exact .refl s
  | busOff => exact .of_next h (by split; exacts [.level (by simp [Level]), .refl s])
  | busRecovered => exact .of_next h (by split; exacts [.level (by simp [Level, State.setFlag]), .refl s])
  | settingWrite n i k w => exact .of_next h (.serve _ _ _ _ _ (State.settingWrite_moves ..))
  | settingRead n i k => exact .of_next h (.serve _ _ _ _ _ (State.settingRead_moves ..))
  | settingCommit n => exact .of_next h (.serve _ _ _ _ _ (State.settingCommit_moves _ n))
  | pageWriteDone =>
    refine .of_next h ?_
    split
    · split
      · exact .level (by simp [Level])
      · exact .refl s
    · exact .refl s
  | pageFailure => exact execPageFailure_moves h

end Sys2Proof.Machine
end

section
/-! SUPPORT. What every course of moves keeps: one order per bed and a start exactly outside WAITING (R112, R113), the reservations
(R67, R68), the daily cap (R76), the tests (R159), and the laws of holds and TRIMs (R101, R103). -/

namespace Sys2Proof.Machine

/-! ### Orders -/

/-- At most one order per bed, with a current start exactly outside WAITING (R112, R113). -/
structure State.startLaw (s : State) : Prop where
  one : s.oneOrderPerBed
  starts : ∀ o ∈ s.disp.orders, (o.start.isSome = true ↔ o.state ≠ .waiting)

theorem State.startLaw_of_orderLaw {s : State} (h : s.orderLaw) : s.startLaw := ⟨h.1, h.2.1⟩

theorem State.startLaw.waiting {s : State} (h : s.startLaw) {o : Order} (ho : o ∈ s.disp.orders) (hw : o.state = .waiting) :
    o.start = none := by
  cases hs : o.start with
  | none => rfl
  | some st => exact absurd hw ((h.starts o ho).mp (by simp [hs]))

/-- An order of the queue, and the orders of the other beds. -/
theorem perm_cons_ordersWithout {l : List Order} (hn : (l.map Order.bed).Nodup) {o : Order} (ho : o ∈ l) :
    l.Perm (o :: ordersWithout o.bed l) := by
  refine ((cons_ordersWithout_subperm ho).perm_of_length_le ?_).symm
  have own : (l.filter (fun q => !(q.bed != o.bed))).length ≤ 1 := by
    have sub : ((l.filter (fun q => !(q.bed != o.bed))).map Order.bed).Nodup := hn.sublist (List.filter_sublist.map _)
    have same : ∀ b ∈ (l.filter (fun q => !(q.bed != o.bed))).map Order.bed, b = o.bed := by
      intro b hb
      obtain ⟨q, hq, rfl⟩ := List.mem_map.mp hb
      simpa using (List.mem_filter.mp hq).2
    have card : ((l.filter (fun q => !(q.bed != o.bed))).map Order.bed).length ≤ [o.bed].length :=
      (List.subperm_of_subset sub (fun b hb => by simp [same b hb])).length_le
    simpa using card
  have split := (List.filter_append_perm (fun q : Order => q.bed != o.bed) l).length_eq
  rw [List.length_append] at split
  simp only [ordersWithout, List.length_cons]
  omega

theorem oneOrder_insert {l : List Order} (hn : (l.map Order.bed).Nodup) (p : Order) :
    ((insertOrder p (ordersWithout p.bed l)).map Order.bed).Nodup := by
  refine ((insertOrder_perm p _).map Order.bed).nodup_iff.mpr (List.nodup_cons.mpr ⟨?_, hn.sublist (List.filter_sublist.map _)⟩)
  intro hm
  obtain ⟨q, hq, e⟩ := List.mem_map.mp hm
  exact (mem_ordersWithout.mp hq).2 e

/-- A sum over the orders after the order of a bed is written. -/
theorem sum_putOrder {s : State} (hn : s.oneOrderPerBed) {b : Nat} {o : Order} (h : s.order b = some o) {p : Order}
    (hb : p.bed = o.bed) (f : Order → Nat) :
    ((s.putOrder p).disp.orders.map f).sum + f o = (s.disp.orders.map f).sum + f p := by
  have before := ((perm_cons_ordersWithout hn (State.order_mem h).1).map f).sum_eq
  have after := ((insertOrder_perm p (ordersWithout p.bed s.disp.orders)).map f).sum_eq
  rw [State.putOrder_orders, before, after, hb]
  simp only [List.map_cons, List.sum_cons]
  omega

/-- A sum over the orders without the order of a bed. -/
theorem sum_ordersWithout {s : State} (hn : s.oneOrderPerBed) {b : Nat} {o : Order} (h : s.order b = some o) (f : Order → Nat) :
    ((ordersWithout b s.disp.orders).map f).sum + f o = (s.disp.orders.map f).sum := by
  obtain ⟨hm, rfl⟩ := State.order_mem h
  rw [((perm_cons_ordersWithout hn hm).map f).sum_eq]
  simp only [List.map_cons, List.sum_cons]
  omega

/-- Without an order on a bed every order is on another. -/
theorem ordersWithout_of_none {s : State} {b : Nat} (h : s.order b = none) : ordersWithout b s.disp.orders = s.disp.orders := by
  refine List.filter_eq_self.mpr (fun o ho => ?_)
  simpa using List.find?_eq_none.mp h o ho

theorem Order.faulted_bed (o : Order) : o.faulted.bed = o.bed := by unfold Order.faulted; split <;> rfl

theorem Order.faulted_start (o : Order) : o.faulted.start = o.start := by unfold Order.faulted; split <;> rfl

theorem Order.faulted_waiting (o : Order) : o.faulted.state = .waiting ↔ o.state = .waiting := by
  unfold Order.faulted
  split
  · rename_i h
    cases hs : o.state <;> simp_all [Order.stopped, Order.running]
  · exact .rfl

theorem isSome_of_terms {a b : Option Start} (h : a.map Start.terms = b.map Start.terms) : a.isSome = b.isSome := by
  have := congrArg Option.isSome h
  simpa using this

section
variable {A : Nat → Nat → Prop} {P : Prop} {s t : State}

/-- The orders of a queue after the order of a bed has left it, or waits. -/
theorem Settled.mem {b : Nat} (h : Settled A s t b) {q : Order} (hq : q ∈ t.disp.orders) :
    (q.bed = b ∧ q.start = none ∧ q.state = .waiting) ∨ (q ∈ s.disp.orders ∧ q.bed ≠ b) := by
  rcases h.orders with e | ⟨p, hb, hs, hw, e⟩ <;> rw [e] at hq
  · exact .inr (mem_ordersWithout.mp hq)
  · rcases mem_insertOrder.mp hq with rfl | hq
    · exact .inl ⟨hb, hs, hw⟩
    · exact .inr (mem_ordersWithout.mp hq)

theorem Settled.one {b : Nat} (h : Settled A s t b) (hn : s.oneOrderPerBed) : t.oneOrderPerBed := by
  unfold State.oneOrderPerBed
  rcases h.orders with e | ⟨p, hb, _, _, e⟩ <;> rw [e]
  · exact hn.sublist (List.filter_sublist.map _)
  · exact hb ▸ oneOrder_insert hn p

theorem Moves.startLaw (h : Moves A P s t) : s.startLaw → t.startLaw := by
  have put : ∀ {s : State} {p : Order}, (p.start.isSome = true ↔ p.state ≠ .waiting) → s.startLaw → (s.putOrder p).startLaw :=
    fun {s p} hp law => ⟨oneOrder_insert law.one p, fun q hq => by
      rcases State.mem_putOrder.mp hq with rfl | ⟨hq, _⟩
      · exact hp
      · exact law.starts q hq⟩
  induction h with
  | steady h => exact fun law => ⟨by unfold State.oneOrderPerBed; rw [h.orders]; exact law.one, by rw [h.orders]; exact law.starts⟩
  | trans _ _ ih1 ih2 => exact fun law => ih2 (ih1 law)
  | pour s w n => exact fun law => ⟨by unfold State.oneOrderPerBed; simpa using law.one, by simpa using law.starts⟩
  | dawn s => exact fun law => ⟨law.one, law.starts⟩
  | put h p bed waiting start =>
    intro law
    refine put ?_ law
    rw [isSome_of_terms start, ne_eq, waiting]
    exact law.starts _ (State.order_mem h).1
  | create p none start waiting => exact put (by simp [start, waiting])
  | drop h =>
    exact fun law => ⟨law.one.sublist (List.filter_sublist.map _), fun q hq => law.starts q (mem_ordersWithout.mp hq).1⟩
  | fault s =>
    refine fun law => ⟨?_, fun q hq => ?_⟩
    · have e : (s.disp.orders.map Order.faulted).map Order.bed = s.disp.orders.map Order.bed := by
        rw [List.map_map]
        exact List.map_congr_left (fun o _ => o.faulted_bed)
      unfold State.oneOrderPerBed
      rw [e]
      exact law.one
    · obtain ⟨o, ho, rfl⟩ := List.mem_map.mp hq
      rw [o.faulted_start, ne_eq, o.faulted_waiting]
      exact law.starts o ho
  | unhold s b r => exact fun law => ⟨law.one, law.starts⟩
  | recount h start hold k =>
    intro law
    refine put ?_ law
    have := law.starts _ (State.order_mem h).1
    rw [start] at this
    simpa using this
  | cap hold n => exact fun law => ⟨law.one, law.starts⟩
  | ends h start within charged settled =>
    intro law
    have orders := charged.orders
    refine ⟨settled.one (by unfold State.oneOrderPerBed; rw [orders]; exact law.one), fun q hq => ?_⟩
    rcases settled.mem hq with ⟨_, hs, hw⟩ | ⟨hq, _⟩
    · simp [hs, hw]
    · exact law.starts q (orders ▸ hq)
  | @trim s b o st h start dt limit n asked =>
    intro law
    have released : (s.releaseWater st.source (st.volume - min st.volume (dt + limit))).startLaw :=
      ⟨by unfold State.oneOrderPerBed; rw [State.releaseWater_disp]; exact law.one, by rw [State.releaseWater_disp]; exact law.starts⟩
    refine put ?_ released
    have := law.starts _ (State.order_mem h).1
    rw [start] at this
    simpa using this
  | test s c d => exact fun law => ⟨law.one, law.starts⟩

/-- No order has a start. -/
def State.noStarts (s : State) : Prop := ∀ o ∈ s.disp.orders, o.start = none

/-- Moves begin no start where there is none. -/
theorem Moves.noStarts (h : Moves A P s t) : s.noStarts → t.noStarts := by
  have put : ∀ {s : State} {p : Order}, (s.noStarts → p.start = none) → s.noStarts → (s.putOrder p).noStarts :=
    fun {s p} hp law q hq => by
      rcases State.mem_putOrder.mp hq with rfl | ⟨hq, _⟩
      · exact hp law
      · exact law q hq
  induction h with
  | steady h => exact fun law o ho => law o (h.orders ▸ ho)
  | trans _ _ ih1 ih2 => exact fun law => ih2 (ih1 law)
  | pour s w n => exact fun law o ho => law o (by simpa using ho)
  | dawn s => exact id
  | put h p bed waiting start =>
    refine put (fun law => ?_)
    have := isSome_of_terms start
    rw [law _ (State.order_mem h).1] at this
    simpa using this
  | create p none start waiting => exact put (fun _ => start)
  | drop h => exact fun law q hq => law q (mem_ordersWithout.mp hq).1
  | fault s =>
    intro law q hq
    obtain ⟨o, ho, rfl⟩ := List.mem_map.mp hq
    rw [o.faulted_start]
    exact law o ho
  | unhold s b r => exact id
  | recount h start => exact put (fun law => by rw [law _ (State.order_mem h).1] at start; cases start)
  | cap hold n => exact id
  | ends h start within charged settled =>
    intro law q hq
    rcases settled.mem hq with ⟨_, hs, _⟩ | ⟨hq, _⟩
    · exact hs
    · exact law q (charged.orders ▸ hq)
  | @trim s b o st h start =>
    intro law
    have := law _ (State.order_mem h).1
    rw [start] at this
    cases this
  | test s c d => exact id

/-! ### What stays around moves -/

theorem State.endTest_around (s : State) (c d : Nat) : Around A s (s.endTest c d) := by
  have freed : Steady A s (s.setCannon c { s.cannon c with test := .none, overrun := false, lastGood := none }) :=
    .setCannon s c _ (fun h => absurd rfl h) (fun _ _ => .inl)
  exact ⟨rfl, rfl, freed.tests, freed.asks, id, id⟩

/-- What surrounds every move surrounds a course of them. -/
theorem Moves.around (h : Moves A P s t) : Around A s t := by
  induction h with
  | steady h => exact h.toAround
  | trans _ _ ih1 ih2 => exact ih1.trans ih2
  | pour s w n => cases w <;> exact .of rfl rfl rfl rfl rfl id
  | ends h start within charged settled => exact charged.toAround.trans settled.toAround
  | @trim s b o st =>
    cases hw : st.source <;> exact .of rfl rfl rfl rfl rfl id
  | test s c d => exact s.endTest_around c d
  | _ => exact .of rfl rfl rfl rfl rfl id

/-! ### Reservations -/

theorem Order.reservedOn_start {o : Order} {st : Start} (h : o.start = some st) (w : WaterSource) :
    o.reservedOn w = if st.source = w then st.volume else 0 := by
  unfold Order.reservedOn
  rw [h]

theorem Order.reservedOn_none {o : Order} (h : o.start = none) (w : WaterSource) : o.reservedOn w = 0 := by
  unfold Order.reservedOn
  rw [h]

theorem Order.reservedOn_terms {p o : Order} (h : p.start.map Start.terms = o.start.map Start.terms) (w : WaterSource) :
    p.reservedOn w = o.reservedOn w := by
  unfold Order.reservedOn
  cases hp : p.start <;> cases ho : o.start <;> simp [hp, ho] at h ⊢
  rw [Start.terms_source h, Start.terms_volume h]

/-- A start's volume is part of what is reserved on its source. -/
theorem State.volume_le_reserved {s : State} (law : s.startLaw) (hr : s.reservedLaw) {b : Nat} {o : Order}
    (h : s.order b = some o) {st : Start} (hs : o.start = some st) : st.volume ≤ (s.source st.source).reserved := by
  have := sum_ordersWithout law.one h (Order.reservedOn st.source)
  rw [(hr st.source).1, Order.reservedOn_start hs, if_pos rfl] at *
  omega

theorem State.source_setSource_if (s : State) (w z : WaterSource) (r : Source) :
    (s.setSource w r).source z = if z = w then r else s.source z := by
  cases w <;> cases z <;> rfl

theorem State.testCharge_le (s : State) (c d : Nat) :
    s.testCharge c d ≤ s.water.fresh.balance - s.water.fresh.reserved ∧ s.testCharge c d ≤ s.conf.fCap - s.water.freshToday ∧
      s.testCharge c d ≤ d := by
  unfold State.testCharge Source.available
  omega

/-- What a source has reserved and holds after a test has ended (R87). -/
theorem State.endTest_source (s : State) (c d : Nat) (w : WaterSource) : ((s.endTest c d).source w).reserved = (s.source w).reserved ∧
    ((s.endTest c d).source w).balance = (s.source w).balance - (if w = .fresh then s.testCharge c d else 0) := by
  cases w <;> exact ⟨rfl, rfl⟩

/-- Every move keeps the reservations of the two sources (R67, R68). -/
theorem Moves.reservedLaw (h : Moves A P s t) : s.startLaw → s.reservedLaw → t.reservedLaw := by
  induction h with
  | steady h =>
    intro _ hr w
    rw [h.reserved, h.balance, h.orders]
    exact hr w
  | trans h1 _ ih1 ih2 => exact fun law hr => ih2 (h1.startLaw law) (ih1 law hr)
  | pour s w n low high =>
    intro _ hr z
    obtain ⟨sum, within, limit⟩ := hr z
    rw [State.source_setSource_if, State.setSource_disp]
    split
    · rename_i e
      subst e
      exact ⟨sum, low within, high limit⟩
    · exact ⟨sum, within, limit⟩
  | dawn s => exact fun _ hr w => by cases w; exacts [hr .recycled, hr .fresh]
  | put h p bed waiting start =>
    intro law hr w
    have sum := sum_putOrder law.one h bed (Order.reservedOn w)
    rw [Order.reservedOn_terms start] at sum
    have sum := Nat.add_right_cancel sum
    obtain ⟨total, rest⟩ := hr w
    exact ⟨total.trans sum.symm, rest⟩
  | @create s p none start waiting =>
    intro law hr w
    have sum := ((insertOrder_perm p (ordersWithout p.bed s.disp.orders)).map (Order.reservedOn w)).sum_eq
    rw [ordersWithout_of_none none, List.map_cons, List.sum_cons, Order.reservedOn_none start, zero_add] at sum
    rw [State.putOrder_orders, ordersWithout_of_none none, sum]
    exact hr w
  | drop h waiting =>
    intro law hr w
    have sum := sum_ordersWithout law.one h (Order.reservedOn w)
    rw [Order.reservedOn_none (law.waiting (State.order_mem h).1 waiting), add_zero] at sum
    dsimp only
    rw [sum]
    exact hr w
  | fault s =>
    intro _ hr w
    have e : (s.disp.orders.map Order.faulted).map (Order.reservedOn w) = s.disp.orders.map (Order.reservedOn w) := by
      rw [List.map_map]
      refine List.map_congr_left (fun o _ => ?_)
      simp only [Function.comp_apply, Order.reservedOn, o.faulted_start]
    dsimp only
    rw [e]
    exact hr w
  | unhold s b r => exact fun _ hr => hr
  | @recount s b o st h start hold k =>
    intro law hr w
    have sum := sum_putOrder law.one h (p := { o with start := some { st with count := k } }) rfl (Order.reservedOn w)
    rw [Order.reservedOn_start start, Order.reservedOn_start (o := { o with start := some { st with count := k } }) rfl] at sum
    have sum := Nat.add_right_cancel sum
    obtain ⟨total, rest⟩ := hr w
    exact ⟨total.trans sum.symm, rest⟩
  | cap hold n => exact fun _ hr => hr
  | @ends s u t b o st d h start within charged settled =>
    intro law hr w
    have volume := State.volume_le_reserved law hr h start
    have delivered := within law.one
    have sum := sum_ordersWithout law.one h (Order.reservedOn w)
    rw [Order.reservedOn_start start] at sum
    have left : (t.disp.orders.map (Order.reservedOn w)).sum = ((ordersWithout b s.disp.orders).map (Order.reservedOn w)).sum := by
      rw [← charged.orders]
      rcases settled.orders with e | ⟨p, _, hs, _, e⟩ <;> rw [e]
      rw [((insertOrder_perm p _).map _).sum_eq, List.map_cons, List.sum_cons, Order.reservedOn_none hs, zero_add]
    obtain ⟨total, bound, limit⟩ := hr w
    rw [State.source_congr settled.water, left]
    by_cases hw : w = st.source
    · subst hw
      rw [if_pos rfl] at sum
      rw [charged.reserved, charged.balance]
      omega
    · rw [if_neg (Ne.symm hw)] at sum
      rw [(charged.others w hw).1, (charged.others w hw).2]
      omega
  | @trim s b o st h start dt limit n =>
    intro law hr w
    have volume := State.volume_le_reserved law hr h start
    set s1 := s.releaseWater st.source (st.volume - min st.volume (dt + limit)) with hs1
    have orders : s1.disp = s.disp := State.releaseWater_disp ..
    have one : s1.oneOrderPerBed := by unfold State.oneOrderPerBed; rw [orders]; exact law.one
    have h' : s1.order b = some o := (State.order_congr (congrArg Dispatcher.orders orders) b).trans h
    have sum := sum_putOrder one h' (p := { o with start := some (st.trimmedBy dt limit ((s.bed b).holdIs n)) }) rfl (Order.reservedOn w)
    have trimmed : Order.reservedOn w { o with start := some (st.trimmedBy dt limit ((s.bed b).holdIs n)) } =
        if st.source = w then min st.volume (dt + limit) else 0 := rfl
    rw [Order.reservedOn_start start, trimmed, orders] at sum
    obtain ⟨total, bound, high⟩ := hr w
    have source : (s1.putOrder { o with start := some (st.trimmedBy dt limit ((s.bed b).holdIs n)) }).source w =
        if w = st.source then { s.source st.source with
          reserved := (s.source st.source).reserved - (st.volume - min st.volume (dt + limit)) } else s.source w :=
      s.source_setSource_if ..
    rw [source]
    by_cases hw : w = st.source
    · subst hw
      rw [if_pos rfl, if_pos rfl] at sum
      rw [if_pos rfl]
      dsimp only
      omega
    · rw [if_neg (Ne.symm hw), if_neg (Ne.symm hw)] at sum
      rw [if_neg hw]
      omega
  | test s c d =>
    intro _ hr w
    obtain ⟨total, bound, high⟩ := hr w
    obtain ⟨reserved, balance⟩ := s.endTest_source c d w
    rw [reserved, balance]
    refine ⟨total, ?_, by omega⟩
    split
    · rename_i e
      subst e
      have := (s.testCharge_le c d).1
      change _ ≤ (s.water.fresh.balance : Nat) - _
      have bound : s.water.fresh.reserved ≤ s.water.fresh.balance := bound
      change s.water.fresh.reserved ≤ _
      omega
    · omega

/-! ### The daily cap -/

/-- A test in progress stands alone: no order has a start. -/
def State.testsAlone (s : State) : Prop := ∀ c, (s.cannon c).test ≠ .none → s.noStarts

theorem Moves.testsAlone (h : Moves A P s t) (hs : s.testsAlone) : t.testsAlone :=
  fun c hc => h.noStarts (hs c (h.around.tests c hc))

theorem State.noStarts.reserved {s : State} (h : s.noStarts) (hr : s.reservedLaw) (w : WaterSource) :
    (s.source w).reserved = 0 := by
  rw [(hr w).1, List.sum_eq_zero_iff]
  intro n hn
  obtain ⟨o, ho, rfl⟩ := List.mem_map.mp hn
  exact Order.reservedOn_none (h o ho) w

/-- What the day's use of FRESH and its reservation become (R74, R77, R87): a move adds to their sum only with the charge of a test
in progress. -/
theorem Moves.freshCap (h : Moves A P s t) : s.startLaw → s.reservedLaw → s.testsAlone →
    s.water.freshToday + (s.source .fresh).reserved ≤ s.conf.fCap →
    t.water.freshToday + (t.source .fresh).reserved ≤ t.conf.fCap := by
  induction h with
  | steady h =>
    intro _ _ _ cap
    rw [h.today, h.reserved, h.conf]
    exact cap
  | trans h1 _ ih1 ih2 =>
    exact fun law hr alone cap => ih2 (h1.startLaw law) (h1.reservedLaw law hr) (h1.testsAlone alone) (ih1 law hr alone cap)
  | pour s w n => intro _ _ _ cap; cases w <;> exact cap
  | dawn s => exact fun _ _ _ cap => (Nat.add_le_add_right (Nat.zero_le _) _).trans cap
  | put | create | drop | fault | unhold | recount | cap => exact fun _ _ _ cap => cap
  | @ends s u t b o st d h start within charged settled =>
    intro law hr _ cap
    have volume := State.volume_le_reserved law hr h start
    have delivered := within law.one
    have source := State.source_congr settled.water .fresh
    rw [source, settled.water, settled.conf, charged.conf, charged.today]
    by_cases hw : st.source = .fresh
    · have reserved := charged.reserved
      rw [hw] at reserved volume
      rw [if_pos hw, reserved]
      omega
    · rw [if_neg hw, (charged.others .fresh (Ne.symm hw)).1]
      exact cap
  | @trim s b o st h start dt limit =>
    intro _ _ _ cap
    have source : ((s.releaseWater st.source (st.volume - min st.volume (dt + limit))).source .fresh).reserved ≤
        (s.source .fresh).reserved := by
      cases hw : st.source
      · exact le_rfl
      · exact Nat.sub_le _ _
    have today : (s.releaseWater st.source (st.volume - min st.volume (dt + limit))).water.freshToday = s.water.freshToday := by
      cases st.source <;> rfl
    have conf : (s.releaseWater st.source (st.volume - min st.volume (dt + limit))).conf = s.conf := by simp
    change (State.releaseWater _ _ _).water.freshToday + ((State.releaseWater _ _ _).source .fresh).reserved ≤
      (State.releaseWater _ _ _).conf.fCap
    rw [today, conf]
    omega
  | test s c d h =>
    intro _ hr alone cap
    change s.water.freshToday + s.testCharge c d + s.water.fresh.reserved ≤ s.conf.fCap
    have cap : s.water.freshToday + s.water.fresh.reserved ≤ s.conf.fCap := cap
    obtain ⟨_, room, charge⟩ := s.testCharge_le c d
    by_cases hd : d = 0
    · omega
    · have none : s.water.fresh.reserved = 0 := (alone c (h hd)).reserved hr .fresh
      omega

/-- With nothing reserved on FRESH, and the cap no more than `n`, no move raises the day's use above `n` or reserves FRESH. -/
theorem Moves.freshOver {n : Nat} (h : Moves A P s t) : s.startLaw → s.reservedLaw → s.conf.fCap ≤ n →
    (s.source .fresh).reserved = 0 → s.water.freshToday ≤ n → (t.source .fresh).reserved = 0 ∧ t.water.freshToday ≤ n := by
  induction h with
  | steady h =>
    intro _ _ _ none used
    rw [h.today, h.reserved]
    exact ⟨none, used⟩
  | trans h1 _ ih1 ih2 =>
    intro law hr cap none used
    obtain ⟨none1, used1⟩ := ih1 law hr cap none used
    exact ih2 (h1.startLaw law) (h1.reservedLaw law hr) (by rw [h1.around.conf]; exact cap) none1 used1
  | pour s w n => intro _ _ _ none used; cases w <;> exact ⟨none, used⟩
  | dawn s => exact fun _ _ _ none _ => ⟨none, Nat.zero_le _⟩
  | put | create | drop | fault | unhold | recount | cap => exact fun _ _ _ none used => ⟨none, used⟩
  | @ends s u t b o st d h start within charged settled =>
    intro law hr _ none used
    have volume := State.volume_le_reserved law hr h start
    have delivered := within law.one
    have source := State.source_congr settled.water .fresh
    rw [source, settled.water, charged.today]
    by_cases hw : st.source = .fresh
    · have reserved := charged.reserved
      rw [hw] at reserved volume
      rw [if_pos hw, reserved]
      omega
    · rw [if_neg hw, (charged.others .fresh (Ne.symm hw)).1]
      exact ⟨none, used⟩
  | @trim s b o st h start dt limit =>
    intro _ _ _ none used
    change ((State.releaseWater _ _ _).source .fresh).reserved = 0 ∧ (State.releaseWater _ _ _).water.freshToday ≤ n
    cases hw : st.source
    · exact ⟨none, used⟩
    · exact ⟨by change (s.source .fresh).reserved - _ = 0; omega, used⟩
  | test s c d h =>
    intro _ _ cap none used
    refine ⟨none, ?_⟩
    change s.water.freshToday + s.testCharge c d ≤ n
    have := (s.testCharge_le c d).2.1
    omega

end
end Sys2Proof.Machine
end

section
/-! SUPPORT. The events outside `Moves`: the resets, the load, a settings restart, the entry into MAINTENANCE, a test, a new hold and
the dispatch attempt. Every command is a `Course`: moves, with at most one such event among them. -/

namespace Sys2Proof.Machine

/-! ### Events beside the moves -/

/-- The water is as it was, a bed keeps its hold or loses it, the orders stay or leave together, and no TRIM is asked for that was
not. -/
structure Still (s t : State) : Prop where
  serial : t.beds.holdSerial = s.beds.holdSerial
  asks : ∀ l n, t.asksTrim l n → s.asksTrim l n
  hold : ∀ b, (t.bed b).hold = (s.bed b).hold ∨ (t.bed b).hold = none
  orders : t.disp.orders = s.disp.orders ∨ t.disp.orders = []
  reserved : ∀ w, (t.source w).reserved = (s.source w).reserved
  balance : ∀ w, (t.source w).balance = (s.source w).balance
  today : t.water.freshToday = s.water.freshToday

/-- What a state event of the mode, the tests or the settings leaves. -/
theorem Still.of {s t : State} (beds : t.beds = s.beds) (orders : t.disp.orders = s.disp.orders ∨ t.disp.orders = [])
    (asks : ∀ l n, t.asksTrim l n → s.asksTrim l n) (water : t.water = s.water) : Still s t :=
  ⟨by rw [beds], asks, fun b => .inl (by rw [State.bed_congr (congrArg BedTable.records beds)]), orders,
    fun w => by rw [State.source_congr water], fun w => by rw [State.source_congr water], by rw [water]⟩

/-- The reason of such an event, and what it does to the settings, the orders and the tests. -/
inductive Turn (c : Instr) (s u v : State) : Prop
  /-- The load leaves STARTING (R203). -/
  | load (command : ∃ a, c = .load a) (same : u = s) (starting : s.ctrl.mode = .starting) (orders : v.disp.orders = u.disp.orders)
      (tests : ∀ c, (v.cannon c).test = .none)
  /-- A settings restart begins (R206). -/
  | restart (conf : v.conf = u.conf) (orders : v.disp.orders = []) (tests : ∀ c, (v.cannon c).test = .none)
      (quiet : s.modeLaw → s.ctrl.mode = .maintenance ∧ s.ctrl.drain = none)
  /-- The drain begins (R181). -/
  | drain (conf : v.conf = u.conf) (orders : v.disp.orders = u.disp.orders) (line : v.line = u.line)
      (mode : s.ctrl.mode ≠ .maintenance)
  /-- A test is placed (R159). -/
  | test (conf : v.conf = u.conf) (orders : v.disp.orders = u.disp.orders) (before : s.ctrl.mode = .maintenance)
      (drained : s.ctrl.drain = none) (mode : v.ctrl.mode = .maintenance) (drain : v.ctrl.drain = none)

/-- What a command does, in the terms of the laws of water, orders, tests and holds. -/
inductive Course (A : Nat → Nat → Prop) (P : Prop) (c : Instr) (s t : State) : Prop
  | moves (h : Moves A P s t)
  | reset (k : ResetKind) (h : t = s.resetAs k)
  | turn {u v : State} (why : Turn c s u v) (before : Moves A P s u) (event : Still u v) (after : Moves A P v t)
  /-- A hold is created (R103). -/
  | hold {u : State} (b cap tag : Nat) (before : Moves A P s u) (none : (u.bed b).hold = none)
      (after : ∀ B : Nat → Nat → Prop, Moves B P (u.createHold b cap tag) t)
  | attempt (h : execDispatchAttempt s = .next t)

/-! ### The load -/

theorem State.taken_still (s : State) (S : Settings) (v : Bool) (m : Measurement) (f : Byte) : Still s (s.taken S v m f) := by
  have cannon : ∀ c, (s.taken S v m f).cannon c = Cannon.initial := nth_replicate 24 Cannon.initial
  have loaded : ∀ (r : Source) b, (r.loaded b).reserved = r.reserved ∧ (r.loaded b).balance = r.balance := fun r b => by
    cases b <;> exact ⟨rfl, rfl⟩
  refine ⟨rfl, fun l n h => ?_, fun b => ?_, .inl rfl, fun w => ?_, fun w => ?_, rfl⟩
  · rcases h with ⟨c, h⟩ | h
    · rw [cannon] at h
      cases h
    · cases h
  · unfold State.bed State.taken
    dsimp only
    split
    · exact .inl rfl
    · refine .inr ?_
      unfold nth
      split
      · rfl
      · rename_i hb
        cases h : (Vector.replicate 32 (Bed.initial S.wInit))[b - 1]? with
        | none => rfl
        | some r =>
          rw [Vector.getElem?_replicate] at h
          split at h
          · exact Option.some.inj h ▸ rfl
          · cases h
  · cases w <;> exact (loaded ..).1
  · cases w <;> exact (loaded ..).2

section
variable {A : Nat → Nat → Prop} {P : Prop}

theorem State.leaveStarting_moves {s : State} (v : Bool) (h : s.ctrl.mode = .starting) : Moves A P s (s.leaveStarting v) := by
  have enter : ∀ (u : State) m, u.ctrl.mode ≠ .maintenance → Moves A P u (u.enterMode m) :=
    fun u m hu => u.enterMode_moves m (fun e => absurd e hu)
  unfold State.leaveStarting
  split
  · dsimp only
    have automatic := enter s .automatic (by rw [h]; decide)
    split
    · exact automatic.trans (enter _ .hold (by rw [State.enterMode_mode]; decide))
    · exact automatic
  · exact enter s .maintenance (by rw [h]; decide)

theorem State.loadGate_moves (s : State) : Moves A P s s.loadGate := by
  unfold State.loadGate
  split
  · exact s.judgeGate_moves _
  · exact .refl s

theorem State.resetBed_moves (s : State) (b : Nat) : Moves A P s (s.resetBed b) := by
  have unheld : Moves A P s (s.setBed b (Bed.initial s.conf.wInit)) := .unhold s b _ rfl
  have ended : Moves A P s (match (s.bed b).hold with
      | some h => ((s.setBed b (Bed.initial s.conf.wInit)).makeHoldEnded ⟨b, h.tag, h.tally⟩).cause
      | none => s.setBed b (Bed.initial s.conf.wInit)) := by
    split
    · exact (unheld.trans (State.makeHoldEnded_moves ..)).trans (State.cause_moves _)
    · exact unheld
  unfold State.resetBed
  dsimp only
  split
  · split
    · exact (ended.trans (State.setSurface_moves _ b .worked)).trans (State.setEntries_moves ..)
    · exact ended
  · exact ended.trans (State.setEntries_moves ..)

theorem restartBed_moves (before : Settings) (s : State) (b : Nat) : Moves A P s (restartBed before s b) := by
  unfold restartBed
  split
  · unfold State.keepBed
    dsimp only
    split
    · split
      · exact (s.judgeAtRisk_moves b).trans (State.setSurface_moves ..)
      · exact s.judgeAtRisk_moves b
    · exact s.judgeAtRisk_moves b
  · exact s.resetBed_moves b

theorem State.restartEffects_moves (s : State) (before : Settings) : Moves A P s (s.restartEffects before) := by
  have claims : ∀ (u : State) e, Moves A P u (restartClaim u e) := fun u e => by
    unfold restartClaim
    split
    · exact u.expireClaim_moves e
    · exact .refl u
  exact (Moves.foldl _ (restartBed_moves before) _ s).trans ((Moves.foldl _ claims _ _).trans (State.judgeForecast_moves _))

/-- Once the blocks have taken their settings, the load is a course of moves. -/
theorem State.load_moves {s : State} (S : Settings) (v : Bool) (hm : s.ctrl.mode = .starting) :
    ∃ m f, Moves A P (s.taken S v m f) (s.load S v) := by
  obtain ⟨m, f, blocks, -, -⟩ := s.loadBlocks_form S v
  have told : Moves A P (s.taken S v m f) (s.taken S v m f).flushStarted := .level (by simp [Level])
  have mode : ∀ u : State, u.ctrl.mode = .starting → Moves A P u (if s.restarting then u.judgeFreeze else u) ∧
      (if s.restarting then u.judgeFreeze else u).ctrl.mode = .starting := fun u hu => by
    split
    · refine ⟨u.judgeFreeze_moves, ?_⟩
      rw [State.judgeFreeze_starting hu]
      exact hu
    · exact ⟨.refl u, hu⟩
  have starting : (s.taken S v m f).flushStarted.ctrl.mode = .starting := by simpa using (show (s.taken S v m f).ctrl.mode = .starting from hm)
  obtain ⟨frozen, still⟩ := mode _ starting
  have left : Moves A P (s.taken S v m f) (s.loadLeft S v) := by
    unfold State.loadLeft
    rw [blocks]
    exact (told.trans frozen).trans (State.leaveStarting_moves v still)
  refine ⟨m, f, ?_⟩
  rw [State.load_eq]
  refine Moves.trans ?_ ((State.sweep_moves _).trans (State.cause_moves _))
  split
  · exact (left.trans (State.loadGate_moves _)).trans (State.restartEffects_moves ..)
  · exact left

/-! ### A settings restart -/

theorem State.cancelOrders_still (s : State) : Still s s.cancelOrders ∧ s.cancelOrders.line = s.line ∧
    s.cancelOrders.conf = s.conf := by
  have removed : ∀ (l : List Order) (u : State), let t := l.foldl (fun t o => t.removeOrder o .cancelled) u
      (∀ b, (t.bed b).hold = (u.bed b).hold) ∧ t.water = u.water ∧ t.line = u.line ∧ t.conf = u.conf ∧
        t.beds.holdSerial = u.beds.holdSerial := fun l u =>
    foldl_keeps (fun u t => (∀ b, (t.bed b).hold = (u.bed b).hold) ∧ t.water = u.water ∧ t.line = u.line ∧ t.conf = u.conf ∧
        t.beds.holdSerial = u.beds.holdSerial)
      (fun _ => ⟨fun _ => rfl, rfl, rfl, rfl, rfl⟩)
      (fun _ _ _ ⟨b1, w1, l1, c1, h1⟩ ⟨b2, w2, l2, c2, h2⟩ =>
        ⟨fun b => (b2 b).trans (b1 b), w2.trans w1, l2.trans l1, c2.trans c1, h2.trans h1⟩)
      (fun t (o : Order) => t.removeOrder o .cancelled)
      (fun t o => ⟨t.removeOrder_hold o .cancelled, by simp, by simp, by simp, by simp⟩) l u
  obtain ⟨hold, water, line, conf, serial⟩ := removed s.disp.orders s
  refine ⟨⟨serial, fun l n => ?_, fun b => .inl (hold b), .inr s.cancelOrders_orders,
    fun w => congrArg Source.reserved (State.source_congr water w), fun w => congrArg Source.balance (State.source_congr water w),
    congrArg Water.freshToday water⟩, line, conf⟩
  exact (State.asksTrim_congr (congrArg Line.cannons line) (congrArg Line.transaction line) l n).mp

/-- Once its test has ended, a cannon has none. -/
theorem endRunningTest_none (s : State) (c : Nat) : ((endRunningTest s c).cannon c).test = .none := by
  have tested : ∀ u : State, ((u.estimateTest c).cannon c).test = .none := fun u => by
    unfold State.estimateTest
    split
    · assumption
    all_goals
      change ((u.setCannon c _).cannon c).test = .none
      rw [State.cannon_setCannon]
      split
      · rfl
      · rename_i h
        unfold State.cannon
        rw [nth_outside _ _ (by omega)]
        rfl
  unfold endRunningTest
  split
  · assumption
  · by_contra h
    exact ((s.estimateStart c s.osc).estimateTest c |>.closeEstimate_moves (A := fun _ _ => True) (P := True) c).around.tests c h
      (tested _)

theorem endRunningTests_none (s : State) (c : Nat) : ((cannonNumbers.foldl endRunningTest s).cannon c).test = .none := by
  have later : ∀ (l : List Nat) (u : State), (u.cannon c).test = .none → ((l.foldl endRunningTest u).cannon c).test = .none :=
    fun l u h => by
      by_contra hn
      exact (Moves.foldl (A := fun _ _ => True) (P := True) _ endRunningTest_moves l u).around.tests c hn h
  by_cases hc : c ∈ cannonNumbers
  · obtain ⟨l1, l2, e⟩ := List.append_of_mem hc
    rw [e, List.foldl_append, List.foldl_cons]
    exact later _ _ (endRunningTest_none _ c)
  · refine later _ _ ?_
    unfold State.cannon
    rw [nth_outside _ _ (by rw [mem_cannonNumbers] at hc; omega)]
    rfl

/-- A settings restart from MAINTENANCE. -/
theorem State.beginRestart_course {s u : State} {c : Instr} (image : Option (List Byte)) (before : Moves A P s u)
    (quiet : s.modeLaw → s.ctrl.mode = .maintenance ∧ s.ctrl.drain = none) : Course A P c s (u.beginRestart image) := by
  obtain ⟨still, line, conf⟩ := (cannonNumbers.foldl endRunningTest u).cancelOrders_still
  have orders := u.beginRestart_orders image
  have ended := endRunningTests_none u
  have tests : Moves A P u (cannonNumbers.foldl endRunningTest u) := .foldl _ endRunningTest_moves _ u
  unfold State.beginRestart at orders ⊢
  generalize cannonNumbers.foldl endRunningTest u = v at *
  have none : ∀ c, (v.cancelOrders.cannon c).test = .none := fun c =>
    (congrArg Cannon.test (State.cannon_congr (congrArg Line.cannons line) c)).trans (ended c)
  refine .turn (.restart ?_ ?_ ?_ quiet) (before.trans tests) ?_ (.refl _)
  · exact conf
  · exact orders
  · exact none
  · exact ⟨still.serial, still.asks, still.hold, .inr orders, still.reserved, still.balance, still.today⟩

end

/-! ### The commands -/

section
variable {A : Nat → Nat → Prop} {P : Prop} {c : Instr}

theorem Course.of_next {s t u : State} (h : (Host.Outcome.next u : Out) = .next t) (hc : Course A P c s u) : Course A P c s t := by
  injection h with h
  exact h ▸ hc

/-- A request is a course when its owner's event is one, once the request has been taken. -/
theorem Course.serve (s : State) (node : Node) (code : Nat) (data : List Byte) (owner : State → State)
    (h : Moves A P s s.takeRequest → Course A P c s (owner s.takeRequest)) : Course A P c s (s.serve node code data owner) := by
  have taken : Moves A P s s.takeRequest := .level (by simp [Level])
  rcases s.serve_cases node code data owner with ⟨_, e⟩ | ⟨_, _, e⟩ | ⟨_, _, _, _, e⟩ | ⟨_, e⟩ <;> rw [e]
  · exact .moves (.refl s)
  · exact .moves (taken.trans (State.reply_moves ..))
  · exact .moves (taken.trans (State.reply_moves ..))
  · exact h taken

theorem State.holdSet_course {s u : State} (n : Node) (b cap tag : Nat) (before : Moves A P s u) :
    Course A P c s (u.holdSet n b cap tag) := by
  unfold State.holdSet
  split
  · exact .moves (before.trans (u.reply_moves ..))
  · split
    · rename_i hb
      exact .hold b _ tag before hb (fun _ => State.reply_moves ..)
    · rename_i hb
      split
      · exact .moves ((before.trans (State.changeCap_moves hb _ (Nat.le_max_right _ _))).trans (State.reply_moves ..))
      · exact .moves (before.trans (u.reply_moves ..))

/-- A write of a cannon's record asks for no TRIM that was not asked for, when what it holds is no new TRIM. -/
theorem State.asksTrim_setCannon {s : State} {c : Nat} {r : Cannon} {l n : Nat}
    (held : r.held.map HeldCommand.command = some (.trim l n) → (s.cannon c).held.map HeldCommand.command = some (.trim l n))
    (h : (s.setCannon c r).asksTrim l n) : s.asksTrim l n := by
  rcases h with ⟨a, ha⟩ | h
  · rw [State.cannon_setCannon] at ha
    split at ha
    · exact .inl ⟨c, held ha⟩
    · exact .inl ⟨a, ha⟩
  · exact .inr h

/-- Another command held for a cannon asks for no TRIM. -/
theorem State.asksTrim_place {s : State} {c l n : Nat} {k : LineCommand} (hk : k ≠ .trim l n) (h : (s.place c k).asksTrim l n) :
    s.asksTrim l n := by
  have held : (s.setCannon c { s.cannon c with held := some ⟨k, s.line.heldSerial⟩ }).asksTrim l n :=
    (State.asksTrim_congr rfl rfl l n).mp h
  exact State.asksTrim_setCannon (fun e => absurd (by simpa using e) hk) held

/-- A TEST is asked for a cannon (R143). -/
theorem State.placeTest_still (s : State) (c : Nat) (r : Cannon) (h : r.held = (s.cannon c).held) :
    Still s ((s.setCannon c r).place c .test) := by
  refine .of rfl (.inl rfl) (fun l n asked => ?_) rfl
  exact State.asksTrim_setCannon (fun e => h ▸ e) (State.asksTrim_place (fun e => by cases e) asked)

theorem State.testSpray_course {s : State} (n : Node) (k : Nat) (before : Moves A P s s.takeRequest) :
    Course A P c s (s.takeRequest.testSpray n k) := by
  have replied : ∀ r, Moves A P s (s.takeRequest.reply n 0x36 r []) := fun r => before.trans (State.reply_moves ..)
  unfold State.testSpray
  split
  · exact .moves (replied _)
  · split
    · exact .moves (replied _)
    · rename_i mode
      split
      · exact .moves (replied _)
      · rename_i idle
        split
        · exact .moves (replied _)
        · split
          · exact .moves (replied _)
          · unfold State.askTest
            split
            · exact .moves (before.trans (State.reply_moves ..))
            · have mode : s.takeRequest.ctrl.mode = .maintenance := by simpa using mode
              have drain : s.takeRequest.ctrl.drain = none := by
                simp only [Bool.or_eq_true, not_or, Bool.not_eq_true, Option.isSome_eq_false_iff, Option.isNone_iff_eq_none] at idle
                exact idle.1
              refine .turn (v := (s.takeRequest.setCannon k
                { s.takeRequest.cannon k with test := .placed, overrun := false, lastGood := none }).place k .test)
                (.test ?_ ?_ ?_ ?_ mode drain) before (s.takeRequest.placeTest_still k _ rfl) (State.reply_moves ..)
              · rfl
              · rfl
              · simpa using mode
              · simpa using drain

theorem State.maintEnter_course {s : State} (n : Node) (before : Moves A P s s.takeRequest) :
    Course A P c s (s.takeRequest.maintEnter n) := by
  unfold State.maintEnter
  split
  · exact .moves (before.trans (State.reply_moves ..))
  · rename_i mode
    have reserved : Moves A P s { s.takeRequest with port := { s.takeRequest.port with long := some ⟨n, 0x33⟩ } } :=
      before.trans (.level (by simp [Level]))
    have entered := reserved.trans (State.enterMode_moves _ .maintenance (fun _ => rfl))
    refine .turn (.drain ?_ ?_ ?_ (by simpa using mode)) entered ?_ (State.checkDrained_moves _)
    · rfl
    · rfl
    · rfl
    · exact .of rfl (.inl rfl) (fun _ _ => id) rfl

theorem State.maintExit_course {s : State} (n : Node) (before : Moves A P s s.takeRequest) :
    Course A P c s (s.takeRequest.maintExit n) := by
  unfold State.maintExit
  split
  · exact .moves (before.trans (State.reply_moves ..))
  · rename_i mode
    split
    · exact .moves (before.trans (State.reply_moves ..))
    · rename_i idle
      refine State.beginRestart_course _ (before.trans (State.reply_moves ..)) (fun _ => ⟨by simpa using mode, ?_⟩)
      simp only [State.takeRequest_ctrl, Bool.or_eq_true, not_or, Bool.not_eq_true, Option.isSome_eq_false_iff, Option.isNone_iff_eq_none] at idle
      exact idle.1

theorem execReadBack_course {s t : State} {d : List Host.Cell} (h : execReadBack d s = .next t) : Course A P c s t := by
  refine .of_next h ?_
  split
  · rename_i k hk
    split
    · exact .moves (.refl s)
    · have read : Moves A P s { s with store := { s.store with eeprom := withDiffering s.store.eeprom d } } :=
        .level (by simp [Level])
      dsimp only
      split
      · exact .moves (read.trans (State.failCommit_moves ..))
      · have numbered : ∀ u : State, Moves A P u { u with store := { u.store with
            working := { u.store.working with version := nextVersion u.store.working.version }, uncommitted := false } } :=
          fun u => .level (by simp [Level])
        refine State.beginRestart_course _ ((read.trans (numbered _)).trans (State.replyCommit_moves ..)) (fun law => ?_)
        obtain ⟨_, _, _, drain, commit, _⟩ := law
        refine ⟨(commit (by simp [hk])).1, ?_⟩
        cases hd : s.ctrl.drain with
        | none => rfl
        | some x => exact absurd (drain (by simp [hd])).2.1 (by simp [hk])
  · exact .moves (.refl s)

/-- Every command is a course. -/
theorem exec_course {s t : State} (law : s.orderLaw) (before : ∀ l n, s.asksTrim l n → A l n)
    (meter : P → ∀ bytes x r o st, c = .trim bytes → s.replyTaken x bytes r → s.serves x o st → st.holdPoint ≤ r.meter)
    (h : exec c s = .next t) : Course A P c s t := by
  cases hc : Instr.isMoves c with
  | true => exact .moves (exec_moves hc law before meter h)
  | false =>
    cases c with
    | powerOnReset => exact .of_next h (.reset .powerOn rfl)
    | externalReset => exact .of_next h (.reset .external rfl)
    | load a =>
      rcases execLoad_cases h with rfl | ⟨S, v, hm, _, rfl⟩
      · exact .moves (.refl _)
      · obtain ⟨m, f, moves⟩ := s.load_moves (A := A) (P := P) S v hm
        exact .turn (v := s.taken S v m f)
          (.load ⟨a, rfl⟩ rfl hm rfl (fun c => congrArg Cannon.test (nth_replicate 24 Cannon.initial c))) (.refl s)
          (s.taken_still S v m f) moves
    | dispatchAttempt => exact .attempt h
    | moistureHoldSet n b k g => exact .of_next h (.serve _ _ _ _ _ (State.holdSet_course n _ _ _))
    | testSpray n k => exact .of_next h (.serve _ _ _ _ _ (State.testSpray_course n _))
    | maintEnter n => exact .of_next h (.serve _ _ _ _ _ (State.maintEnter_course n))
    | maintExit n => exact .of_next h (.serve _ _ _ _ _ (State.maintExit_course n))
    | readBack d => exact execReadBack_course h
    | _ => cases hc

end
end Sys2Proof.Machine
end

section
/-! Every step keeps the reservations (R67, R68, R73 to R75) and the daily cap of FRESH (R71, R76, R87, R159). -/

namespace Sys2Proof.Machine

/-! ### The grant -/

theorem State.grant_water (s : State) (o : Order) (a : Award) :
    (s.grant o a).water = (s.reserveWater a.source (s.startVolume o a)).water := by
  simp [State.grant]

theorem State.grant_source (s : State) (o : Order) (a : Award) (w : WaterSource) : (s.grant o a).source w =
    if w = a.source then { s.source a.source with reserved := (s.source a.source).reserved + s.startVolume o a }
    else s.source w := by
  rw [State.source_congr (s.grant_water o a)]
  exact s.source_setSource_if ..

theorem State.grant_today (s : State) (o : Order) (a : Award) : (s.grant o a).water.freshToday = s.water.freshToday := by
  rw [s.grant_water]
  unfold State.reserveWater
  cases a.source <;> rfl

theorem State.startVolume_le_offer (s : State) (o : Order) (a : Award) : s.startVolume o a ≤ a.offer := by
  unfold State.startVolume
  dsimp only
  split <;> omega

theorem State.permitted_offer {s : State} {w v : WaterSource} {k : Origin} {n : Nat} (h : s.permitted w k = some (v, n)) :
    s.offerOf v k = some n := by
  unfold State.permitted at h
  split at h
  · split at h
    · cases h
      assumption
    · cases h
  · cases h

/-- The source chosen for an order makes the offer it is chosen with (R71, R72). -/
theorem State.chooseSource_offer {s : State} {k : Origin} {p : Preference} {w : WaterSource} {n : Nat}
    (h : s.chooseSource k p = some (w, n)) : s.offerOf w k = some n := by
  have either : s.eitherSource k = some (w, n) → s.offerOf w k = some n := by
    unfold State.eitherSource
    split
    · intro h
      cases h
      exact State.permitted_offer (by assumption)
    · exact State.permitted_offer
  unfold State.chooseSource at h
  split at h
  · exact State.permitted_offer h
  · exact State.permitted_offer h
  · exact State.permitted_offer h
  · exact State.permitted_offer h
  · exact either h

/-- An offer lies within the available water, and one of FRESH within the room under the cap (R71, R76). -/
theorem State.offerOf_le {s : State} {w : WaterSource} {k : Origin} {n : Nat} (h : s.offerOf w k = some n) :
    n ≤ (s.source w).available ∧ (w = .fresh → n ≤ s.freshRoom) := by
  cases w with
  | recycled =>
    refine ⟨?_, fun h => by cases h⟩
    unfold State.offerOf at h
    cases k <;> dsimp only at h <;> split at h <;> cases h
    · exact le_rfl
    · exact le_rfl
    · exact le_rfl
    · exact Nat.sub_le _ _
  | fresh =>
    cases k <;> cases h <;> exact ⟨Nat.min_le_left _ _, fun _ => Nat.min_le_right _ _⟩

theorem State.judgeOrder_offer {s : State} {o : Order} {a : Award} (h : s.judgeOrder o = .ok a) :
    s.offerOf a.source o.origin = some a.offer := by
  unfold State.judgeOrder at h
  split at h
  · cases h
  · split at h
    · cases h
    · split at h
      · cases h
      · split at h
        · cases h
        · rename_i chosen
          split at h
          · cases h
          · split at h
            · cases h
              exact State.chooseSource_offer chosen
            · cases h

/-- A granted volume is available on its source, and from FRESH there is room for it. -/
theorem State.startVolume_le {s : State} {o : Order} {a : Award} (h : s.judgeOrder o = .ok a) :
    s.startVolume o a ≤ (s.source a.source).available ∧ (a.source = .fresh → s.startVolume o a ≤ s.freshRoom) :=
  have offer := s.startVolume_le_offer o a
  have bounds := State.offerOf_le (State.judgeOrder_offer h)
  ⟨offer.trans bounds.1, fun hw => offer.trans (bounds.2 hw)⟩

/-! ### The attempt -/

/-- A dispatch attempt keeps what moves and grants keep. -/
theorem attempt_keeps {A : Nat → Nat → Prop} {P : Prop} (K : State → Prop)
    (moves : ∀ u v, Moves A P u v → v.water.freshToday = u.water.freshToday → K u → K v)
    (grant : ∀ s b o a, s.order b = some o → o.state = .waiting → s.judgeOrder o = .ok a → K s → K (s.grant o a))
    {s t : State} (h : execDispatchAttempt s = .next t) (hs : K s) : K t := by
  have short : ∀ (u : State) b, Moves A P u (judgeShort u b) := fun u b => by
    unfold judgeShort
    split
    · exact .refl u
    · split
      · split
        · exact (u.setBed_moves b _ (by rfl)).trans (State.askRecord_moves ..)
        · exact .refl u
      · split
        · exact u.setBed_moves b _ rfl
        · exact .refl u
  have ended : ∀ u : State, Moves A P u u.endAttempt := fun u => by
    refine Moves.trans ?_ (.foldl _ short _ _)
    unfold State.makeDemand
    split
    · exact .level (by simp [Level, State.notice])
    · exact .refl u
  unfold execDispatchAttempt at h
  injection h with h
  subst h
  split
  · refine moves _ _ (ended _) (by simp) (scans_keeps K (fun u b o k ho => moves _ _ (.put ho _ rfl .rfl rfl) rfl) grant _ _ ?_)
    exact moves s _ (.level (by simp [Level])) rfl hs
  · exact hs

/-! ### What grants keep -/

theorem State.grant_startLaw {s : State} {o : Order} {a : Award} (h : s.startLaw) : (s.grant o a).startLaw := by
  refine ⟨?_, fun q hq => ?_⟩
  · unfold State.oneOrderPerBed
    rw [State.grant_orders]
    exact oneOrder_insert h.one (s.granted o a)
  · rw [State.grant_orders] at hq
    rcases mem_insertOrder.mp hq with rfl | hq
    · simp [State.granted]
    · exact h.starts q (mem_ordersWithout.mp hq).1

theorem State.grant_reservedLaw {s : State} {b : Nat} {o : Order} {a : Award} (ho : s.order b = some o)
    (hw : o.state = .waiting) (ha : s.judgeOrder o = .ok a) (law : s.startLaw) (h : s.reservedLaw) :
    (s.grant o a).reservedLaw := by
  intro w
  obtain ⟨total, within, limit⟩ := h w
  obtain ⟨hm, rfl⟩ := State.order_mem ho
  have rest := sum_ordersWithout law.one ho (Order.reservedOn w)
  rw [Order.reservedOn_none (law.waiting hm hw), add_zero] at rest
  have sum := ((insertOrder_perm (s.granted o a) (ordersWithout o.bed s.disp.orders)).map (Order.reservedOn w)).sum_eq
  have granted : Order.reservedOn w (s.granted o a) = if a.source = w then s.startVolume o a else 0 := rfl
  rw [List.map_cons, List.sum_cons, rest, granted] at sum
  have offer := (State.startVolume_le ha).1
  rw [State.grant_orders, sum, State.grant_source]
  by_cases e : w = a.source
  · subst e
    rw [if_pos rfl, if_pos rfl]
    unfold Source.available at offer
    dsimp only
    omega
  · rw [if_neg e, if_neg (Ne.symm e), zero_add]
    exact ⟨total, within, limit⟩

/-! ### Reservations -/

/-- Where the water is as it was, and the orders stay or leave without a start, the reservations hold. -/
theorem Still.reservedLaw {u v : State} (h : Still u v) (gone : v.disp.orders = u.disp.orders ∨ u.noStarts)
    (hr : u.reservedLaw) : v.reservedLaw := by
  intro w
  obtain ⟨total, within, limit⟩ := hr w
  have same : v.disp.orders = u.disp.orders → (v.source w).reserved = (v.disp.orders.map (Order.reservedOn w)).sum :=
    fun e => by rw [h.reserved, e, total]
  refine ⟨?_, by rw [h.reserved, h.balance]; exact within, by rw [h.balance]; exact limit⟩
  rcases gone with e | none
  · exact same e
  · rcases h.orders with e | e
    · exact same e
    · rw [h.reserved, none.reserved hr w, e]
      rfl

theorem Still.startLaw {u v : State} (h : Still u v) (law : u.startLaw) : v.startLaw := by
  rcases h.orders with e | e
  · exact ⟨by unfold State.oneOrderPerBed; rw [e]; exact law.one, by rw [e]; exact law.starts⟩
  · exact ⟨by unfold State.oneOrderPerBed; rw [e]; exact List.nodup_nil, by simp [e]⟩

/-- In MAINTENANCE with the drain ended no order has a start (R133, R181). -/
theorem State.noStarts_of_drained {s : State} (law : s.startLaw) (hm : s.modeLaw) (mode : s.ctrl.mode = .maintenance)
    (drain : s.ctrl.drain = none) : s.noStarts := by
  obtain ⟨_, _, _, _, _, drained⟩ := hm
  intro o ho
  have idle := List.all_eq_true.mp (drained mode drain) o ho
  refine law.waiting ho ?_
  unfold Order.inStart at idle
  cases hs : o.state <;> simp [hs] at idle ⊢

/-- A special event leaves the orders, or they have no start. -/
theorem Turn.orders {A : Nat → Nat → Prop} {P : Prop} {c : Instr} {s u v : State} (why : Turn c s u v) (before : Moves A P s u)
    (law : s.startLaw) (hm : s.modeLaw) : v.disp.orders = u.disp.orders ∨ u.noStarts := by
  cases why with
  | load command same starting orders => exact .inl orders
  | restart conf orders tests quiet =>
    obtain ⟨mode, drain⟩ := quiet hm
    exact .inr (before.noStarts (State.noStarts_of_drained law hm mode drain))
  | drain conf orders => exact .inl orders
  | test conf orders => exact .inl orders

theorem State.resetAs_reservedLaw (s : State) (k : ResetKind) : (s.resetAs k).reservedLaw := by
  intro w
  cases w <;> exact ⟨rfl, Nat.zero_le _, Nat.zero_le _⟩

/-! ### A new hold -/

/-- A hold has been created on a bed, and the bed's start counts from here (R101, R103); its TRIM is not yet asked for. -/
def State.heldFrom (s : State) (b cap tag : Nat) : State :=
  let s1 := s.setBed b { s.bed b with hold := some ⟨cap, tag, 0, s.beds.holdSerial⟩ }
  ({ s1 with beds := { s1.beds with holdSerial := s.beds.holdSerial + 1 } } : State).countFromHere b cap

theorem State.countFromHere_beds (s : State) (r : BedTable) (b cap : Nat) :
    ({ s with beds := r } : State).countFromHere b cap = { s.countFromHere b cap with beds := r } := by
  unfold State.countFromHere
  rw [show ({ s with beds := r } : State).order b = s.order b from rfl]
  cases s.order b with
  | none => rfl
  | some o =>
    cases hs : o.start with
    | none => simp only [hs]
    | some st =>
      simp only [hs]
      rfl

/-- A new hold is one write of its bed beside the start's new count. -/
theorem State.heldFrom_eq (s : State) (b cap tag : Nat) : s.heldFrom b cap tag =
    { s.countFromHere b cap with beds :=
      { (s.setBed b { s.bed b with hold := some ⟨cap, tag, 0, s.beds.holdSerial⟩ }).beds with
        holdSerial := s.beds.holdSerial + 1 } } :=
  s.countFromHere_beds _ b cap

section
variable {A : Nat → Nat → Prop} {P : Prop}

theorem State.countFromHere_moves (s : State) (b cap : Nat) (h : (s.bed b).hold = none) :
    Moves A P s (s.countFromHere b cap) := by
  unfold State.countFromHere
  split
  · exact .refl s
  · rename_i o ho
    split
    · exact .refl s
    · rename_i st hst
      exact .recount ho hst h _

/-- What follows the creation of a hold: the TRIM, the attempt and the judgment of the risk. -/
theorem State.createHold_moves (s : State) (b cap tag : Nat) (asked : A cap s.beds.holdSerial)
    (ahead : P → ∀ o st, (s.heldFrom b cap tag).order b = some o → o.start = some st → min st.holdPoint st.volume ≤ 0) :
    Moves A P (s.heldFrom b cap tag) (s.createHold b cap tag) := by
  change Moves A P (s.heldFrom b cap tag) ((((s.heldFrom b cap tag).trimOrder b cap s.beds.holdSerial).cause).judgeAtRisk b)
  generalize hu : s.heldFrom b cap tag = u at ahead ⊢
  refine Moves.trans (Moves.trans ?_ (State.cause_moves _)) (State.judgeAtRisk_moves ..)
  unfold State.trimOrder
  split
  · exact .refl u
  · rename_i o ho
    split
    · exact .refl u
    · rename_i st hst
      split
      · unfold State.askTrim
        split
        · exact .refl u
        · rename_i l left right n held
          have lowered : Steady A u (u.setCannon st.cannon
              { u.cannon st.cannon with held := some ⟨.start (min l cap) left right, n⟩ }) :=
            .setCannon u _ _ id (fun _ _ h => by cases h)
          exact (Moves.steady lowered).trans (State.takeTrim_moves _ b 0 cap _ asked (fun hp o st ho hst => ahead hp o st ho hst))
        · exact .refl u
        · exact u.place_moves _ _ (fun l n h => by cases h; exact asked)
      · exact .refl u

end

/-- What a law of the orders, the water and the settings makes of a new hold. -/
theorem State.createHold_keeps {s : State} {b : Nat} (cap tag : Nat) (K : State → Prop) (none : (s.bed b).hold = none)
    (moves : ∀ u v, Moves (fun _ _ => True) False u v → K u → K v)
    (beds : ∀ (u : State) (r : BedTable), K u → K { u with beds := r }) (h : K s) : K (s.createHold b cap tag) := by
  refine moves _ _ (s.createHold_moves b cap tag trivial (fun hf => hf.elim)) ?_
  rw [s.heldFrom_eq]
  exact beds _ _ (moves _ _ (s.countFromHere_moves b cap none) h)

/-! ### Every step keeps the reservations -/

/-- What a step leads to, by what its command leads to, where neither premise nor conclusion reads the queue or the oscillator. -/
theorem step_leads (K Q : State → Prop) (queue : ∀ (s : State) l, K s → K { s with pending := l })
    (time : ∀ (s : State) n, K s → Q { s with osc := n }) (command : ∀ c s t, K s → exec c s = .next t → Q t)
    {s t : State} (h : K s) (hx : step s = .next t) : Q t := by
  unfold step at hx
  split at hx
  · exact command _ _ t (queue s _ h) hx
  · injection hx with hx
    exact hx ▸ time s _ h

theorem exec_reservedLaw {c : Instr} {s t : State} (law : s.orderLaw) (hm : s.modeLaw) (hr : s.reservedLaw)
    (h : exec c s = .next t) : t.reservedLaw := by
  have starts := State.startLaw_of_orderLaw law
  have moved : ∀ u v, Moves (fun _ _ => True) False u v → u.startLaw ∧ u.reservedLaw → v.startLaw ∧ v.reservedLaw :=
    fun u v m ⟨one, res⟩ => ⟨m.startLaw one, m.reservedLaw one res⟩
  have course : Course (fun _ _ => True) False c s t := exec_course law (fun _ _ _ => trivial) (fun hf => hf.elim) h
  cases course with
  | moves m => exact (moved s t m ⟨starts, hr⟩).2
  | reset k e => exact e ▸ s.resetAs_reservedLaw k
  | @turn u v why before event after =>
    obtain ⟨one, res⟩ := moved s u before ⟨starts, hr⟩
    exact (moved v t after ⟨event.startLaw one, event.reservedLaw (why.orders before starts hm) res⟩).2
  | hold b cap tag before none after =>
    exact (moved _ t (after _) (State.createHold_keeps cap tag (fun u => u.startLaw ∧ u.reservedLaw) none moved
      (fun u r h => ⟨⟨h.1.one, h.1.starts⟩, h.2⟩) (moved s _ before ⟨starts, hr⟩))).2
  | attempt e =>
    exact (attempt_keeps (fun u => u.startLaw ∧ u.reservedLaw) (fun u v m _ => moved u v m)
      (fun u b o a ho hw ha hu => ⟨State.grant_startLaw hu.1, State.grant_reservedLaw ho hw ha hu.1 hu.2⟩) e ⟨starts, hr⟩).2

/-- Settles O13: `Moves.reservedLaw` for the kinds of move, and `grant_reservedLaw` for the one event that reserves. -/
theorem reservationsMatchTheStarts : Obligations.ReservationsMatchTheStarts := by
  intro s t law hm hr hx
  exact step_leads (fun s => s.orderLaw ∧ s.modeLaw ∧ s.reservedLaw) State.reservedLaw (fun _ _ h => h) (fun _ _ h => h.2.2)
    (fun _ _ _ ⟨law, hm, hr⟩ => exec_reservedLaw law hm hr) ⟨law, hm, hr⟩ hx

end Sys2Proof.Machine
end

section
/-! Every step keeps the daily cap of FRESH and the place of the tests (R71, R73, R74, R76, R87, R159). -/

namespace Sys2Proof.Machine

/-- The laws on which the daily cap rests: the starts, the reservations, and that a test stands alone. -/
structure State.accountLaw (s : State) : Prop where
  starts : s.startLaw
  reserved : s.reservedLaw
  alone : s.testsAlone

/-- A test is in progress only in MAINTENANCE with the drain ended (R159). -/
def State.testLaw (s : State) : Prop := ∀ c, (s.cannon c).test ≠ .none → s.ctrl.mode = .maintenance ∧ s.ctrl.drain = none

/-- The day's use of FRESH and its reservation fit the cap (R76). -/
def State.underFreshCap (s : State) : Prop := s.water.freshToday + s.water.fresh.reserved ≤ s.conf.fCap

/-- Nothing is reserved on FRESH, whose cap and whose use of the day are no more than `n`. -/
def State.freshSpent (n : Nat) (s : State) : Prop :=
  s.conf.fCap ≤ n ∧ s.water.fresh.reserved = 0 ∧ s.water.freshToday ≤ n

section
variable {A : Nat → Nat → Prop} {P : Prop}

theorem Moves.accountLaw {s t : State} (m : Moves A P s t) (h : s.accountLaw) : t.accountLaw :=
  ⟨m.startLaw h.starts, m.reservedLaw h.starts h.reserved, m.testsAlone h.alone⟩

theorem Moves.underFreshCap {s t : State} (m : Moves A P s t) (h : s.accountLaw) (hc : s.underFreshCap) : t.underFreshCap :=
  m.freshCap h.starts h.reserved h.alone hc

theorem Moves.freshSpent {n : Nat} {s t : State} (m : Moves A P s t) (h : s.accountLaw) (hc : s.freshSpent n) : t.freshSpent n := by
  obtain ⟨cap, none, used⟩ := hc
  exact ⟨by rw [m.around.conf]; exact cap, m.freshOver h.starts h.reserved cap none used⟩

theorem Moves.testLaw {s t : State} (m : Moves A P s t) (h : s.testLaw) : t.testLaw := fun c hc =>
  have ⟨mode, drain⟩ := h c (m.around.tests c hc)
  ⟨m.around.mode mode, m.around.drain drain⟩

theorem State.accountLaw_of {s : State} (law : s.orderLaw) (hm : s.modeLaw) (hr : s.reservedLaw) (ht : s.testLaw) : s.accountLaw :=
  ⟨State.startLaw_of_orderLaw law, hr, fun c hc =>
    have ⟨mode, drain⟩ := ht c hc
    State.noStarts_of_drained (State.startLaw_of_orderLaw law) hm mode drain⟩

/-! ### The special events -/

theorem Turn.accountLaw {c : Instr} {s u v : State} (why : Turn c s u v) (before : Moves A P s u) (event : Still u v)
    (hm : s.modeLaw) (ht : s.testLaw) (h : s.accountLaw) : v.accountLaw := by
  have hu := before.accountLaw h
  refine ⟨event.startLaw hu.starts, event.reservedLaw (why.orders before h.starts hm) hu.reserved, fun c hc => ?_⟩
  cases why with
  | load command same starting orders tests => exact absurd (tests c) hc
  | restart conf orders tests => exact absurd (tests c) hc
  | drain conf orders line mode =>
    rw [State.cannon_congr (congrArg Line.cannons line)] at hc
    exact absurd (ht c (before.around.tests c hc)).1 mode
  | test conf orders mode drain =>
    intro o ho
    exact before.noStarts (State.noStarts_of_drained h.starts hm mode drain) o (orders ▸ ho)

theorem Turn.testLaw {c : Instr} {s u v : State} (why : Turn c s u v) (before : Moves A P s u) (ht : s.testLaw) : v.testLaw := by
  intro c hc
  cases why with
  | load command same starting orders tests => exact absurd (tests c) hc
  | restart conf orders tests => exact absurd (tests c) hc
  | drain conf orders line mode =>
    rw [State.cannon_congr (congrArg Line.cannons line)] at hc
    exact absurd (ht c (before.around.tests c hc)).1 mode
  | test conf orders _ _ mode drain => exact ⟨mode, drain⟩

/-- Only the load changes the settings. -/
theorem Turn.conf {c : Instr} {s u v : State} (why : Turn c s u v) (hc : ∀ a, c ≠ .load a) : v.conf = u.conf := by
  cases why with
  | load command => exact absurd command.choose_spec (hc _)
  | restart conf => exact conf
  | drain conf => exact conf
  | test conf => exact conf

theorem Still.fresh {u v : State} (h : Still u v) : v.water.fresh.reserved = u.water.fresh.reserved := h.reserved .fresh

/-! ### The grant -/

theorem State.setCannon_test {s : State} {k : Nat} {r : Cannon} (h : r.test = (s.cannon k).test) (c : Nat) :
    ((s.setCannon k r).cannon c).test = (s.cannon c).test := by
  rw [State.cannon_setCannon]
  split
  · rename_i e
    rw [h, e.1]
  · rfl

/-- The cannons after a grant (R127). -/
theorem State.grant_eq (s : State) (o : Order) (a : Award) : ∃ u : State, u.line.cannons = s.line.cannons ∧
    u.line.transaction = s.line.transaction ∧ s.grant o a =
    (u.setCannon a.entry.cannon { u.cannon a.entry.cannon with overrun := false, lastGood := none }).place a.entry.cannon
      (.start (s.startVolume o a) a.entry.left a.entry.right) := by
  refine ⟨_, ?_, ?_, rfl⟩
  · simp [State.reserveWater]
  · simp [State.reserveWater]

theorem State.grant_test (s : State) (o : Order) (a : Award) (c : Nat) :
    ((s.grant o a).cannon c).test = (s.cannon c).test := by
  have placed : ∀ (u : State) k x, ((u.place k x).cannon c).test = (u.cannon c).test := fun u k x =>
    State.setCannon_test (s := u) (k := k) (r := { u.cannon k with held := some ⟨x, u.line.heldSerial⟩ }) rfl c
  obtain ⟨u, cannons, _, e⟩ := s.grant_eq o a
  rw [e, placed]
  exact (State.setCannon_test (by rfl) c).trans (congrArg Cannon.test (State.cannon_congr cannons c))

end

theorem State.grant_accountLaw {s : State} {b : Nat} {o : Order} {a : Award} (ho : s.order b = some o)
    (hw : o.state = .waiting) (ha : s.judgeOrder o = .ok a) (ht : s.testLaw) (h : s.accountLaw) : (s.grant o a).accountLaw := by
  refine ⟨State.grant_startLaw h.starts, State.grant_reservedLaw ho hw ha h.starts h.reserved, fun c hc => ?_⟩
  rw [State.grant_test] at hc
  rcases (State.judgeOrder_ok ha).1 with e | e <;> rw [(ht c hc).1] at e <;> cases e

theorem State.grant_testLaw {s : State} {o : Order} {a : Award} (ht : s.testLaw) : (s.grant o a).testLaw := fun c hc => by
  rw [State.grant_test] at hc
  have mode : (s.grant o a).ctrl = s.ctrl := by simp [State.grant, State.reserveWater]
  rw [mode]
  exact ht c hc

/-- A grant reserves on FRESH no more than the room under the cap. -/
theorem State.grant_fresh {s : State} {o : Order} {a : Award} (ha : s.judgeOrder o = .ok a) :
    (s.grant o a).water.fresh.reserved ≤ s.water.fresh.reserved + s.freshRoom := by
  have source : (s.grant o a).water.fresh = _ := s.grant_source o a .fresh
  rw [source]
  split
  · rename_i e
    rw [← e]
    exact Nat.add_le_add_left ((State.startVolume_le ha).2 e.symm) _
  · exact Nat.le_add_right _ _

/-! ### Every step keeps the cap and the place of the tests -/

/-- A command other than the load keeps what moves, new holds, attempts and events that leave the water and the settings keep. -/
theorem exec_keepsUse {c : Instr} {s t : State} (hc : ∀ a, c ≠ .load a) (law : s.orderLaw) (hm : s.modeLaw) (ht : s.testLaw)
    (h : s.accountLaw) (K : State → Prop)
    (moves : ∀ u v, Moves (fun _ _ => True) False u v → u.accountLaw → K u → K v)
    (same : ∀ u v : State, v.conf = u.conf → v.water.freshToday = u.water.freshToday →
      v.water.fresh.reserved = u.water.fresh.reserved → K u → K v)
    (attempt : execDispatchAttempt s = .next t → K t) (hk : K s) (hx : exec c s = .next t) :
    K t ∨ ∃ k, t = s.resetAs k := by
  have moved : ∀ u v, Moves (fun _ _ => True) False u v → u.accountLaw ∧ K u → v.accountLaw ∧ K v :=
    fun u v m ⟨account, use⟩ => ⟨m.accountLaw account, moves u v m account use⟩
  have course : Course (fun _ _ => True) False c s t := exec_course law (fun _ _ _ => trivial) (fun hf => hf.elim) hx
  cases course with
  | moves m => exact .inl (moves s t m h hk)
  | reset k e => exact .inr ⟨k, e⟩
  | @turn u v why before event after =>
    exact .inl (moves v t after (why.accountLaw before event hm ht h)
      (same u v (why.conf hc) event.today event.fresh (moves s u before h hk)))
  | hold b cap tag before none after =>
    exact .inl (moved _ t (after _) (State.createHold_keeps cap tag (fun u => u.accountLaw ∧ K u) none moved
      (fun u r ⟨account, use⟩ => ⟨⟨⟨account.starts.one, account.starts.starts⟩, account.reserved, account.alone⟩,
        same u _ rfl rfl rfl use⟩)
      (moved s _ before ⟨h, hk⟩))).2
  | attempt e => exact .inl (attempt e)

/-- An attempt keeps the cap. -/
theorem attempt_underFreshCap {s t : State} (ht : s.testLaw) (h : s.accountLaw) (hk : s.underFreshCap)
    (hx : execDispatchAttempt s = .next t) : t.underFreshCap := by
  refine (attempt_keeps (A := fun _ _ => True) (P := False) (fun u => u.testLaw ∧ u.accountLaw ∧ u.underFreshCap)
    (fun u v m _ ⟨ht, h, hk⟩ => ⟨m.testLaw ht, m.accountLaw h, m.underFreshCap h hk⟩) ?_ hx ⟨ht, h, hk⟩).2.2
  intro u b o a ho hw ha ⟨ht, h, hk⟩
  refine ⟨State.grant_testLaw ht, State.grant_accountLaw ho hw ha ht h, ?_⟩
  have fresh := State.grant_fresh ha
  unfold State.underFreshCap at hk ⊢
  rw [State.grant_today, State.grant_conf]
  unfold State.freshRoom at fresh
  omega

/-- Above the cap an attempt draws nothing from FRESH. -/
theorem attempt_freshSpent {s t : State} (ht : s.testLaw) (h : s.accountLaw) (hk : s.freshSpent s.water.freshToday)
    (hx : execDispatchAttempt s = .next t) : t.freshSpent s.water.freshToday := by
  refine (attempt_keeps (A := fun _ _ => True) (P := False)
    (fun u => u.testLaw ∧ u.accountLaw ∧ u.freshSpent s.water.freshToday ∧ u.water.freshToday = s.water.freshToday)
    (fun u v m e ⟨ht, h, hk, today⟩ => ⟨m.testLaw ht, m.accountLaw h, m.freshSpent h hk, e.trans today⟩) ?_ hx
    ⟨ht, h, hk, rfl⟩).2.2.1
  intro u b o a ho hw ha ⟨ht, h, ⟨cap, unreserved, used⟩, today⟩
  have fresh := State.grant_fresh ha
  unfold State.freshRoom at fresh
  refine ⟨State.grant_testLaw ht, State.grant_accountLaw ho hw ha ht h, ⟨?_, by omega, ?_⟩, ?_⟩
  · rw [State.grant_conf]
    exact cap
  · rw [State.grant_today]
    exact used
  · rw [State.grant_today]
    exact today

theorem exec_underFreshCap {c : Instr} {s t : State} (hc : ∀ a, c ≠ .load a) (law : s.orderLaw) (hm : s.modeLaw)
    (ht : s.testLaw) (h : s.accountLaw) (hk : s.underFreshCap) (hx : exec c s = .next t) : t.underFreshCap := by
  have same : ∀ u v : State, v.conf = u.conf → v.water.freshToday = u.water.freshToday →
      v.water.fresh.reserved = u.water.fresh.reserved → u.underFreshCap → v.underFreshCap := fun u v conf today reserved hk => by
    unfold State.underFreshCap
    rw [conf, today, reserved]
    exact hk
  rcases exec_keepsUse hc law hm ht h State.underFreshCap (fun _ _ m => m.underFreshCap) same (attempt_underFreshCap ht h hk) hk hx
    with kept | ⟨k, rfl⟩
  · exact kept
  · exact Nat.zero_le _

/-- Above the cap no command but the load draws on FRESH or raises the day's use. -/
theorem exec_freshSpent {c : Instr} {s t : State} (hc : ∀ a, c ≠ .load a) (law : s.orderLaw) (hm : s.modeLaw)
    (ht : s.testLaw) (h : s.accountLaw) (hk : s.freshSpent s.water.freshToday) (hx : exec c s = .next t) :
    t.water.fresh.reserved = 0 ∧ t.water.freshToday ≤ s.water.freshToday := by
  have same : ∀ u v : State, v.conf = u.conf → v.water.freshToday = u.water.freshToday →
      v.water.fresh.reserved = u.water.fresh.reserved → u.freshSpent s.water.freshToday → v.freshSpent s.water.freshToday :=
    fun u v conf today reserved hk => by
      unfold State.freshSpent
      rw [conf, today, reserved]
      exact hk
  rcases exec_keepsUse hc law hm ht h (State.freshSpent s.water.freshToday) (fun _ _ m => m.freshSpent) same
    (attempt_freshSpent ht h hk) hk hx with ⟨_, kept⟩ | ⟨k, rfl⟩
  · exact kept
  · exact ⟨rfl, Nat.zero_le _⟩

/-- After a load nothing is reserved: no order stands in STARTING (R136). -/
theorem exec_load_unreserved {a : Bool} {s t : State} (law : s.orderLaw) (hm : s.modeLaw) (hr : s.reservedLaw)
    (starting : s.ctrl.mode = .starting) (hx : exec (.load a) s = .next t) : t.water.fresh.reserved = 0 := by
  have none : s.noStarts := fun o ho => by rw [(hm.2.2.1 starting).1] at ho; cases ho
  have kept := exec_reservedLaw law hm hr hx
  rcases execLoad_cases hx with rfl | ⟨S, v, mode, _, e⟩
  · exact none.reserved hr .fresh
  · obtain ⟨m, f, moves⟩ := s.load_moves (A := fun _ _ => True) (P := True) S v mode
    rw [← e] at moves
    exact (moves.noStarts none).reserved kept .fresh

theorem exec_testLaw {c : Instr} {s t : State} (law : s.orderLaw) (ht : s.testLaw) (hx : exec c s = .next t) : t.testLaw := by
  have course : Course (fun _ _ => True) False c s t := exec_course law (fun _ _ _ => trivial) (fun hf => hf.elim) hx
  cases course with
  | moves m => exact m.testLaw ht
  | reset k e =>
    intro c hc
    subst e
    exact absurd (congrArg Cannon.test (State.reset_cannon c)) hc
  | turn why before event after => exact after.testLaw (why.testLaw before ht)
  | hold b cap tag before none after =>
    exact (after (fun _ _ => True)).testLaw (State.createHold_keeps cap tag State.testLaw none (fun _ _ m => m.testLaw) (fun _ _ h => h)
      (before.testLaw ht))
  | attempt e =>
    exact attempt_keeps (A := fun _ _ => True) (P := True) State.testLaw (fun _ _ m _ => m.testLaw)
      (fun _ _ _ _ _ _ _ => State.grant_testLaw) e ht

theorem exec_freshLaw {c : Instr} {s t : State} (law : s.orderLaw) (hm : s.modeLaw) (hr : s.reservedLaw) (hf : s.freshLaw)
    (hx : exec c s = .next t) : t.freshLaw := by
  obtain ⟨use, ht⟩ := hf
  have account := State.accountLaw_of law hm hr ht
  refine ⟨?_, exec_testLaw law ht hx⟩
  by_cases hc : ∀ a, c ≠ .load a
  · by_cases cap : s.underFreshCap
    · exact .inl (exec_underFreshCap hc law hm ht account cap hx)
    · have none := use.resolve_left cap
      unfold State.underFreshCap at cap
      exact .inr (exec_freshSpent hc law hm ht account ⟨by omega, none, le_rfl⟩ hx).1
  · obtain ⟨a, rfl⟩ := not_forall_not.mp hc
    by_cases starting : s.ctrl.mode = .starting
    · exact .inr (exec_load_unreserved law hm hr starting hx)
    · rcases execLoad_cases hx with rfl | ⟨_, _, mode, _⟩
      · exact use
      · exact absurd mode starting

/-- Settles O15: a move draws on FRESH only what it had reserved or, in a test that stands alone, within the room under the cap. -/
theorem freshUseStaysWithinTheCap : Obligations.FreshUseStaysWithinTheCap := by
  refine ⟨fun s t law hm hr hf hx => ?_, fun c s t hc law hm hr hf hx => ?_⟩
  · exact step_leads (fun s => s.orderLaw ∧ s.modeLaw ∧ s.reservedLaw ∧ s.freshLaw) State.freshLaw (fun _ _ h => h)
      (fun _ _ h => h.2.2.2) (fun _ _ _ ⟨law, hm, hr, hf⟩ => exec_freshLaw law hm hr hf) ⟨law, hm, hr, hf⟩ hx
  · obtain ⟨use, ht⟩ := hf
    have account := State.accountLaw_of law hm hr ht
    refine ⟨fun cap => exec_underFreshCap hc law hm ht account cap hx, fun above => ?_⟩
    have none := use.resolve_left (by omega)
    exact exec_freshSpent hc law hm ht account ⟨by omega, none, le_rfl⟩ hx

end Sys2Proof.Machine
end

section
/-! Moisture holds (R101, R103): what every course of moves keeps of the law of TRIMs and of the law of holds. -/

namespace Sys2Proof.Machine

/-! ### The share of a bed's start -/

theorem State.shareOf_none {s : State} {b : Nat} (h : s.order b = none) : s.shareOf b = 0 := by
  unfold State.shareOf
  rw [h]
  rfl

theorem State.shareOf_some {s : State} {b : Nat} {o : Order} (h : s.order b = some o) :
    s.shareOf b = (o.start.map Start.share).getD 0 := by
  unfold State.shareOf
  rw [h]
  rfl

theorem State.shareOf_start {s : State} {b : Nat} {o : Order} {st : Start} (h : s.order b = some o) (hs : o.start = some st) :
    s.shareOf b = st.share := by
  rw [State.shareOf_some h, hs]
  rfl

theorem State.shareOf_idle {s : State} {b : Nat} {o : Order} (h : s.order b = some o) (hs : o.start = none) : s.shareOf b = 0 := by
  rw [State.shareOf_some h, hs]
  rfl

theorem State.shareOf_congr {s t : State} (h : t.disp.orders = s.disp.orders) (b : Nat) : t.shareOf b = s.shareOf b := by
  unfold State.shareOf
  rw [State.order_congr h]

theorem State.shareOf_putOrder_ne (s : State) {p : Order} {b : Nat} (h : b ≠ p.bed) : (s.putOrder p).shareOf b = s.shareOf b := by
  unfold State.shareOf
  rw [s.order_putOrder_ne h]

theorem share_of_terms {p o : Option Start} (h : p.map Start.terms = o.map Start.terms) :
    (p.map Start.share).getD 0 = (o.map Start.share).getD 0 := by
  cases p <;> cases o <;> simp at h ⊢
  exact Start.terms_share h

/-- The share of a bed after its order is written. -/
theorem State.shareOf_putOrder (s : State) {p : Order} {b : Nat} (hb : p.bed = b) :
    (s.putOrder p).shareOf b = (p.start.map Start.share).getD 0 := by
  subst hb
  exact State.shareOf_some (s.order_putOrder_same p)

/-! ### The law of TRIMs -/

/-- The law of TRIMs for the TRIMs of `A`: those asked for are among them, their holds are older than the next, and one of a hold
that stands carries a limit within its cap at creation. -/
structure State.trimsWithin (A : Nat → Nat → Prop) (s : State) : Prop where
  serials : ∀ b h, (s.bed b).hold = some h → h.serial < s.beds.holdSerial
  asks : ∀ l n, s.asksTrim l n → A l n
  given : ∀ l n, A l n → n < s.beds.holdSerial
  counts : ∀ o ∈ s.disp.orders, ∀ st h, o.start = some st → (s.bed o.bed).hold = some h →
    st.count ≠ .uncounted ∧ ∀ l dh cap, A l h.serial → st.count = .running dh cap → l ≤ cap

theorem State.trimsWithin_of_trimLaw {s : State} (h : s.trimLaw) : s.trimsWithin s.asksTrim :=
  ⟨h.1, fun _ _ => id, h.2.1, fun o ho st k hs hk =>
    ⟨(h.2.2 o ho st k hs hk).1, fun l dh cap asked => (h.2.2 o ho st k hs hk).2 l dh cap asked⟩⟩

theorem State.trimsWithin.trimLaw {A : Nat → Nat → Prop} {s : State} (h : s.trimsWithin A) : s.trimLaw :=
  ⟨h.serials, fun l n asked => h.given l n (h.asks l n asked), fun o ho st k hs hk =>
    ⟨(h.counts o ho st k hs hk).1, fun l dh cap asked => (h.counts o ho st k hs hk).2 l dh cap (h.asks _ _ asked)⟩⟩

section
variable {A : Nat → Nat → Prop} {P : Prop} {s t : State}

/-- The law of TRIMs goes from `s` to `t` when holds stand in `t` that stood in `s`, and starts on them count as they counted, or
have been trimmed. -/
theorem State.trimsWithin.step (law : s.trimsWithin A) (around : Around A s t)
    (holds : ∀ b k, (t.bed b).hold = some k → ∃ h, (s.bed b).hold = some h ∧ h.serial = k.serial)
    (orders : ∀ q ∈ t.disp.orders, ∀ st, q.start = some st → (s.bed q.bed).hold ≠ none → ∃ o ∈ s.disp.orders, o.bed = q.bed ∧
      ∃ before, o.start = some before ∧ (st.count = before.count ∨ ∃ dt, st.count = .trimmed dt)) : t.trimsWithin A := by
  refine ⟨fun b k hk => ?_, fun l n hl => (around.asks l n hl).elim (law.asks l n) id, fun l n hl => ?_, fun q hq st k hs hk => ?_⟩
  · obtain ⟨h, hh, e⟩ := holds b k hk
    rw [around.serial, ← e]
    exact law.serials b h hh
  · rw [around.serial]
    exact law.given l n hl
  · obtain ⟨h, hh, e⟩ := holds q.bed k hk
    obtain ⟨o, ho, hb, before, hbefore, same⟩ := orders q hq st hs (by rw [hh]; exact fun e => by cases e)
    have counts := law.counts o ho before h hbefore (hb ▸ hh)
    rcases same with same | ⟨dt, same⟩
    · rw [same, ← e]
      exact counts
    · rw [same]
      exact ⟨fun e => (by cases e), fun _ _ _ _ e => (by cases e)⟩

theorem Hold.risen_of_map {x : Option Hold} {n : Nat} {k : Hold} (h : x.map (Hold.risen · n) = some k) :
    ∃ g, x = some g ∧ k = g.risen n := by
  cases x with
  | none => cases h
  | some g => exact ⟨g, rfl, (Option.some.inj h).symm⟩

/-- The holds after the end of a start on bed `b`: as they were, but that of `b` with its tally risen. -/
theorem Charged.hold_of {b : Nat} {st : Start} {d : Nat} (h : Charged A s t b st d) {a : Nat} {k : Hold}
    (hk : (t.bed a).hold = some k) :
    ∃ g, (s.bed a).hold = some g ∧ ((a ≠ b ∧ k = g) ∨ (a = b ∧ ∃ n, n ≤ st.counted d ∧ k = g.risen n)) := by
  by_cases ha : a = b
  · subst ha
    obtain ⟨n, hn, e⟩ := h.hold
    obtain ⟨g, hg, rfl⟩ := Hold.risen_of_map (e ▸ hk)
    exact ⟨g, hg, .inr ⟨rfl, n, hn, rfl⟩⟩
  · exact ⟨k, h.hold_ne a ha ▸ hk, .inl ⟨ha, rfl⟩⟩

/-- Every move keeps the law of TRIMs. -/
theorem Moves.trimsWithin (m : Moves A P s t) : s.trimsWithin A → t.trimsWithin A := by
  have same : ∀ {u v : State}, Around A u v → (∀ b, (v.bed b).hold = (u.bed b).hold) → v.disp.orders = u.disp.orders →
      u.trimsWithin A → v.trimsWithin A := fun around hold orders law =>
    law.step around (fun b k hk => ⟨k, hold b ▸ hk, rfl⟩)
      (fun q hq st hs _ => ⟨q, orders ▸ hq, rfl, st, hs, .inl rfl⟩)
  have put : ∀ {u : State} {p : Order}, (∀ st, p.start = some st → (u.bed p.bed).hold ≠ none → ∃ o ∈ u.disp.orders, o.bed = p.bed ∧
      ∃ before, o.start = some before ∧ (st.count = before.count ∨ ∃ dt, st.count = .trimmed dt)) →
      u.trimsWithin A → (u.putOrder p).trimsWithin A := fun {u p} hp law =>
    law.step (.of rfl rfl rfl rfl rfl id) (fun b k hk => ⟨k, hk, rfl⟩) (fun q hq st hs hold => by
      rcases State.mem_putOrder.mp hq with rfl | ⟨hq, _⟩
      · exact hp st hs hold
      · exact ⟨q, hq, rfl, st, hs, .inl rfl⟩)
  induction m with
  | steady h => exact same h.toAround h.hold h.orders
  | trans _ _ ih1 ih2 => exact fun law => ih2 (ih1 law)
  | pour s w n low high => exact same (Moves.pour (P := P) s w n low high).around (fun b => by cases w <;> rfl) (by simp)
  | dawn s => exact same (.of rfl rfl rfl rfl rfl id) (fun _ => rfl) rfl
  | @put s b o h p bed waiting start =>
    refine put (fun st hs _ => ?_)
    rw [hs] at start
    obtain ⟨before, hb, e⟩ := Option.map_eq_some_iff.mp start.symm
    exact ⟨o, (State.order_mem h).1, bed.symm, before, hb, .inl (Start.terms_count e).symm⟩
  | create p none start => exact put (fun st hs => by rw [start] at hs; cases hs)
  | drop h waiting =>
    exact fun law => law.step (.of rfl rfl rfl rfl rfl id) (fun b k hk => ⟨k, hk, rfl⟩)
      (fun q hq st hs _ => ⟨q, (mem_ordersWithout.mp hq).1, rfl, st, hs, .inl rfl⟩)
  | fault s =>
    refine fun law => law.step (.of rfl rfl rfl rfl rfl id) (fun b k hk => ⟨k, hk, rfl⟩) (fun q hq st hs _ => ?_)
    obtain ⟨o, ho, rfl⟩ := List.mem_map.mp hq
    exact ⟨o, ho, o.faulted_bed.symm, st, o.faulted_start ▸ hs, .inl rfl⟩
  | unhold s b r hr =>
    refine fun law => law.step (.of rfl rfl rfl rfl rfl id) (fun a k hk => ⟨k, ?_, rfl⟩)
      (fun q hq st hs _ => ⟨q, hq, rfl, st, hs, .inl rfl⟩)
    rw [State.bed_setBed] at hk
    split at hk
    · rw [hr] at hk
      cases hk
    · exact hk
  | @recount s b o st h start hold k =>
    refine put (fun st' _ held => absurd ?_ held)
    rw [(State.order_mem h).2]
    exact hold
  | @cap s b h hold n =>
    refine fun law => law.step (.of rfl rfl rfl rfl rfl id) (fun a k hk => ?_) (fun q hq st hs _ => ⟨q, hq, rfl, st, hs, .inl rfl⟩)
    rw [State.bed_setBed] at hk
    split at hk
    · rename_i e
      obtain rfl := Option.some.inj hk
      exact ⟨h, e.1 ▸ hold, rfl⟩
    · exact ⟨k, hk, rfl⟩
  | @ends s u t b o st d h start within charged settled =>
    refine fun law => law.step (charged.toAround.trans settled.toAround) (fun a k hk => ?_) (fun q hq st' hs _ => ?_)
    · rw [settled.hold] at hk
      obtain ⟨g, hg, ⟨_, rfl⟩ | ⟨_, n, _, rfl⟩⟩ := charged.hold_of hk
      · exact ⟨_, hg, rfl⟩
      · exact ⟨g, hg, rfl⟩
    · rcases settled.mem hq with ⟨_, none, _⟩ | ⟨hq, _⟩
      · rw [none] at hs
        cases hs
      · exact ⟨q, charged.orders ▸ hq, rfl, st', hs, .inl rfl⟩
  | @trim s b o st h start dt limit n asked ahead =>
    have hold : ∀ w v a, (((s.releaseWater w v).bed a).hold) = (s.bed a).hold := fun w v a => by cases w <;> rfl
    intro law
    refine law.step (Moves.trim h start dt limit n asked ahead).around (fun a k hk => ⟨k, hold _ _ a ▸ hk, rfl⟩) (fun q hq st' hs _ => ?_)
    rcases State.mem_putOrder.mp hq with rfl | ⟨hq, _⟩
    · refine ⟨o, (State.order_mem h).1, rfl, st, start, ?_⟩
      obtain rfl := Option.some.inj hs
      unfold Start.trimmedBy
      dsimp only
      split
      · exact .inr ⟨dt, rfl⟩
      · exact .inl rfl
    · exact ⟨q, by rw [State.releaseWater_disp] at hq; exact hq, rfl, st', hs, .inl rfl⟩
  | test s c d h => exact same (s.endTest_around c d) (fun _ => rfl) rfl

/-! ### The law of holds -/

/-- The law of holds goes from `s` to `t` when the tally with the share of each hold in `t` is no more than it was in `s`, under the
same cap. -/
theorem State.holdLaw.step (law : s.holdLaw) (h : ∀ b k, (t.bed b).hold = some k → ∃ g, (s.bed b).hold = some g ∧
    g.cap = k.cap ∧ k.tally + t.shareOf b ≤ g.tally + s.shareOf b) : t.holdLaw := by
  intro b k hk
  obtain ⟨g, hg, cap, less⟩ := h b k hk
  rw [← cap]
  exact less.trans (law b g hg)

/-- A reply to a TRIM that is not behind the hold point does not raise the share of the start (R107). -/
theorem Start.trimmedBy_share {st : Start} {dt limit : Nat} {standing : Bool}
    (ahead : min st.holdPoint st.volume ≤ dt)
    (counted : standing = true → st.count ≠ .uncounted ∧ ∀ dh cap, st.count = .running dh cap → limit ≤ cap) :
    (st.trimmedBy dt limit standing).share ≤ st.share := by
  unfold Start.holdPoint at ahead
  unfold Start.share
  cases standing with
  | false =>
    rw [show (st.trimmedBy dt limit false).count = st.count from rfl,
      show (st.trimmedBy dt limit false).volume = min st.volume (dt + limit) from rfl]
    cases st.count <;> dsimp only <;> omega
  | true =>
    obtain ⟨not, within⟩ := counted rfl
    rw [show (st.trimmedBy dt limit true).count = .trimmed dt from rfl,
      show (st.trimmedBy dt limit true).volume = min st.volume (dt + limit) from rfl]
    cases hc : st.count with
    | uncounted => exact absurd hc not
    | granted => dsimp only; omega
    | running dh cap =>
      have := within dh cap hc
      rw [hc] at ahead
      dsimp only at ahead ⊢
      omega
    | trimmed d0 =>
      rw [hc] at ahead
      dsimp only at ahead ⊢
      omega

theorem Bed.holdIs_iff {r : Bed} {n : Nat} : r.holdIs n = true ↔ ∃ h, r.hold = some h ∧ h.serial = n := by
  unfold Bed.holdIs
  cases r.hold <;> simp

/-- The order of a bed that leaves the queue is gone, the others stay. -/
theorem State.order_of_without {b a : Nat} (h : t.disp.orders = ordersWithout b s.disp.orders) :
    t.order a = if a = b then none else s.order a := by
  unfold State.order
  rw [h]
  split
  · rename_i e
    rw [e, find_ordersWithout_same]
  · rename_i e
    rw [find_ordersWithout_other e]

theorem Settled.shareOf {b : Nat} (h : Settled A s t b) (a : Nat) : t.shareOf a = if a = b then 0 else s.shareOf a := by
  rcases h.orders with e | ⟨p, hb, hs, _, e⟩
  · unfold State.shareOf
    rw [State.order_of_without e]
    split <;> rfl
  · have written : t.disp.orders = (s.putOrder p).disp.orders := by rw [e, ← hb]; rfl
    rw [State.shareOf_congr written]
    split
    · rename_i hab
      rw [State.shareOf_putOrder s (hb.trans hab.symm), hs]
      rfl
    · rename_i hab
      exact s.shareOf_putOrder_ne (hb ▸ hab)

/-- Every move keeps the law of holds, where the replies to TRIMs are not behind the hold point. -/
theorem Moves.holdLaw (m : Moves A True s t) : s.startLaw → s.trimsWithin A → s.holdLaw → t.holdLaw := by
  have same : ∀ {u v : State}, (∀ b, (v.bed b).hold = (u.bed b).hold) → v.disp.orders = u.disp.orders → u.holdLaw → v.holdLaw :=
    fun hold orders law => law.step (fun b k hk => ⟨k, hold b ▸ hk, rfl, by rw [State.shareOf_congr orders]⟩)
  have put : ∀ {u : State} {p : Order}, ((u.bed p.bed).hold ≠ none → (p.start.map Start.share).getD 0 ≤ u.shareOf p.bed) →
      u.holdLaw → (u.putOrder p).holdLaw := fun {u p} share law =>
    law.step (fun b k hk => ⟨k, hk, rfl, Nat.add_le_add_left (by
      by_cases hb : b = p.bed
      · subst hb
        rw [State.shareOf_putOrder u rfl]
        exact share (by rw [show (u.bed p.bed).hold = some k from hk]; exact fun e => by cases e)
      · rw [State.shareOf_putOrder_ne u hb]) _⟩)
  induction m with
  | steady h => exact fun _ _ => same h.hold h.orders
  | trans h1 _ ih1 ih2 => exact fun one trims law => ih2 (h1.startLaw one) (h1.trimsWithin trims) (ih1 one trims law)
  | pour s w n => exact fun _ _ => same (fun b => by cases w <;> rfl) (by simp)
  | dawn s => exact fun _ _ => same (fun _ => rfl) rfl
  | @put s b o h p bed waiting start =>
    refine fun _ _ => put (fun _ => ?_)
    rw [share_of_terms start, bed, (State.order_mem h).2, State.shareOf_some h]
  | create p none start => exact fun _ _ => put (fun _ => by rw [start]; exact Nat.zero_le _)
  | @drop s b o h waiting =>
    refine fun _ _ law => law.step (fun a k hk => ⟨k, hk, rfl, Nat.add_le_add_left ?_ _⟩)
    unfold State.shareOf
    rw [State.order_of_without (s := s) (b := b) rfl]
    split
    · exact Nat.zero_le _
    · exact le_rfl
  | fault s =>
    refine fun _ _ law => law.step (fun a k hk => ⟨k, hk, rfl, Nat.add_le_add_left (le_of_eq ?_) _⟩)
    unfold State.shareOf State.order
    rw [List.find?_map, show (fun o : Order => o.bed == a) ∘ Order.faulted = fun o => o.bed == a from
      funext (fun o => congrArg (· == a) o.faulted_bed)]
    cases s.disp.orders.find? (fun o => o.bed == a) with
    | none => rfl
    | some o => exact congrArg (fun x : Option Start => (x.map Start.share).getD 0) o.faulted_start
  | unhold s b r hr =>
    refine fun _ _ law => law.step (fun a k hk => ⟨k, ?_, rfl, le_rfl⟩)
    rw [State.bed_setBed] at hk
    split at hk
    · rw [hr] at hk
      cases hk
    · exact hk
  | @recount s b o st h start hold k =>
    refine fun _ _ => put (fun held => absurd ?_ held)
    rw [(State.order_mem h).2]
    exact hold
  | @cap s b h hold n fits =>
    intro _ _ law a k hk
    rw [State.bed_setBed] at hk
    split at hk
    · rename_i e
      obtain rfl := Option.some.inj hk
      rw [e.1]
      exact fits
    · exact law a k hk
  | @ends s u t b o st d h start within charged settled =>
    refine fun _ _ law => law.step (fun a k hk => ?_)
    rw [settled.hold] at hk
    rw [settled.shareOf, State.shareOf_congr charged.orders]
    obtain ⟨g, hg, ⟨ha, rfl⟩ | ⟨rfl, n, hn, rfl⟩⟩ := charged.hold_of hk
    · rw [if_neg ha]
      exact ⟨_, hg, rfl, le_rfl⟩
    · refine ⟨g, hg, rfl, ?_⟩
      have counted : st.counted d ≤ st.share := Nat.min_le_right _ _
      rw [if_pos rfl, State.shareOf_start h start]
      change g.tally + n + 0 ≤ _
      omega
  | @trim s b o st h start dt limit n asked ahead =>
    intro one trims law
    obtain ⟨hm, rfl⟩ := State.order_mem h
    have hold : ∀ w v a, ((s.releaseWater w v).bed a).hold = (s.bed a).hold := fun w v a => by cases w <;> rfl
    have share : ∀ w v a, (s.releaseWater w v).shareOf a = s.shareOf a := fun w v => State.shareOf_congr (by rw [State.releaseWater_disp])
    refine put (fun _ => ?_) (same (hold _ _) (by rw [State.releaseWater_disp]) law)
    rw [share, State.shareOf_start h start]
    refine Start.trimmedBy_share (ahead trivial) (fun standing => ?_)
    obtain ⟨g, hg, rfl⟩ := Bed.holdIs_iff.mp standing
    have counts := trims.counts o hm st g start hg
    exact ⟨counts.1, fun dh cap => counts.2 limit dh cap asked⟩
  | test s c d h => exact fun _ _ => same (fun _ => rfl) rfl

end
end Sys2Proof.Machine
end

section
/-! Every step keeps the law of TRIMs, and every command the law of holds (R101, R103). -/

namespace Sys2Proof.Machine

/-! ### The special events -/

section
variable {A : Nat → Nat → Prop} {P : Prop}

theorem Still.trimsWithin {u v : State} (h : Still u v) (law : u.trimsWithin A) : v.trimsWithin A := by
  have hold : ∀ b k, (v.bed b).hold = some k → (u.bed b).hold = some k := fun b k hk => by
    rcases h.hold b with e | e
    · exact e ▸ hk
    · rw [e] at hk
      cases hk
  refine ⟨fun b k hk => ?_, fun l n hl => law.asks l n (h.asks l n hl), fun l n hl => ?_, fun o ho st k hs hk => ?_⟩
  · rw [h.serial]
    exact law.serials b k (hold b k hk)
  · rw [h.serial]
    exact law.given l n hl
  · rcases h.orders with e | e <;> rw [e] at ho
    · exact law.counts o ho st k hs (hold _ k hk)
    · cases ho

theorem Still.holdLaw {u v : State} (h : Still u v) (law : u.holdLaw) : v.holdLaw := by
  refine law.step (fun b k hk => ?_)
  rcases h.hold b with e | e
  · refine ⟨k, e ▸ hk, rfl, Nat.add_le_add_left ?_ _⟩
    rcases h.orders with eo | eo
    · rw [State.shareOf_congr eo]
    · rw [State.shareOf_none (by unfold State.order; rw [eo]; rfl)]
      exact Nat.zero_le _
  · rw [e] at hk
    cases hk

theorem Steady.holdLaw {u v : State} (h : Steady A u v) (law : u.holdLaw) : v.holdLaw :=
  law.step (fun b k hk => ⟨k, h.hold b ▸ hk, rfl, by rw [State.shareOf_congr h.orders]⟩)

/-! ### The grant -/

theorem State.grant_hold (s : State) (o : Order) (a : Award) (b : Nat) : ((s.grant o a).bed b).hold = (s.bed b).hold := by
  rw [State.grant_bed]
  split
  · rename_i e
    rw [e.1]
  · rfl

theorem State.grant_asks {s : State} {o : Order} {a : Award} {l n : Nat} (h : (s.grant o a).asksTrim l n) : s.asksTrim l n := by
  obtain ⟨u, cannons, transaction, e⟩ := s.grant_eq o a
  rw [e] at h
  have placed := State.asksTrim_place (fun e => by cases e) h
  exact (State.asksTrim_congr cannons transaction l n).mp (State.asksTrim_setCannon (by exact id) placed)

/-- A start granted under a hold counts against it (R101, R127). -/
theorem State.grant_trimsWithin {s : State} (o : Order) (a : Award) (law : s.trimsWithin A) : (s.grant o a).trimsWithin A := by
  have serial : (s.grant o a).beds.holdSerial = s.beds.holdSerial := by simp [State.grant, State.reserveWater]
  refine ⟨fun b k hk => ?_, fun l n hl => law.asks l n (State.grant_asks hl), fun l n hl => ?_, fun q hq st k hs hk => ?_⟩
  · rw [serial]
    exact law.serials b k (State.grant_hold s o a b ▸ hk)
  · rw [serial]
    exact law.given l n hl
  · rw [State.grant_hold] at hk
    rw [State.grant_orders] at hq
    rcases mem_insertOrder.mp hq with rfl | hq
    · have count : st.count = .granted := by
        obtain rfl := Option.some.inj hs
        change s.grantCount o.bed = _
        unfold State.grantCount
        rw [if_pos (by rw [show (s.bed o.bed).hold = some k from hk]; rfl)]
      rw [count]
      exact ⟨fun e => (by cases e), fun _ _ _ _ e => (by cases e)⟩
    · exact law.counts q (mem_ordersWithout.mp hq).1 st k hs hk

theorem State.startVolume_le_room {s : State} {o : Order} {k : Hold} (h : (s.bed o.bed).hold = some k) (a : Award) :
    s.startVolume o a ≤ k.room := by
  unfold State.startVolume
  rw [h]
  exact Nat.min_le_right _ _

/-- A granted volume fits the room under the hold (R126). -/
theorem State.grant_holdLaw {s : State} (o : Order) (a : Award) (law : s.holdLaw) : (s.grant o a).holdLaw := by
  intro b k hk
  rw [State.grant_hold] at hk
  have before := law b k hk
  have orders : (s.grant o a).disp.orders = (s.putOrder (s.granted o a)).disp.orders := s.grant_orders o a
  rw [State.shareOf_congr orders]
  by_cases hb : b = o.bed
  · subst hb
    have room := State.startVolume_le_room hk a
    have share : ((s.granted o a).start.map Start.share).getD 0 = s.startVolume o a := by
      change Start.share ⟨_, _, _, _, _, _, s.grantCount o.bed⟩ = _
      unfold State.grantCount
      rw [if_pos (by rw [hk]; rfl)]
      rfl
    rw [State.shareOf_putOrder s (show (s.granted o a).bed = o.bed from rfl), share]
    unfold Hold.room at room
    omega
  · rw [State.shareOf_putOrder_ne s (show b ≠ (s.granted o a).bed from hb)]
    exact before

/-! ### A new hold -/

theorem State.heldFrom_bed (s : State) (b cap tag a : Nat) : ((s.heldFrom b cap tag).bed a).hold =
    if a = b ∧ 1 ≤ b ∧ b ≤ 32 then some ⟨cap, tag, 0, s.beds.holdSerial⟩ else (s.bed a).hold := by
  have same : (s.heldFrom b cap tag).bed a =
      (s.setBed b { s.bed b with hold := some ⟨cap, tag, 0, s.beds.holdSerial⟩ }).bed a := by
    rw [s.heldFrom_eq]
    rfl
  rw [same, State.bed_setBed]
  split <;> rfl

/-- The orders once a start counts from here. -/
theorem State.countFromHere_orders {s : State} {b cap : Nat} {q : Order} (hq : q ∈ (s.countFromHere b cap).disp.orders)
    {st : Start} (hs : q.start = some st) (one : s.oneOrderPerBed) :
    (q.bed = b ∧ ∃ d, st.count = .running d cap) ∨ (q.bed ≠ b ∧ q ∈ s.disp.orders) := by
  have other : q ∈ s.disp.orders → (∀ o st, s.order b = some o → o.start ≠ some st) → q.bed ≠ b := fun hm none e => by
    subst e
    exact none q st (State.order_of_mem one hm) hs
  unfold State.countFromHere at hq
  split at hq
  · rename_i none
    exact .inr ⟨other hq (fun o st h => by rw [none] at h; cases h), hq⟩
  · rename_i o ho
    split at hq
    · rename_i none
      refine .inr ⟨other hq (fun p st h e => ?_), hq⟩
      obtain rfl := Option.some.inj (ho.symm.trans h)
      rw [none] at e
      cases e
    · rcases State.mem_putOrder.mp hq with rfl | ⟨hq, hb⟩
      · obtain rfl := Option.some.inj hs
        exact .inl ⟨(State.order_mem ho).2, _, rfl⟩
      · exact .inr ⟨fun e => hb (e.trans (State.order_mem ho).2.symm), hq⟩

/-- The TRIMs of `A`, with those that a new hold asks for. -/
def withTrim (A : Nat → Nat → Prop) (cap serial : Nat) (l n : Nat) : Prop := A l n ∨ (l = cap ∧ n = serial)

theorem State.heldFrom_orders (s : State) (b cap tag : Nat) :
    (s.heldFrom b cap tag).disp = (s.countFromHere b cap).disp := by
  rw [s.heldFrom_eq]

theorem State.heldFrom_trimsWithin {s : State} (b cap tag : Nat) (one : s.oneOrderPerBed) (none : (s.bed b).hold = none)
    (law : s.trimsWithin A) : (s.heldFrom b cap tag).trimsWithin (withTrim A cap s.beds.holdSerial) := by
  have counted : Around A s (s.countFromHere b cap) := (s.countFromHere_moves (P := True) b cap none).around
  have serial : (s.heldFrom b cap tag).beds.holdSerial = s.beds.holdSerial + 1 := by rw [s.heldFrom_eq]
  refine ⟨fun a k hk => ?_, fun l n hl => ?_, fun l n hl => ?_, fun q hq st k hs hk => ?_⟩
  · rw [s.heldFrom_bed] at hk
    rw [serial]
    split at hk
    · obtain rfl := Option.some.inj hk
      exact Nat.lt_succ_self _
    · exact Nat.lt_succ_of_lt (law.serials a k hk)
  · rw [s.heldFrom_eq] at hl
    exact .inl ((counted.asks l n hl).elim (law.asks l n) id)
  · rw [serial]
    rcases hl with hl | ⟨_, rfl⟩
    · exact Nat.lt_succ_of_lt (law.given l n hl)
    · exact Nat.lt_succ_self _
  · rw [State.heldFrom_orders] at hq
    rw [s.heldFrom_bed] at hk
    rcases State.countFromHere_orders hq hs one with ⟨hb, d, count⟩ | ⟨hb, hq⟩
    · rw [count]
      refine ⟨fun e => (by cases e), fun l dh cap' asked e => ?_⟩
      obtain ⟨rfl, rfl⟩ := HoldCount.running.inj e
      rw [hb] at hk
      split at hk
      · obtain rfl := Option.some.inj hk
        rcases asked with asked | ⟨rfl, _⟩
        · exact absurd (law.given _ _ asked) (Nat.lt_irrefl _)
        · exact le_rfl
      · rw [none] at hk
        cases hk
    · rw [if_neg (fun e => hb e.1)] at hk
      refine ⟨(law.counts q hq st k hs hk).1, fun l dh cap' asked e => ?_⟩
      rcases asked with asked | ⟨_, same⟩
      · exact (law.counts q hq st k hs hk).2 l dh cap' asked e
      · exact absurd (law.serials _ k hk) (by omega)

/-- Under a new hold the share of the start is at most the cap (R101). -/
theorem State.heldFrom_holdLaw {s : State} (b cap tag : Nat) (one : s.oneOrderPerBed) (none : (s.bed b).hold = none)
    (law : s.holdLaw) : (s.heldFrom b cap tag).holdLaw := by
  intro a k hk
  rw [s.heldFrom_bed] at hk
  have orders := congrArg Dispatcher.orders (s.heldFrom_orders b cap tag)
  rw [State.shareOf_congr orders]
  split at hk
  · rename_i e
    obtain rfl := Option.some.inj hk
    obtain ⟨rfl, _⟩ := e
    cases ho : (s.countFromHere a cap).order a with
    | none => rw [State.shareOf_none ho]; exact Nat.zero_le _
    | some q =>
      cases hs : q.start with
      | none => rw [State.shareOf_idle ho hs]; exact Nat.zero_le _
      | some st =>
        obtain ⟨hq, hb⟩ := State.order_mem ho
        rcases State.countFromHere_orders hq hs one with ⟨_, d, count⟩ | ⟨hn, _⟩
        · rw [State.shareOf_start ho hs]
          unfold Start.share
          rw [count]
          dsimp only
          omega
        · exact absurd hb hn
  · rename_i e
    have same : (s.countFromHere b cap).shareOf a = s.shareOf a := by
      by_cases hab : a = b
      · subst hab
        rw [none] at hk
        cases hk
      · unfold State.countFromHere
        split
        · rfl
        · rename_i o ho
          split
          · rfl
          · exact State.shareOf_putOrder_ne s (fun e => hab (e.trans (State.order_mem ho).2))
    rw [same]
    exact law a k hk

theorem State.cause_holdLaw {s : State} (law : s.holdLaw) : s.cause.holdLaw :=
  Steady.holdLaw (A := fun _ _ => True) (.level (by simp [Level])) law

/-- The TRIM of a new hold, answered at once for a start whose START is still held, leaves the share within the cap. -/
theorem State.takeTrim_holdLaw {u : State} {b cap n : Nat} (law : u.holdLaw)
    (fresh : ∀ k, (u.bed b).hold = some k → k.tally = 0 ∧ k.cap = cap)
    (counts : ∀ o st, u.order b = some o → o.start = some st → ∃ d, st.count = .running d cap) :
    (u.takeTrim b 0 cap n).holdLaw := by
  unfold State.takeTrim
  split
  · exact law
  · rename_i o ho
    split
    · exact law
    · rename_i st hst
      obtain ⟨d, count⟩ := counts o st ho hst
      have share : (st.trimmedBy 0 cap ((u.bed b).holdIs n)).share ≤ cap := by
        cases (u.bed b).holdIs n with
        | false =>
          unfold Start.share
          rw [show (st.trimmedBy 0 cap false).count = .running d cap from count]
          exact Nat.min_le_right _ _
        | true =>
          change min st.volume (0 + cap) - 0 ≤ cap
          omega
      have put : ((u.releaseWater st.source (st.volume - min st.volume (0 + cap))).putOrder
          { o with start := some (st.trimmedBy 0 cap ((u.bed b).holdIs n)) }).holdLaw := by
        set r := u.releaseWater st.source (st.volume - min st.volume (0 + cap)) with hr
        have beds : ∀ a, (r.bed a).hold = (u.bed a).hold := fun a => by rw [hr]; cases st.source <;> rfl
        intro a k hk
        have held : (u.bed a).hold = some k := (beds a).symm.trans hk
        by_cases hb : a = b
        · subst hb
          obtain ⟨tally, rfl⟩ := fresh k held
          rw [State.shareOf_putOrder r (by exact (State.order_mem ho).2), tally, zero_add]
          exact share
        · rw [State.shareOf_putOrder_ne r (by exact fun e => hb (e.trans (State.order_mem ho).2)),
            show r.shareOf a = u.shareOf a from State.shareOf_congr (by rw [hr, State.releaseWater_disp]) a]
          exact law a k held
      dsimp only
      split
      · exact State.cause_holdLaw put
      · exact put

/-- The TRIM of a new hold leaves the share within the cap. -/
theorem State.trimOrder_holdLaw {u : State} {b cap n : Nat} (law : u.holdLaw)
    (fresh : ∀ k, (u.bed b).hold = some k → k.tally = 0 ∧ k.cap = cap)
    (counts : ∀ o st, u.order b = some o → o.start = some st → ∃ d, st.count = .running d cap) :
    (u.trimOrder b cap n).holdLaw := by
  have written : ∀ (u : State) c r, u.holdLaw → (u.setCannon c r).holdLaw := fun _ _ _ h => h
  unfold State.trimOrder
  split
  · exact law
  · split
    · exact law
    · split
      · unfold State.askTrim
        split
        · exact law
        · exact State.takeTrim_holdLaw (written _ _ _ law) fresh counts
        · exact law
        · exact law
      · exact law

theorem State.createHold_holdLaw {s : State} (b cap tag : Nat) (one : s.oneOrderPerBed) (none : (s.bed b).hold = none)
    (law : s.holdLaw) : (s.createHold b cap tag).holdLaw := by
  have held := s.heldFrom_holdLaw b cap tag one none law
  have trimmed : ((s.heldFrom b cap tag).trimOrder b cap s.beds.holdSerial).holdLaw := by
    refine State.trimOrder_holdLaw held (fun k hk => ?_) (fun o st ho hs => ?_)
    · rw [s.heldFrom_bed] at hk
      split at hk
      · obtain rfl := Option.some.inj hk
        exact ⟨rfl, rfl⟩
      · rw [none] at hk
        cases hk
    · obtain ⟨hm, hb⟩ := State.order_mem ho
      rw [State.heldFrom_orders] at hm
      rcases State.countFromHere_orders hm hs one with ⟨_, counted⟩ | ⟨hn, _⟩
      · exact counted
      · exact absurd hb hn
  exact (State.judgeAtRisk_steady (A := fun _ _ => True) _ b).holdLaw (State.cause_holdLaw trimmed)

/-! ### Every command keeps the laws -/

theorem exec_trimLaw {c : Instr} {s t : State} (law : s.orderLaw) (ht : s.trimLaw) (hx : exec c s = .next t) : t.trimLaw := by
  have starts := State.startLaw_of_orderLaw law
  have trims := State.trimsWithin_of_trimLaw ht
  have course : Course s.asksTrim False c s t := exec_course law (fun _ _ => id) (fun hf => hf.elim) hx
  cases course with
  | moves m => exact (m.trimsWithin trims).trimLaw
  | reset k e => exact e ▸ reset_trimLaw
  | turn why before event after => exact (after.trimsWithin (event.trimsWithin (before.trimsWithin trims))).trimLaw
  | @hold u b cap tag before none after =>
    have held := State.heldFrom_trimsWithin b cap tag (before.startLaw starts).one none (before.trimsWithin trims)
    have created := (u.createHold_moves b cap tag (P := False) (.inr ⟨rfl, rfl⟩) (fun hf => hf.elim)).trimsWithin held
    exact ((after _).trimsWithin created).trimLaw
  | attempt e =>
    exact (attempt_keeps (P := False) (State.trimsWithin s.asksTrim) (fun _ _ m _ => m.trimsWithin)
      (fun _ _ o a _ _ _ => State.grant_trimsWithin o a) e trims).trimLaw

theorem exec_holdLaw {c : Instr} {s t : State} (law : s.orderLaw) (ht : s.trimLaw) (hh : s.holdLaw)
    (meter : ∀ bytes x r o st, c = .trim bytes → s.replyTaken x bytes r → s.serves x o st → st.holdPoint ≤ r.meter)
    (hx : exec c s = .next t) : t.holdLaw := by
  have starts := State.startLaw_of_orderLaw law
  have trims := State.trimsWithin_of_trimLaw ht
  have course : Course s.asksTrim True c s t := exec_course law (fun _ _ => id) (fun _ => meter) hx
  cases course with
  | moves m => exact m.holdLaw starts trims hh
  | reset k e => exact e ▸ reset_holdLaw
  | turn why before event after =>
    exact after.holdLaw (event.startLaw (before.startLaw starts)) (event.trimsWithin (before.trimsWithin trims))
      (event.holdLaw (before.holdLaw starts trims hh))
  | @hold u b cap tag before none after =>
    have one := before.startLaw starts
    have within := before.trimsWithin trims
    have moved := u.createHold_moves b cap tag (P := False) (A := withTrim s.asksTrim cap u.beds.holdSerial) (.inr ⟨rfl, rfl⟩)
      (fun hf => hf.elim)
    have counted := (u.countFromHere_moves (A := s.asksTrim) (P := True) b cap none).startLaw one
    have heldLaw : (u.heldFrom b cap tag).startLaw := by
      rw [u.heldFrom_eq]
      exact ⟨counted.one, counted.starts⟩
    exact (after _).holdLaw (moved.startLaw heldLaw)
      (moved.trimsWithin (State.heldFrom_trimsWithin b cap tag one.one none within))
      (State.createHold_holdLaw b cap tag one.one none (before.holdLaw starts trims hh))
  | attempt e =>
    exact (attempt_keeps (P := True) (fun u => u.startLaw ∧ u.trimsWithin s.asksTrim ∧ u.holdLaw)
      (fun _ _ m _ ⟨one, within, hold⟩ => ⟨m.startLaw one, m.trimsWithin within, m.holdLaw one within hold⟩)
      (fun _ _ o a _ _ _ ⟨one, within, hold⟩ => ⟨State.grant_startLaw one, State.grant_trimsWithin o a within, State.grant_holdLaw o a hold⟩)
      e ⟨starts, trims, hh⟩).2.2

end
end Sys2Proof.Machine
end

section
/-! Moisture holds set and cleared (R102 to R105), and the TRIM of a running start (R103, R143). -/

namespace Sys2Proof.Machine

/-! ### The start counts from here -/

theorem State.countFromHere_none {s : State} {b : Nat} (h : s.order b = none) (cap : Nat) : s.countFromHere b cap = s := by
  unfold State.countFromHere
  rw [h]

theorem State.countFromHere_idle {s : State} {b : Nat} {o : Order} (h : s.order b = some o) (hs : o.start = none) (cap : Nat) :
    s.countFromHere b cap = s := by
  unfold State.countFromHere
  rw [h]
  dsimp only
  rw [hs]

/-- An order whose start counts from the figure last polled, under a hold with a cap (R101). -/
def Order.countedFrom (o : Order) (st : Start) (cap : Nat) : Order :=
  { o with start := some { st with count := .running (st.delivered.getD 0) cap } }

theorem State.countFromHere_some {s : State} {b : Nat} {o : Order} {st : Start} (h : s.order b = some o)
    (hs : o.start = some st) (cap : Nat) : s.countFromHere b cap = s.putOrder (o.countedFrom st cap) := by
  unfold State.countFromHere
  rw [h]
  dsimp only
  rw [hs]
  rfl

theorem State.countFromHere_order_ne (s : State) {a b : Nat} (h : a ≠ b) (cap : Nat) :
    (s.countFromHere b cap).order a = s.order a := by
  unfold State.countFromHere
  split
  · rfl
  · rename_i o ho
    split
    · rfl
    · exact State.order_putOrder_ne s (fun e => h (e.trans (State.order_mem ho).2))

/-! ### The TRIM asked for -/

/-- Asking for a TRIM touches no bed and no queue of the bus. -/
theorem State.takeTrim_kept (s : State) (b dt l n : Nat) : (s.takeTrim b dt l n).beds = s.beds ∧
    (s.takeTrim b dt l n).port = s.port ∧ (s.takeTrim b dt l n).line = s.line := by
  have released : ∀ w v, (s.releaseWater w v).beds = s.beds ∧ (s.releaseWater w v).port = s.port ∧
      (s.releaseWater w v).line = s.line := fun w v => by cases w <;> exact ⟨rfl, rfl, rfl⟩
  unfold State.takeTrim
  split
  · exact ⟨rfl, rfl, rfl⟩
  · split
    · exact ⟨rfl, rfl, rfl⟩
    · dsimp only
      split
      · exact released _ _
      · exact released _ _

theorem State.trimOrder_kept (s : State) (b cap n : Nat) : (s.trimOrder b cap n).beds = s.beds ∧
    (s.trimOrder b cap n).port = s.port := by
  unfold State.trimOrder
  split
  · exact ⟨rfl, rfl⟩
  · split
    · exact ⟨rfl, rfl⟩
    · split
      · unfold State.askTrim
        split
        · exact ⟨rfl, rfl⟩
        · exact ⟨(State.takeTrim_kept ..).1, (State.takeTrim_kept ..).2.1⟩
        · exact ⟨rfl, rfl⟩
        · exact ⟨rfl, rfl⟩
      · exact ⟨rfl, rfl⟩

section
variable {s : State} {b : Nat} {o : Order} {st : Start}

theorem State.trimOrder_none (h : s.order b = none) (cap n : Nat) : s.trimOrder b cap n = s := by
  unfold State.trimOrder
  rw [h]

theorem State.trimOrder_idle (h : s.order b = some o) (hs : o.start = none) (cap n : Nat) : s.trimOrder b cap n = s := by
  unfold State.trimOrder
  rw [h]
  dsimp only
  rw [hs]

theorem State.trimOrder_stopping (h : s.order b = some o) (hs : o.start = some st) (hr : o.running = false) (cap n : Nat) :
    s.trimOrder b cap n = s := by
  unfold State.trimOrder
  rw [h]
  dsimp only
  rw [hs]
  dsimp only
  rw [hr]
  rfl

theorem State.trimOrder_running (h : s.order b = some o) (hs : o.start = some st) (hr : o.running = true) (cap n : Nat) :
    s.trimOrder b cap n = s.askTrim b st.cannon cap n := by
  unfold State.trimOrder
  rw [h]
  dsimp only
  rw [hs]
  dsimp only
  rw [hr]
  rfl

theorem State.askTrim_stop {c : Nat} (h : (s.cannon c).held.map HeldCommand.command = some .stop) (cap n : Nat) :
    s.askTrim b c cap n = s := by
  obtain ⟨⟨k, m⟩, hk, rfl⟩ := Option.map_eq_some_iff.mp h
  unfold State.askTrim
  rw [hk]

/-- Over no held command, or a held TRIM, the TRIM is placed (R143). -/
theorem State.askTrim_place {c : Nat} (h : (s.cannon c).held = none ∨
    ∃ l m, (s.cannon c).held.map HeldCommand.command = some (.trim l m)) (cap n : Nat) :
    s.askTrim b c cap n = s.place c (.trim cap n) := by
  unfold State.askTrim
  rcases h with h | ⟨l, m, h⟩
  · rw [h]
  · obtain ⟨⟨k, i⟩, hk, rfl⟩ := Option.map_eq_some_iff.mp h
    rw [hk]

/-- A START still held takes the TRIM at once (R143). -/
theorem State.askTrim_start {c l left right m : Nat} (h : (s.cannon c).held = some ⟨.start l left right, m⟩) (cap n : Nat) :
    s.askTrim b c cap n =
      (s.setCannon c { s.cannon c with held := some ⟨.start (min l cap) left right, m⟩ }).takeTrim b 0 cap n := by
  unfold State.askTrim
  rw [h]

/-- An order whose start has been rewritten to a volume, with what it counts against a hold (R107). -/
def Order.trimmedTo (o : Order) (st : Start) (volume : Nat) (k : HoldCount) : Order :=
  { o with start := some { st with volume := volume, count := k } }

/-- An order whose start has been rewritten to a volume and a hold point (R107). -/
def Order.trimmedAt (o : Order) (st : Start) (volume dt : Nat) : Order := o.trimmedTo st volume (.trimmed dt)

/-- The reply to a TRIM, on the order of its start (R107). -/
theorem State.takeTrim_leaves (h : s.order b = some o) (hs : o.start = some st) (dt l n : Nat) :
    let volume := min st.volume (dt + l)
    (s.takeTrim b dt l n).order b =
      some (o.trimmedTo st volume (if (s.bed b).holdIs n then .trimmed dt else st.count)) ∧
    (s.takeTrim b dt l n).water = (s.releaseWater st.source (st.volume - volume)).water ∧
    ∀ a, a ≠ b → (s.takeTrim b dt l n).order a = s.order a := by
  intro volume
  set trimmed : Order := o.trimmedTo st volume (if (s.bed b).holdIs n then .trimmed dt else st.count) with ht
  set r := s.releaseWater st.source (st.volume - volume) with hr
  have form : (s.takeTrim b dt l n).disp.orders = (r.putOrder trimmed).disp.orders ∧ (s.takeTrim b dt l n).water = r.water := by
    unfold State.takeTrim
    rw [h]
    dsimp only
    rw [hs]
    dsimp only
    split <;> exact ⟨rfl, rfl⟩
  have bed : trimmed.bed = b := (State.order_mem h).2
  refine ⟨?_, form.2, fun a ha => ?_⟩
  · rw [State.order_congr form.1, ← bed]
    exact State.order_putOrder_same ..
  · rw [State.order_congr form.1, State.order_putOrder_ne r (bed ▸ ha)]
    exact State.order_congr (by rw [hr, State.releaseWater_disp]) a

/-- The reply to a TRIM while the hold that asked for it stands (R107). -/
theorem State.takeTrim_standing (h : s.order b = some o) (hs : o.start = some st) (dt l n : Nat)
    (standing : (s.bed b).holdIs n = true) :
    (s.takeTrim b dt l n).order b = some (o.trimmedAt st (min st.volume (dt + l)) dt) ∧
    ((s.takeTrim b dt l n).source st.source).reserved = (s.source st.source).reserved - (st.volume - min st.volume (dt + l)) ∧
    (∀ w, w ≠ st.source → (s.takeTrim b dt l n).source w = s.source w) ∧
    ∀ a, a ≠ b → (s.takeTrim b dt l n).order a = s.order a := by
  obtain ⟨order, water, others⟩ := State.takeTrim_leaves h hs dt l n
  have source := fun w => (State.source_congr water w).trans (s.source_setSource_if st.source w _)
  rw [standing, if_pos rfl] at order
  refine ⟨order, ?_, fun w hw => ?_, others⟩
  · rw [source, if_pos rfl]
  · rw [source, if_neg hw]

end

/-! ### A new hold -/

/-- The state in which a new hold asks for its TRIM. -/
def State.trimmedFrom (s : State) (b cap tag : Nat) : State := (s.heldFrom b cap tag).trimOrder b cap s.beds.holdSerial

/-- What the creation of a hold leaves, read off the state in which its TRIM has been asked for. -/
structure Held (s t : State) (b cap tag : Nat) : Prop where
  orders : t.disp.orders = (s.trimmedFrom b cap tag).disp.orders
  attempt : t.disp.attempt = true
  line : t.line = (s.trimmedFrom b cap tag).line
  water : t.water = (s.trimmedFrom b cap tag).water
  urgent : t.port.urgent = s.port.urgent
  routine : t.port.routine = s.port.routine
  outbound : s.port.outbound <+: t.port.outbound
  bed : ∃ x, t.bed b = { s.bed b with hold := some ⟨cap, tag, 0, s.beds.holdSerial⟩, cappedAtRisk := x }
  bed_ne : ∀ a, a ≠ b → t.bed a = s.bed a

theorem State.createHold_held (s : State) {b : Nat} (h1 : 1 ≤ b) (h2 : b ≤ 32) (cap tag : Nat) :
    Held s (s.createHold b cap tag) b cap tag := by
  have form : s.createHold b cap tag = ((s.trimmedFrom b cap tag).cause).judgeAtRisk b := rfl
  obtain ⟨beds, port⟩ := (s.heldFrom b cap tag).trimOrder_kept b cap s.beds.holdSerial
  have port : (s.trimmedFrom b cap tag).port = s.port := by
    refine port.trans ?_
    rw [s.heldFrom_eq]
    simp
  have bed : ∀ a, (s.trimmedFrom b cap tag).bed a =
      (s.setBed b { s.bed b with hold := some ⟨cap, tag, 0, s.beds.holdSerial⟩ }).bed a := fun a => by
    refine (State.bed_congr (congrArg BedTable.records beds) a).trans ?_
    rw [s.heldFrom_eq]
    rfl
  rw [form]
  set w := s.trimmedFrom b cap tag
  have judged := w.cause.judgeAtRisk_frame b
  refine ⟨by simp [w], by simp, by simp [w], by simp [w], by simp [port], by simp [port], ?_, ?_, fun a ha => ?_⟩
  · unfold State.judgeAtRisk
    have asked := fun (u : State) k v x => (u.askRecord_aside .cappedAtRisk k v x).outbound
    dsimp only
    rw [← port]
    split
    · split
      · exact List.prefix_refl _
      · exact asked (w.cause.setBed b _) ..
    · exact List.prefix_refl _
  · obtain ⟨x, e⟩ := w.cause.judgeAtRisk_bed h1 h2
    refine ⟨x, ?_⟩
    rw [e, show w.cause.bed b = w.bed b from rfl, bed, State.bed_setBed_same _ _ h1 h2]
  · rw [State.judgeAtRisk_bed_ne _ ha, show w.cause.bed a = w.bed a from rfl, bed]
    exact State.bed_setBed_ne _ _ ha

theorem State.heldFrom_line (s : State) (b cap tag : Nat) : (s.heldFrom b cap tag).line = s.line ∧
    (s.heldFrom b cap tag).water = s.water := by
  rw [s.heldFrom_eq]
  exact ⟨by simp, by simp⟩

theorem State.heldFrom_order (s : State) (b cap tag a : Nat) : (s.heldFrom b cap tag).order a = (s.countFromHere b cap).order a :=
  State.order_congr (congrArg Dispatcher.orders (s.heldFrom_orders b cap tag)) a

/-- Over an order without a start, or no order, nothing is asked for. -/
theorem State.trimmedFrom_idle {s : State} {b : Nat} (h : ∀ o, s.order b = some o → o.start = none) (cap tag : Nat) :
    (s.trimmedFrom b cap tag).disp = s.disp ∧ (s.trimmedFrom b cap tag).line = s.line := by
  have counted : s.countFromHere b cap = s := by
    cases ho : s.order b with
    | none => exact State.countFromHere_none ho cap
    | some o => exact State.countFromHere_idle ho (h o ho) cap
  have disp : (s.heldFrom b cap tag).disp = s.disp := by rw [State.heldFrom_orders, counted]
  have order : (s.heldFrom b cap tag).order b = s.order b := State.order_congr (congrArg Dispatcher.orders disp) b
  have same : s.trimmedFrom b cap tag = s.heldFrom b cap tag := by
    unfold State.trimmedFrom
    cases ho : s.order b with
    | none => exact State.trimOrder_none (order.trans ho) ..
    | some o => exact State.trimOrder_idle (order.trans ho) (h o ho) ..
  rw [same]
  exact ⟨disp, (s.heldFrom_line b cap tag).1⟩

section
variable {s : State} {b : Nat} {o : Order} {st : Start} (ho : s.order b = some o) (hs : o.start = some st)
include ho hs

theorem State.heldFrom_counted (cap tag : Nat) : (s.heldFrom b cap tag).order b = some (o.countedFrom st cap) := by
  rw [State.heldFrom_order, State.countFromHere_some ho hs, ← (State.order_mem ho).2]
  exact State.order_putOrder_same s (o.countedFrom st cap)

/-- No TRIM is asked for a start in STOPPING, nor over a held STOP (R103, R143). -/
theorem State.trimmedFrom_stopping (cap tag : Nat)
    (h : o.running = false ∨ (s.cannon st.cannon).held.map HeldCommand.command = some .stop) :
    s.trimmedFrom b cap tag = s.heldFrom b cap tag := by
  have counted := State.heldFrom_counted ho hs cap tag
  unfold State.trimmedFrom
  cases hr : o.running with
  | false => exact State.trimOrder_stopping counted rfl hr ..
  | true =>
    rw [State.trimOrder_running counted rfl hr]
    refine State.askTrim_stop ?_ ..
    rw [State.cannon_congr (congrArg Line.cannons (s.heldFrom_line b cap tag).1)]
    exact h.resolve_left (by rw [hr]; exact fun e => by cases e)

theorem State.trimmedFrom_placed (cap tag : Nat) (hr : o.running = true) (h : (s.cannon st.cannon).held = none ∨
    ∃ l m, (s.cannon st.cannon).held.map HeldCommand.command = some (.trim l m)) :
    s.trimmedFrom b cap tag = (s.heldFrom b cap tag).place st.cannon (.trim cap s.beds.holdSerial) := by
  unfold State.trimmedFrom
  rw [State.trimOrder_running (State.heldFrom_counted ho hs cap tag) rfl hr]
  refine State.askTrim_place ?_ ..
  rw [State.cannon_congr (congrArg Line.cannons (s.heldFrom_line b cap tag).1)]
  exact h

theorem State.trimmedFrom_start (cap tag : Nat) (hr : o.running = true) {l left right m : Nat}
    (h : (s.cannon st.cannon).held = some ⟨.start l left right, m⟩) : s.trimmedFrom b cap tag =
      ((s.heldFrom b cap tag).setCannon st.cannon
        { s.cannon st.cannon with held := some ⟨.start (min l cap) left right, m⟩ }).takeTrim b 0 cap s.beds.holdSerial := by
  have cannon := State.cannon_congr (congrArg Line.cannons (s.heldFrom_line b cap tag).1) st.cannon
  unfold State.trimmedFrom
  rw [State.trimOrder_running (State.heldFrom_counted ho hs cap tag) rfl hr, ← cannon]
  exact State.askTrim_start (by rw [← h]; exact congrArg Cannon.held cannon) ..

end
end Sys2Proof.Machine
end

section
/-! MOISTURE_HOLD_SET and MOISTURE_HOLD_CLEAR as requests (R102 to R105). -/

namespace Sys2Proof.Machine

theorem Settings.bedDefined_range {S : Settings} {b : Nat} (h : S.bedDefined b = true) : 1 ≤ b ∧ b ≤ 32 := by
  simp only [Settings.bedDefined, decide_eq_true_eq] at h
  exact ⟨h.1, h.2.1⟩

theorem okOrClamped_ne (m n : Nat) : okOrClamped (m != n) = if m = n then .ok else .clamped := by
  unfold okOrClamped
  by_cases h : m = n <;> simp [h]

/-- The state in which a request's owner works, seen from the state that takes it. -/
theorem State.takeRequest_source (s : State) (w : WaterSource) : s.takeRequest.source w = s.source w :=
  State.source_congr (by simp) w

/-! ### A new hold as a request -/

section
variable {s : State} {node : Node} {b tag : Nat} {cap : Nat}

theorem State.holdSet_new (hd : s.conf.bedDefined b = true) (h : (s.bed b).hold = none) : s.holdSet node b cap tag =
    (s.createHold b (takenCap cap) tag).reply node 0x10 (okOrClamped (takenCap cap != cap)) (holdBytes (takenCap cap) 0) := by
  unfold State.holdSet
  rw [hd, h]
  rfl

theorem State.holdSet_unknown (hd : s.conf.bedDefined b = false) : s.holdSet node b cap tag = s.reply node 0x10 .unknownBed [] := by
  unfold State.holdSet
  rw [hd]
  rfl

theorem State.holdSet_same (hd : s.conf.bedDefined b = true) {h : Hold} (hb : (s.bed b).hold = some h) (ht : h.tag = tag) :
    s.holdSet node b cap tag = (s.changeCap b h (max (takenCap cap) (h.tally + s.shareOf b))).reply node 0x10
      (okOrClamped (max (takenCap cap) (h.tally + s.shareOf b) != cap))
      (holdBytes (max (takenCap cap) (h.tally + s.shareOf b)) h.tally) := by
  unfold State.holdSet
  rw [hd, hb, if_neg (by decide)]
  dsimp only
  rw [if_pos ht]

theorem State.holdSet_held (hd : s.conf.bedDefined b = true) {h : Hold} (hb : (s.bed b).hold = some h) (ht : h.tag ≠ tag) :
    s.holdSet node b cap tag = s.reply node 0x10 .held (be16 h.tag) := by
  unfold State.holdSet
  rw [hd, hb, if_neg (by decide)]
  dsimp only
  rw [if_neg ht]

end

theorem State.askTrim_cannon_ne (s : State) (b : Nat) {a c : Nat} (h : a ≠ c) (cap n : Nat) :
    (s.askTrim b c cap n).cannon a = s.cannon a := by
  unfold State.askTrim
  split
  · rfl
  · rw [State.cannon_congr (congrArg Line.cannons (State.takeTrim_kept ..).2.2)]
    exact State.cannon_setCannon_ne _ _ h
  · rfl
  · exact State.cannon_setCannon_ne _ _ h

theorem State.place_held (s : State) {c : Nat} (k : LineCommand) (h1 : 1 ≤ c) (h2 : c ≤ 24) :
    ((s.place c k).cannon c).held.map HeldCommand.command = some k := by
  have written : (s.place c k).cannon c = { s.cannon c with held := some ⟨k, s.line.heldSerial⟩ } :=
    s.cannon_setCannon_same _ h1 h2
  rw [written]
  rfl

theorem State.takeTrim_order_ne (s : State) {a b : Nat} (h : a ≠ b) (dt l n : Nat) :
    (s.takeTrim b dt l n).order a = s.order a := by
  have released : ∀ w v, (s.releaseWater w v).order a = s.order a := fun w v => State.order_congr (by rw [State.releaseWater_disp]) a
  unfold State.takeTrim
  split
  · rfl
  · rename_i o ho
    have written : ∀ (u : State) (p : Order), p.bed = o.bed → (u.putOrder p).order a = u.order a := fun u p hp =>
      u.order_putOrder_ne (fun e => h (e.trans (hp.trans (State.order_mem ho).2)))
    split
    · rfl
    · dsimp only
      split
      · refine Eq.trans (State.order_congr (by rfl) a) ((written _ _ ?_).trans (released _ _))
        rfl
      · refine (written _ _ ?_).trans (released _ _)
        rfl

theorem State.trimOrder_order_ne (s : State) {a b : Nat} (h : a ≠ b) (cap n : Nat) :
    (s.trimOrder b cap n).order a = s.order a := by
  unfold State.trimOrder
  split
  · rfl
  · split
    · rfl
    · split
      · unfold State.askTrim
        split
        · rfl
        · exact State.takeTrim_order_ne _ h ..
        · rfl
        · rfl
      · rfl

section
variable {s t : State} {b n tag : Nat} {o : Order} {st : Start} (held : Held s t b n tag) (ho : s.order b = some o)
  (hs : o.start = some st)
include held ho hs

/-- A new hold over a start that is asked for no TRIM. -/
theorem Held.stopping (h : o.running = false ∨ (s.cannon st.cannon).held.map HeldCommand.command = some .stop) :
    t.order b = some (o.countedFrom st n) ∧ t.line = s.line ∧ t.water = s.water := by
  have same := State.trimmedFrom_stopping ho hs n tag h
  refine ⟨?_, ?_, ?_⟩
  · rw [State.order_congr held.orders, same]
    exact State.heldFrom_counted ho hs n tag
  · rw [held.line, same]
    exact (s.heldFrom_line b n tag).1
  · rw [held.water, same]
    exact (s.heldFrom_line b n tag).2

/-- A new hold over a start whose cannon takes the TRIM as its held command. -/
theorem Held.placed (hc1 : 1 ≤ st.cannon) (hc2 : st.cannon ≤ 24) (hr : o.running = true)
    (h : (s.cannon st.cannon).held = none ∨ ∃ l m, (s.cannon st.cannon).held.map HeldCommand.command = some (.trim l m)) :
    t.order b = some (o.countedFrom st n) ∧ t.water = s.water ∧
      (t.cannon st.cannon).held.map HeldCommand.command = some (.trim n s.beds.holdSerial) := by
  have same := State.trimmedFrom_placed ho hs n tag hr h
  refine ⟨?_, ?_, ?_⟩
  · rw [State.order_congr held.orders, same]
    exact State.heldFrom_counted ho hs n tag
  · rw [held.water, same]
    exact (s.heldFrom_line b n tag).2
  · rw [State.cannon_congr (congrArg Line.cannons held.line), same]
    exact State.place_held _ _ hc1 hc2

/-- A new hold over a start whose START is still held (R143). -/
theorem Held.start (h1 : 1 ≤ b) (h2 : b ≤ 32) (hc1 : 1 ≤ st.cannon) (hc2 : st.cannon ≤ 24) (hr : o.running = true)
    {l left right m : Nat} (h : (s.cannon st.cannon).held = some ⟨.start l left right, m⟩) :
    (t.cannon st.cannon).held = some ⟨.start (min l n) left right, m⟩ ∧
      t.order b = some (o.trimmedAt st (min st.volume n) 0) ∧
      (t.source st.source).reserved = (s.source st.source).reserved - (st.volume - min st.volume n) ∧
      ∀ w, w ≠ st.source → t.source w = s.source w := by
  have same := State.trimmedFrom_start ho hs n tag hr h
  set v := s.heldFrom b n tag with hv
  set u := v.setCannon st.cannon { s.cannon st.cannon with held := some ⟨.start (min l n) left right, m⟩ } with hu
  have standing : (u.bed b).holdIs s.beds.holdSerial = true := by
    refine Bed.holdIs_iff.mpr ⟨_, (s.heldFrom_bed b n tag b).trans (if_pos ⟨rfl, h1, h2⟩), rfl⟩
  have source : ∀ w, u.source w = s.source w := State.source_congr (s.heldFrom_line b n tag).2
  obtain ⟨order, reserved, others, _⟩ := State.takeTrim_standing (s := u) (o := o.countedFrom st n)
    (st := { st with count := .running (st.delivered.getD 0) n }) (State.heldFrom_counted ho hs n tag) rfl 0 n s.beds.holdSerial standing
  have water := State.source_congr (held.water.trans (congrArg State.water same))
  refine ⟨?_, ?_, ?_, fun w hw => ?_⟩
  · rw [State.cannon_congr (congrArg Line.cannons (held.line.trans (congrArg State.line same))),
      State.cannon_congr (congrArg Line.cannons (State.takeTrim_kept ..).2.2), hu, State.cannon_setCannon_same _ _ hc1 hc2]
  · rw [State.order_congr (held.orders.trans (congrArg (fun x : State => x.disp.orders) same)), order, zero_add]
    rfl
  · rw [water, reserved, source, zero_add]
  · rw [water, others w hw, source]

theorem Held.cannon_ne {c : Nat} (hc : c ≠ st.cannon) : t.cannon c = s.cannon c := by
  have counted := State.heldFrom_counted ho hs n tag
  have line := State.cannon_congr (congrArg Line.cannons (s.heldFrom_line b n tag).1) c
  rw [State.cannon_congr (congrArg Line.cannons held.line)]
  unfold State.trimmedFrom
  cases hr : o.running with
  | false => rw [State.trimOrder_stopping counted rfl hr, line]
  | true => rw [State.trimOrder_running counted rfl hr, State.askTrim_cannon_ne _ _ hc, line]

end

theorem Held.order_ne {s t : State} {b n tag : Nat} (held : Held s t b n tag) {a : Nat} (ha : a ≠ b) : t.order a = s.order a := by
  rw [State.order_congr held.orders, State.trimmedFrom, State.trimOrder_order_ne _ ha, State.heldFrom_order,
    State.countFromHere_order_ne _ ha]

/-! ### A hold that stands -/

theorem State.changeCap_same (s : State) {b : Nat} {h : Hold} {cap : Nat} (e : cap = h.cap) : s.changeCap b h cap = s := by
  unfold State.changeCap
  rw [if_pos e]

theorem State.changeCap_ne (s : State) {b : Nat} {h : Hold} {cap : Nat} (e : cap ≠ h.cap) : s.changeCap b h cap =
    ((s.setBed b { s.bed b with hold := some { h with cap := cap } }).cause).judgeAtRisk b := by
  unfold State.changeCap
  rw [if_neg e]

theorem State.judgeAtRisk_outbound (s : State) (b : Nat) : s.port.outbound <+: (s.judgeAtRisk b).port.outbound := by
  unfold State.judgeAtRisk
  dsimp only
  split
  · split
    · exact List.prefix_refl _
    · exact ((s.setBed b { s.bed b with cappedAtRisk := true }).askRecord_aside ..).outbound
  · exact List.prefix_refl _

/-- What a new cap leaves (R104). -/
theorem State.changeCap_leaves (s : State) {b : Nat} (h1 : 1 ≤ b) (h2 : b ≤ 32) {h : Hold} (hb : (s.bed b).hold = some h) (cap : Nat) :
    let t := s.changeCap b h cap
    (t.bed b).hold = some { h with cap := cap } ∧ (cap ≠ h.cap → t.disp.attempt = true) ∧ (cap = h.cap → t.disp = s.disp) ∧
      t.port.urgent = s.port.urgent ∧ t.port.routine = s.port.routine ∧ s.port.outbound <+: t.port.outbound ∧
      (∀ a, a ≠ b → t.bed a = s.bed a) ∧ t.disp.orders = s.disp.orders ∧ t.line = s.line := by
  by_cases e : cap = h.cap
  · rw [State.changeCap_same s e]
    subst e
    exact ⟨hb, fun n => absurd rfl n, fun _ => rfl, rfl, rfl, List.prefix_refl _, fun _ _ => rfl, rfl, rfl⟩
  · rw [State.changeCap_ne s e]
    set u := (s.setBed b { s.bed b with hold := some { h with cap := cap } }).cause with hu
    have bed : ∀ a, u.bed a = (s.setBed b { s.bed b with hold := some { h with cap := cap } }).bed a := fun _ => rfl
    obtain ⟨x, judged⟩ := u.judgeAtRisk_bed h1 h2
    refine ⟨?_, fun _ => by simp [hu], fun n => absurd n e, by simp [hu], by simp [hu], u.judgeAtRisk_outbound b, fun a ha => ?_,
      by simp [hu], by simp [hu]⟩
    · rw [judged, bed, State.bed_setBed_same _ _ h1 h2]
    · rw [u.judgeAtRisk_bed_ne ha, bed, State.bed_setBed_ne _ _ ha]

/-- A hold taken off a bed at the word of its holder (R105). -/
theorem State.removeHold_leaves (s : State) {b : Nat} (h1 : 1 ≤ b) (h2 : b ≤ 32) :
    let t := s.removeHold b
    t.bed b = { s.bed b with hold := none, cappedAtRisk := false } ∧ (∀ a, a ≠ b → t.bed a = s.bed a) ∧
      t.disp.attempt = true ∧ t.port = s.port ∧ t.beds.pending = s.beds.pending ∧ t.water = s.water ∧ t.line = s.line := by
  set u := s.setBed b { s.bed b with hold := none, cappedAtRisk := false } with hu
  have form : s.removeHold b = (uncountStart u b).cause := rfl
  rw [form]
  have bed : ∀ a, ((uncountStart u b).cause).bed a = u.bed a := fun a => State.bed_congr (by simp) a
  refine ⟨?_, fun a ha => ?_, by simp, by simp [hu], by simp [hu], by simp [hu], by simp [hu]⟩
  · rw [bed, hu, State.bed_setBed_same _ _ h1 h2]
  · rw [bed, hu, State.bed_setBed_ne _ _ ha]

/-- The last clauses of a new hold: its start, its reply and the other beds. -/
theorem Held.answered {s t : State} {node : Node} {b n tag cap : Nat} (held : Held s.takeRequest t b n tag) :
    s.answers (t.reply node 0x10 (okOrClamped (n != cap)) (holdBytes n 0)) node 0x10 (if n = cap then .ok else .clamped)
      (be24 n ++ be16 0) := by
  rw [okOrClamped_ne]
  exact State.answers_of_reply held.urgent held.routine held.outbound

/-- Settles O38: `exec_trimLaw` and `exec_holdLaw` for the laws, `Held` for a new hold over a start. -/
theorem moistureHolds : Obligations.MoistureHolds := by
  refine ⟨fun s t law ht hx => ?_, fun c s t law ht hh meter hx => exec_holdLaw law ht hh meter hx, fun s node bed tag => ⟨?_, ?_⟩⟩
  · exact step_leads (fun s => s.orderLaw ∧ s.trimLaw) State.trimLaw (fun _ _ h => h) (fun _ _ h => h.2)
      (fun _ _ _ ⟨law, ht⟩ => exec_trimLaw law ht) ⟨law, ht⟩ hx
  · intro cap ready run n
    set u := s.takeRequest with hu
    have ran : run = .next (u.holdSet node bed.toNat cap.toNat tag.toNat) := congrArg Host.Outcome.next (State.serve_ready _ ready)
    have conf : u.conf = s.conf := by simp [hu]
    have ubed : ∀ b, u.bed b = s.bed b := s.bed_takeRequest
    have uorder : ∀ b, u.order b = s.order b := s.order_takeRequest
    have ucannon : ∀ c, u.cannon c = s.cannon c := s.cannon_takeRequest
    have usource : ∀ w, u.source w = s.source w := s.takeRequest_source
    have ushare : u.shareOf bed.toNat = s.shareOf bed.toNat := State.shareOf_congr (by simp [hu]) _
    refine ⟨fun hd => ran.trans (congrArg _ (State.holdSet_unknown (by rw [conf]; exact hd))), fun hd => ?_⟩
    have hd : u.conf.bedDefined bed.toNat = true := by rw [conf]; exact hd
    obtain ⟨h1, h2⟩ := Settings.bedDefined_range hd
    refine ⟨fun unheld => ?_, fun h hb htag => ?_, fun h hb htag => ?_⟩
    · have held := u.createHold_held h1 h2 n tag.toNat
      have line : u.line = s.line := by simp [hu]
      have water : u.water = s.water := by simp [hu]
      have orders : u.disp = s.disp := by simp [hu]
      rw [State.holdSet_new hd (by rw [ubed]; exact unheld)] at ran
      generalize hv : u.createHold bed.toNat (takenCap cap.toNat) tag.toNat = v at ran
      have held : Held u v bed.toNat n tag.toNat := hv ▸ held
      obtain ⟨x, hbed⟩ := held.bed
      refine ⟨_, ⟨n, tag.toNat, 0, u.beds.holdSerial⟩, ran, ?_, rfl, rfl, rfl, held.attempt, fun o ho hs => ?_,
        fun o st ho hs hc1 hc2 => ?_, fun ho => ?_, fun b hb => ?_, held.answered, fun b hb => ?_, ?_, ?_⟩
      · exact congrArg Bed.hold hbed
      · obtain ⟨disp, trimmed⟩ := State.trimmedFrom_idle (s := u) (b := bed.toNat)
          (fun p hp => by rw [uorder, ho] at hp; exact Option.some.inj hp ▸ hs) n tag.toNat
        exact ⟨(State.order_congr (held.orders.trans (congrArg Dispatcher.orders disp)) _).trans ((uorder _).trans ho),
          (held.line.trans trimmed).trans line⟩
      · have ho : u.order bed.toNat = some o := (uorder _).trans ho
        rw [← ucannon]
        refine ⟨fun h => ?_, fun hr => ⟨fun h => ?_, fun limit left right m h => ?_⟩, fun c hc => ?_⟩
        · obtain ⟨order, sline, swater⟩ := held.stopping ho hs h
          exact ⟨order, sline.trans line, swater.trans water⟩
        · obtain ⟨order, swater, asked⟩ := held.placed ho hs hc1 hc2 hr h
          exact ⟨order, swater.trans water, asked⟩
        · obtain ⟨command, order, reserved, others⟩ := held.start ho hs h1 h2 hc1 hc2 hr h
          exact ⟨command, order, reserved.trans (by rw [usource]), fun w hw => (others w hw).trans (usource w)⟩
        · exact (held.cannon_ne ho hs hc).trans (ucannon c)
      · obtain ⟨disp, trimmed⟩ := State.trimmedFrom_idle (s := u) (b := bed.toNat)
          (fun p hp => by rw [uorder, ho] at hp; cases hp) n tag.toNat
        exact ⟨held.orders.trans ((congrArg Dispatcher.orders disp).trans (congrArg Dispatcher.orders orders)),
          (held.line.trans trimmed).trans line⟩
      · exact (held.order_ne hb).trans (uorder b)
      · exact (held.bed_ne b hb).trans (ubed b)
      · exact (congrArg Bed.wetness hbed).trans (show (u.bed _).wetness = _ by rw [ubed])
      · exact (congrArg Bed.surface hbed).trans (show (u.bed _).surface = _ by rw [ubed])
    · intro m
      rw [State.holdSet_same hd (by rw [ubed]; exact hb) htag, ushare] at ran
      obtain ⟨hold, attempt, disp, urgent, routine, outbound, beds, orders, line⟩ :=
        u.changeCap_leaves h1 h2 ((congrArg Bed.hold (ubed _)).trans hb) m
      refine ⟨_, ran, hold, attempt, fun e => (disp e).trans (by simp [hu]), ?_, fun b hb => (beds b hb).trans (ubed b),
        orders.trans (by simp [hu]), line.trans (by simp [hu])⟩
      rw [okOrClamped_ne]
      exact State.answers_of_reply urgent routine outbound
    · rw [State.holdSet_held hd (by rw [ubed]; exact hb) htag] at ran
      exact ran
  · intro ready run
    set u := s.takeRequest with hu
    have ran : run = .next (u.holdClear node bed.toNat tag.toNat) := congrArg Host.Outcome.next (State.serve_ready _ ready)
    have conf : u.conf = s.conf := by simp [hu]
    have ubed : ∀ b, u.bed b = s.bed b := s.bed_takeRequest
    have cleared : u.holdClear node bed.toNat tag.toNat = if s.conf.bedDefined bed.toNat = false then u.reply node 0x11 .unknownBed []
        else match (s.bed bed.toNat).hold with
        | none => u.reply node 0x11 .empty []
        | some h => if h.tag = tag.toNat then (u.removeHold bed.toNat).reply node 0x11 .ok (be24 h.tally)
          else u.reply node 0x11 .noMatch (be16 h.tag) := by
      unfold State.holdClear
      rw [conf, ubed]
      cases s.conf.bedDefined bed.toNat <;> cases (s.bed bed.toNat).hold <;> rfl
    rw [cleared] at ran
    refine ⟨fun hd => ?_, fun hd => ⟨fun none => ?_, fun h hb htag => ?_, fun h hb htag => ?_⟩⟩
    · rw [if_pos hd] at ran
      exact ran
    · rw [hd, if_neg (by decide), none] at ran
      exact ran
    · rw [hd, if_neg (by decide), hb] at ran
      dsimp only at ran
      rw [if_neg htag] at ran
      exact ran
    · obtain ⟨h1, h2⟩ := Settings.bedDefined_range hd
      rw [hd, if_neg (by decide), hb] at ran
      dsimp only at ran
      rw [if_pos htag] at ran
      obtain ⟨own, beds, attempt, port, pending, water, line⟩ := u.removeHold_leaves h1 h2
      refine ⟨_, ran, own.trans (by rw [ubed]), fun b hb => (beds b hb).trans (ubed b), attempt, ?_, pending.trans (by simp [hu]),
        water.trans (by simp [hu]), line.trans (by simp [hu])⟩
      rw [State.reply_outbound, port]
      simp [hu]

end Sys2Proof.Machine
end

section
/-! WATER_GRANT and WATER_WITHDRAW, whole (R69, R70). -/

namespace Sys2Proof.Machine

/-- The state in which a source's balance has become `n` after a move of `moved`, a cause of an attempt when it moved (R69, R70). -/
def State.poured (s : State) (w : WaterSource) (n moved : Nat) : State :=
  { s.setSource w { s.source w with balance := n } with
    disp := { s.disp with attempt := s.disp.attempt || decide (0 < moved) } }

theorem State.poured_cause (s : State) (w : WaterSource) (n moved : Nat) : s.poured w n moved =
    if moved = 0 then s.setSource w { s.source w with balance := n } else (s.setSource w { s.source w with balance := n }).cause := by
  unfold State.poured
  by_cases h : moved = 0
  · subst h
    rw [if_pos rfl]
    cases w <;> simp [State.setSource]
  · have positive : decide (0 < moved) = true := decide_eq_true (Nat.pos_of_ne_zero h)
    rw [if_neg h, positive, Bool.or_true]
    cases w <;> rfl

theorem okOrClamped_lt (m n : Nat) : okOrClamped (decide (m < n)) = if m < n then .clamped else .ok := by
  unfold okOrClamped
  by_cases h : m < n <;> simp [h]

theorem State.grantWater_eq (s : State) (node : Node) (w : WaterSource) (amount : Nat) :
    let n := min amount (100000000 - (s.source w).balance)
    s.grantWater node w amount = (s.poured w ((s.source w).balance + n) n).reply node 0x18
      (if n < amount then .clamped else .ok) (be32 n) := by
  intro n
  rw [State.poured_cause, ← okOrClamped_lt]
  rfl

theorem State.withdrawWater_eq (s : State) (node : Node) (w : WaterSource) (amount : Nat) :
    let n := min amount ((s.source w).balance - (s.source w).reserved)
    s.withdrawWater node w amount = (s.poured w ((s.source w).balance - n) n).reply node 0x19
      (if n < amount then .clamped else .ok) (be32 n) := by
  intro n
  rw [State.poured_cause, ← okOrClamped_lt]
  rfl

/-- Settles O31: both commands write one balance, and mark an attempt when it moves. -/
theorem grantsAndWithdrawals : Obligations.GrantsAndWithdrawals := by
  intro s node amount
  have ran : ∀ {c : Instr} {code data owner}, s.ready node code data → exec c s = .next (s.serve node code data owner) →
      exec c s = .next (owner s.takeRequest) := fun ready e => e.trans (congrArg _ (State.serve_ready _ ready))
  obtain ⟨p, taken⟩ := s.takeRequest_port
  have unknown : ∀ source : Byte, 1 < source.toNat → sourceOf source = none := fun source h => by
    unfold sourceOf
    rw [if_neg (fun e => by subst e; exact absurd h (by decide)), if_neg (fun e => by subst e; exact absurd h (by decide))]
  refine ⟨fun source h => ⟨fun ready => ?_, fun ready => ?_⟩, fun ready => ?_, fun ready => ?_, fun ready => ?_, fun ready => ?_⟩
  · refine (ran ready rfl).trans (congrArg _ ?_)
    unfold State.waterGrant
    rw [unknown source h]
  · refine (ran ready rfl).trans (congrArg _ ?_)
    unfold State.waterWithdraw
    rw [unknown source h]
  all_goals
    refine (ran ready rfl).trans (congrArg _ ?_)
    rw [taken]
  · exact State.grantWater_eq _ node .recycled amount.toNat
  · exact State.grantWater_eq _ node .fresh amount.toNat
  · exact State.withdrawWater_eq _ node .recycled amount.toNat
  · exact State.withdrawWater_eq _ node .fresh amount.toNat

end Sys2Proof.Machine
end

section
/-! SUPPORT. Notices that join while five entries are free (R195, R196): what a producer's turn sends. -/

namespace Sys2Proof.Machine

/-- How many notices may join: all but four of the free entries (R195). -/
def State.slots (s : State) : Nat := s.free - 4

theorem State.room_iff {s : State} : s.room = true ↔ 0 < s.slots := by
  unfold State.room State.slots
  rw [decide_eq_true_iff]
  omega

/-- Of a list of frames as many have joined, in order, as there was room for. -/
def Sends (s t : State) (l : List Frame) : Prop :=
  t.port = { s.port with outbound := s.port.outbound ++ l.take s.slots }

namespace Sends

theorem slots {s t : State} {l : List Frame} (h : Sends s t l) : t.slots = s.slots - l.length := by
  unfold Sends at h
  unfold State.slots State.free
  rw [h]
  dsimp only
  rw [List.length_append, List.length_take]
  unfold State.slots State.free
  omega

theorem trans {s t u : State} {l m : List Frame} (h1 : Sends s t l) (h2 : Sends t u m) : Sends s u (l ++ m) := by
  have slots := h1.slots
  unfold Sends at h1 h2 ⊢
  rw [h2, slots, h1]
  dsimp only
  rw [List.append_assoc, ← List.take_append]

theorem nil {s t : State} (h : t.port = s.port) : Sends s t [] := by
  unfold Sends
  rw [h, List.take_nil, List.append_nil]

/-- Without room nothing joins. -/
theorem full {s t : State} (l : List Frame) (hr : s.slots = 0) (h : t.port = s.port) : Sends s t l := by
  unfold Sends
  rw [h, hr, List.take_zero, List.append_nil]

/-- With room a frame joins. -/
theorem one {s t : State} {f : Frame} (hr : 0 < s.slots) (h : t.port = (s.join f).port) : Sends s t [f] := by
  unfold Sends
  rw [h, List.take_of_length_le (by exact hr)]
  rfl

theorem outbound {s t : State} {l : List Frame} (h : Sends s t l) : t.port.outbound = s.port.outbound ++ l.take s.slots := by
  unfold Sends at h
  rw [h]

end Sends

/-! ### WATER_USE -/

/-- The WATER_USE notice a source has pending (R84). -/
def State.useFrames (s : State) (w : WaterSource) : List Frame :=
  if (s.source w).pendingUse = 0 then []
  else [.notice (s.classes .waterUse) .waterUse (be8 w.code ++ be32 (s.source w).pendingUse)]

theorem flushUse_sends (s : State) (w : WaterSource) : Sends s (flushUse s w) (s.useFrames w) ∧
    (∀ z, (flushUse s w).source z = if z = w ∧ 0 < s.slots then { s.source w with pendingUse := 0 } else s.source z) := by
  unfold flushUse State.useFrames
  by_cases hp : (s.source w).pendingUse = 0
  · rw [if_neg (fun h => h.1 hp), if_pos hp]
    refine ⟨.nil rfl, fun z => ?_⟩
    split
    · rename_i h
      rw [h.1]
      cases hs : s.source w
      rw [hs] at hp
      exact congrArg _ hp
    · rfl
  · rw [if_neg hp]
    by_cases hr : 0 < s.slots
    · rw [if_pos ⟨hp, State.room_iff.mpr hr⟩]
      refine ⟨.one hr (by cases w <;> rfl), fun z => ?_⟩
      rw [State.source_setSource_if]
      by_cases hz : z = w
      · rw [if_pos hz, if_pos ⟨hz, hr⟩]
      · rw [if_neg hz, if_neg (fun h => hz h.1)]
        cases z <;> rfl
    · rw [if_neg (fun h => hr (State.room_iff.mp h.2))]
      refine ⟨.full _ (by omega) rfl, fun z => ?_⟩
      rw [if_neg (fun h => hr h.2)]

end Sys2Proof.Machine
end

section
/-! USAGE_PERIOD_EXPIRY (R83, R84, R86). -/

namespace Sys2Proof.Machine

/-- The state in which the WATER_USE notices of a period look for room. -/
def State.periodClosed (s : State) (due : Nat) : State :=
  closePeriod (closePeriod { s.reach due with
    water := { (s.reach due).water with usageDue := some (due + ms s.conf.tUse), demandMark := false } } .recycled) .fresh

theorem execUsagePeriodExpiry_due {s : State} {due : Nat} (h : s.water.usageDue = some due) :
    exec .usagePeriodExpiry s = .next (flushUse (flushUse (s.periodClosed due) .recycled) .fresh) := by
  change execUsagePeriodExpiry s = _
  unfold execUsagePeriodExpiry
  rw [h]
  rfl

/-- A source at a period's end (R83, R84). -/
def Source.closed (r : Source) (routed : Bool) : Source :=
  { r with pendingUse := if routed then min 4294967295 (r.pendingUse + r.charged) else r.pendingUse, charged := 0 }

theorem closePeriod_eq (s : State) (w : WaterSource) :
    closePeriod s w = s.setSource w ((s.source w).closed (s.classes .waterUse != 0)) := by
  unfold closePeriod Source.closed
  by_cases h : s.classes .waterUse = 0
  · simp [h]
  · simp [h, saturate]

theorem State.periodClosed_source (s : State) (due : Nat) (w : WaterSource) :
    (s.periodClosed due).source w = (s.source w).closed (s.classes .waterUse != 0) := by
  unfold State.periodClosed
  rw [closePeriod_eq, closePeriod_eq, State.source_setSource_if, State.source_setSource_if, State.source_setSource_if]
  cases w <;> rfl

/-- What the two turns of a period's end leave. -/
theorem flushUses_leave (u : State) : let t := flushUse (flushUse u .recycled) .fresh
    Sends u t (u.useFrames .recycled ++ u.useFrames .fresh) ∧
      (t.source .recycled = if 0 < u.slots then { u.source .recycled with pendingUse := 0 } else u.source .recycled) ∧
      (t.source .fresh = if 0 < u.slots - (u.useFrames .recycled).length then { u.source .fresh with pendingUse := 0 }
        else u.source .fresh) := by
  obtain ⟨sends1, source1⟩ := flushUse_sends u .recycled
  obtain ⟨sends2, source2⟩ := flushUse_sends (flushUse u .recycled) .fresh
  have fresh : (flushUse u .recycled).source .fresh = u.source .fresh := by rw [source1, if_neg (fun h => by cases h.1)]
  have frames : (flushUse u .recycled).useFrames .fresh = u.useFrames .fresh := by
    unfold State.useFrames State.classes
    rw [fresh]
    simp
  refine ⟨sends1.trans (frames ▸ sends2), ?_, ?_⟩
  · rw [source2, if_neg (fun h => by cases h.1), source1]
    by_cases h : 0 < u.slots
    · rw [if_pos ⟨rfl, h⟩, if_pos h]
    · rw [if_neg (fun e => h e.2), if_neg h]
  · rw [source2, fresh, sends1.slots]
    by_cases h : 0 < u.slots - (u.useFrames .recycled).length
    · rw [if_pos ⟨rfl, h⟩, if_pos h]
    · rw [if_neg (fun e => h e.2), if_neg h]

/-- Settles O34: `flushUse_sends` for the two notices. -/
theorem usagePeriodsEnd : Obligations.UsagePeriodsEnd := by
  intro s
  refine ⟨fun none => ?_, fun due hdue => ?_⟩
  · change execUsagePeriodExpiry s = _
    unfold execUsagePeriodExpiry
    rw [none]
  intro r f k
  set u := s.periodClosed due with hu
  obtain ⟨sends, recycled, fresh⟩ := flushUses_leave u
  have out := sends.outbound
  have ran := execUsagePeriodExpiry_due hdue
  rw [← hu] at ran
  have port : u.port = s.port := by simp [hu, State.periodClosed, closePeriod_eq]
  have slots : u.slots = s.free - 4 := by unfold State.slots State.free; rw [port]
  have routed : u.classes .waterUse = k := by simp [hu, State.periodClosed, closePeriod_eq, State.classes, k]
  have source := s.periodClosed_source due
  have pendingR : (u.source .recycled).pendingUse = if k = 0 then s.water.recycled.pendingUse else r := by
    rw [source]
    by_cases h : k = 0 <;> simp [Source.closed, h, k, r, State.source] at *
  have pendingF : (u.source .fresh).pendingUse = if k = 0 then s.water.fresh.pendingUse else f := by
    rw [source]
    by_cases h : k = 0 <;> simp [Source.closed, h, k, f, State.source] at *
  rw [slots] at out recycled fresh
  have frames : ∀ w, u.useFrames w = if (u.source w).pendingUse = 0 then []
      else [.notice k .waterUse (be8 w.code ++ be32 (u.source w).pendingUse)] := fun w => by
    unfold State.useFrames
    rw [routed]
  rw [frames, frames, port] at out
  rw [frames] at fresh
  set t := flushUse (flushUse u .recycled) .fresh with ht
  have book : ∀ w, (t.source w).charged = 0 ∧ (t.source w).balance = (s.source w).balance ∧
      (t.source w).reserved = (s.source w).reserved := fun w => by
    have closed : (u.source w).charged = 0 ∧ (u.source w).balance = (s.source w).balance ∧
        (u.source w).reserved = (s.source w).reserved := by rw [hu, source]; exact ⟨rfl, rfl, rfl⟩
    have told : ∀ (p : Prop) [Decidable p], let x := if p then { u.source w with pendingUse := 0 } else u.source w
        x.charged = (u.source w).charged ∧ x.balance = (u.source w).balance ∧ x.reserved = (u.source w).reserved := by
      intro p _
      dsimp only
      split <;> exact ⟨rfl, rfl, rfl⟩
    obtain ⟨charged, balance, reserved⟩ := closed
    cases w with
    | recycled =>
      obtain ⟨c, b, r⟩ := told (0 < s.free - 4)
      rw [recycled]
      exact ⟨c.trans charged, b.trans balance, r.trans reserved⟩
    | fresh =>
      obtain ⟨c, b, r⟩ := told (0 < s.free - 4 - (if (u.source .recycled).pendingUse = 0 then [] else
        [Frame.notice k .waterUse (be8 WaterSource.recycled.code ++ be32 (u.source .recycled).pendingUse)]).length)
      rw [fresh]
      exact ⟨c.trans charged, b.trans balance, r.trans reserved⟩
  have kept : t.osc = max s.osc due ∧ t.water.usageDue = some (due + s.conf.tUse * 1000) ∧ t.water.demandMark = false ∧
      t.disp = s.disp ∧ t.beds = s.beds ∧ t.line = s.line ∧ t.recs = s.recs ∧ t.ctrl = s.ctrl ∧ t.meas = s.meas := by
    simp [ht, hu, State.periodClosed, closePeriod_eq, ms]
  obtain ⟨osc, usage, mark, rest⟩ := kept
  have pr : t.water.recycled.pendingUse = if 0 < s.free - 4 then 0 else (u.source .recycled).pendingUse := by
    change (t.source .recycled).pendingUse = _
    rw [recycled]
    split <;> rfl
  have pf : t.water.fresh.pendingUse = if 0 < s.free - 4 - (if (u.source .recycled).pendingUse = 0 then 0 else 1) then 0
      else (u.source .fresh).pendingUse := by
    change (t.source .fresh).pendingUse = _
    rw [fresh]
    by_cases h : (u.source .recycled).pendingUse = 0
    · simp only [if_pos h, List.length_nil]
      split <;> rfl
    · simp only [if_neg h, List.length_singleton]
      split <;> rfl
  refine ⟨t, ran, osc, usage, mark, (book .recycled).1, (book .fresh).1, (book .recycled).2.1, (book .fresh).2.1,
    (book .recycled).2.2, (book .fresh).2.2, fun hk room => ?_, fun hk room => ?_, fun hk room => ?_, fun hk none1 none2 => ?_, rest⟩
  · rw [if_neg hk] at pendingR pendingF
    rw [pendingR] at pf pr out
    rw [pendingF] at pf out
    refine ⟨pr.trans (if_pos (by omega)), pf.trans (if_pos (by split <;> omega)), ?_⟩
    rw [out, List.append_assoc, List.take_of_length_le]
    · rfl
    · split <;> split <;> simp <;> omega
  · rw [if_neg hk] at pendingR pendingF
    rw [pendingR] at pf pr out
    rw [pendingF] at pf out
    rw [room] at pr pf out
    refine ⟨pr, ?_, ?_⟩
    · rw [pf]
      by_cases hr : r = 0 <;> simp [hr]
    · rw [out]
      by_cases hr : r = 0
      · by_cases hf : f = 0
        · simp [hr, hf]
        · simp only [if_pos hr, if_neg hf]
          rfl
      · simp only [if_neg hr]
        rfl
  · rw [if_neg hk] at pendingR pendingF
    have zero : s.free - 4 = 0 := by omega
    rw [zero] at pr pf out
    refine ⟨pr.trans pendingR, ?_, by simpa using out⟩
    rw [pf, Nat.zero_sub]
    exact pendingF
  · rw [if_pos hk, none1] at pendingR
    rw [if_pos hk, none2] at pendingF
    rw [pendingR] at pr pf out
    rw [pendingF] at pf out
    exact ⟨pr.trans (by simp), pf.trans (by simp), by simpa using out⟩

end Sys2Proof.Machine
end

section
/-! WATER_QUALITY and PUMP_STATE: the gate and the header, and what their stops leave (R79 to R82, R132). -/

namespace Sys2Proof.Machine

/-! ### Stops charge nothing -/

/-- The balances and the day's use of FRESH are as they were. -/
structure Dry (s t : State) : Prop where
  balance : ∀ w, (t.source w).balance = (s.source w).balance
  today : t.water.freshToday = s.water.freshToday

theorem Dry.of {s t : State} (h : t.water = s.water) : Dry s t :=
  ⟨fun w => by rw [State.source_congr h], by rw [h]⟩

theorem Dry.trans {s t u : State} (h1 : Dry s t) (h2 : Dry t u) : Dry s u :=
  ⟨fun w => (h2.balance w).trans (h1.balance w), h2.today.trans h1.today⟩

theorem State.releaseWater_dry (s : State) (w : WaterSource) (v : Nat) : Dry s (s.releaseWater w v) := by
  refine ⟨fun z => ?_, by cases w <;> rfl⟩
  cases w <;> cases z <;> rfl

theorem State.settleRefused_water (s : State) (q : Order) : (s.settleRefused q).water = s.water := by
  unfold State.settleRefused
  split
  · simp
  · split <;> simp

theorem State.refuseStart_dry (s : State) (b : Nat) : Dry s (s.refuseStart b) := by
  unfold State.refuseStart
  split
  · exact .of rfl
  · split
    · exact .of rfl
    · rename_i o _ _ st _
      refine (s.releaseWater_dry st.source st.volume).trans (.of ?_)
      have drained : ∀ u : State, u.checkDrained.water = u.water := fun u => by simp
      rw [drained]
      exact State.settleRefused_water _ _

theorem State.endTest_dry (s : State) (c : Nat) : Dry s (s.endTest c 0) := by
  have none : s.testCharge c 0 = 0 := Nat.le_zero.mp (s.testCharge_le c 0).2.2
  refine ⟨fun w => ?_, ?_⟩
  · rw [(s.endTest_source c 0 w).2, none, ite_self]
    rfl
  · change s.water.freshToday + s.testCharge c 0 = _
    rw [none]
    rfl

theorem State.askStop_dry (s : State) (c : Nat) : Dry s (s.askStop c) := by
  have placed : Dry s (s.place c .stop) := .of rfl
  unfold State.askStop
  split
  · exact .of rfl
  · unfold State.refuseOn
    split
    · exact placed.trans (State.refuseStart_dry ..)
    · exact placed
  · exact placed.trans (State.endTest_dry ..)
  · exact placed

theorem State.stopOrder_dry (s : State) (b : Nat) (e : Option OrderOutcome) : Dry s (s.stopOrder b e) := by
  unfold State.stopOrder
  split
  · exact .of rfl
  · rename_i o _
    have put : Dry s (s.putOrder (o.stopped e)) := .of rfl
    split
    · split
      · exact put.trans (State.askStop_dry ..)
      · exact put
    · exact .of rfl

theorem State.stopWhere_dry (s : State) (p : Order → Bool) : Dry s (s.stopWhere p) :=
  foldl_keeps Dry (fun _ => .of rfl) (fun _ _ _ => Dry.trans) _ (fun t b => t.stopOrder_dry b none) _ s

theorem dropCapacity_dry (n : Nat) : ∀ s : State, Dry s (dropCapacity n s) := by
  induction n with
  | zero => exact fun s => .of rfl
  | succ n ih =>
    intro s
    unfold dropCapacity
    split
    · exact .of rfl
    · split
      · exact (s.stopOrder_dry _ none).trans (ih _)
      · exact .of rfl

/-! ### A closure of the gate -/

/-- A start in progress after moves that take no TRIM's reply stood before them, on the same bed and the same source. -/
theorem Moves.start_before {P : Prop} {s t : State} (h : Moves (fun _ _ => False) P s t) {o : Order} (ho : o ∈ t.disp.orders)
    {st : Start} (hs : o.start = some st) :
    ∃ q ∈ s.disp.orders, q.bed = o.bed ∧ ∃ before, q.start = some before ∧ before.source = st.source := by
  have key : (o.bed, st.cannon, st.sequence, st.volume, st.source) ∈ startKeysOf t.disp.orders :=
    List.mem_filterMap.mpr ⟨o, ho, by simp [Order.startKey, hs]⟩
  obtain ⟨q, hq, e⟩ := List.mem_filterMap.mp (h.startKeys.subset key)
  cases hqs : q.start with
  | none => simp [Order.startKey, hqs] at e
  | some before =>
    simp only [Order.startKey, hqs, Option.map_some, Option.some.injEq, Prod.mk.injEq] at e
    obtain ⟨bed, _, _, _, source⟩ := e
    exact ⟨q, hq, bed, before, hqs, source⟩

/-- After a stop of the starts on a source none in GRANTED or SPRAYING draws on it (R80). -/
theorem State.stopWhere_draws {s : State} (hn : s.oneOrderPerBed) (w : WaterSource) :
    ∀ o ∈ (s.stopWhere (Order.draws w)).disp.orders, o.running = true → ∀ st, o.start = some st → st.source ≠ w := by
  intro o ho hr st hs source
  obtain ⟨q, hq, bed, before, hqs, hsource⟩ := (s.stopWhere_moves (A := fun _ _ => False) (P := True) _).start_before ho hs
  have key := (s.stopWhere_calm (Order.draws w)).runKeys_subset o.runKey (mem_runKeysOf.mpr ⟨o, ho, hr, rfl⟩)
  obtain ⟨p, hp, hpr, e⟩ := mem_runKeysOf.mp key
  have same : p = q := by
    have bedp : p.bed = q.bed := (congrArg Prod.fst e).trans bed.symm
    exact Option.some.inj ((State.order_of_mem hn hp).symm.trans (by rw [bedp]; exact State.order_of_mem hn hq))
  subst same
  have stopped := foldl_clears (fun t b => t.stopOrder b none) (fun t b => t.stopOrder_calm b none) (fun _ _ => True) _
    (fun t b ht _ => State.stopOrder_clears ht b none) s hn o.runKey (mem_runKeysOf.mpr ⟨o, ho, hr, rfl⟩) trivial
  refine stopped (List.mem_map.mpr ⟨p, List.mem_filter.mpr ⟨hp, ?_⟩, bed⟩)
  simp [hpr, Order.draws, hqs, hsource, source]

/-- A gate after a judgment (R79). -/
theorem gateAfter_cases (limit n : Nat) (g : Gate) :
    (g = .isOpen → (gateAfter limit n g = .gated ↔ limit < n)) ∧ (g = .gated → (gateAfter limit n g = .isOpen ↔ n + 10 ≤ limit)) := by
  refine ⟨fun h => ?_, fun h => ?_⟩ <;> subst h <;> unfold gateAfter <;> dsimp only <;> split <;> simp_all

/-- What a judgment of the gate leaves (R79, R80). -/
theorem State.judgeGate_leaves (s : State) (n : Nat) : let t := s.judgeGate n
    t.water.gate = gateAfter s.conf.qLim n s.water.gate ∧ t.water.turbidity = s.water.turbidity ∧ Dry s t ∧
      s.port.outbound <+: t.port.outbound ∧ t.port.urgent = s.port.urgent ∧ t.port.routine = s.port.routine ∧
      (gateAfter s.conf.qLim n s.water.gate = s.water.gate → t.disp = s.disp ∧ t.line = s.line ∧ t.beds = s.beds) ∧
      (gateAfter s.conf.qLim n s.water.gate ≠ s.water.gate → t.disp.attempt = true) ∧
      (s.oneOrderPerBed → s.water.gate = .isOpen → gateAfter s.conf.qLim n s.water.gate = .gated →
        ∀ o ∈ t.disp.orders, o.running = true → ∀ st, o.start = some st → st.source ≠ .recycled) ∧
      t.meas = s.meas ∧ t.zones = s.zones ∧ t.conf = s.conf := by
  unfold State.judgeGate
  dsimp only
  generalize gateAfter s.conf.qLim n s.water.gate = g
  set u : State := { s with water := { s.water with gate := g } } with hu
  have changed : Dry s u := ⟨fun w => by cases w <;> rfl, rfl⟩
  by_cases h : g = s.water.gate
  · rw [if_pos h]
    exact ⟨rfl, rfl, changed, List.prefix_refl _, rfl, rfl, fun _ => ⟨rfl, rfl, rfl⟩, fun n => absurd h n,
      fun _ o c => absurd (c.symm.trans (h.trans o)) (by decide), rfl, rfl, rfl⟩
  · rw [if_neg h]
    by_cases closed : g = .gated
    · rw [if_pos closed]
      have stopped := u.stopWhere_dry (Order.draws .recycled)
      refine ⟨by simp [hu], by simp [hu], changed.trans ⟨fun w => ?_, ?_⟩, (u.stopWhere_aside _).outbound, by simp [hu], by simp [hu],
        fun e => absurd e h, fun _ => rfl, fun one _ _ => State.stopWhere_draws (s := u) one .recycled, by simp [hu], by simp [hu],
        by simp [hu]⟩
      · exact stopped.balance w
      · exact stopped.today
    · rw [if_neg closed]
      exact ⟨rfl, rfl, ⟨changed.balance, changed.today⟩, List.prefix_refl _, rfl, rfl, fun e => absurd e h, fun _ => rfl,
        fun _ _ c => absurd c closed, rfl, rfl, rfl⟩

/-- Settles O32: `judgeGate_leaves` on the state with the new turbidity. -/
theorem qualityGate : Obligations.QualityGate := by
  intro s node turbidity ready n
  set u : State := { s.takeRequest with water := { s.takeRequest.water with turbidity := some n } } with hu
  obtain ⟨gate, kept, dry, outbound, urgent, routine, same, moved, closed, meas, zones, conf⟩ := u.judgeGate_leaves n
  have ran : exec (.waterQuality node turbidity) s = .next ((u.judgeGate n).reply node 0x1A
      (okOrClamped (decide (4000 < turbidity.toNat))) (be8 (u.judgeGate n).water.gate.code)) :=
    congrArg Host.Outcome.next (State.serve_ready _ ready)
  have uconf : u.conf = s.conf := by simp [hu]
  have ugate : u.water.gate = s.water.gate := by simp [hu]
  have uorders : u.disp = s.disp := by simp [hu]
  rw [uconf, ugate] at gate same moved closed
  obtain ⟨opens, shuts⟩ := gateAfter_cases s.conf.qLim n s.water.gate
  set t := u.judgeGate n with ht
  refine ⟨_, ran, kept, fun h => ?_, fun h => ?_, ?_, fun h => ?_, fun h => ?_, fun law o c => ?_, ?_, ?_, ?_, ?_, ?_, ?_⟩
  · exact gate ▸ opens h
  · exact gate ▸ shuts h
  · rw [← okOrClamped_lt]
    exact State.answers_of_reply urgent routine outbound
  · obtain ⟨disp, line, beds⟩ := same (gate ▸ h)
    exact ⟨disp.trans uorders, line.trans (by simp [hu]), beds.trans (by simp [hu])⟩
  · exact moved (gate ▸ h)
  · exact closed (by unfold State.oneOrderPerBed; rw [uorders]; exact law.1) o (gate.symm.trans c)
  · exact (dry.balance .recycled).trans (by simp [hu, State.source])
  · exact (dry.balance .fresh).trans (by simp [hu, State.source])
  · exact dry.today.trans (by simp [hu])
  · exact meas.trans (by simp [hu])
  · exact zones.trans (by simp [hu])
  · exact conf.trans (by simp [hu])

/-! ### The pump header -/

theorem dropCapacity_aside (n : Nat) : ∀ s : State, Aside s (dropCapacity n s) := by
  induction n with
  | zero => exact Aside.refl
  | succ n ih =>
    intro s
    unfold dropCapacity
    split
    · exact .refl s
    · split
      · exact (s.stopOrder_aside _ none).trans (ih _)
      · exact .refl s

/-- The state of a PUMP_STATE with its capacities formed, before any stop (R81, R82). -/
def State.pumped (s : State) (pumps flow : Nat) : State :=
  ({ s with water := { s.water with pumps := min 8 pumps, flowLimit := flow } } : State).formCapacities

/-- The capacities fall. -/
abbrev State.falls (s u : State) : Prop :=
  u.water.slotCapacity < s.water.slotCapacity ∨ u.water.flowCapacity < s.water.flowCapacity

/-- The state of a PUMP_STATE before its reply (R82, R132). -/
def State.headed (s : State) (pumps flow : Nat) : State :=
  let u := s.pumped pumps flow
  let dropped := if s.falls u then dropCapacity u.disp.orders.length u else u
  if s.water.slotCapacity < u.water.slotCapacity ∨ s.water.flowCapacity < u.water.flowCapacity then dropped.cause else dropped

theorem State.pumpState_eq (s : State) (node : Node) (pumps flow : Nat) : s.pumpState node pumps flow =
    (s.headed pumps flow).reply node 0x1B (okOrClamped (decide (8 < pumps))) [] := rfl

/-- A capacity drop leaves what fits. -/
theorem dropCapacity_leaves (n : Nat) (s : State) : let t := dropCapacity n s
    t.water.pumps = s.water.pumps ∧ t.water.flowLimit = s.water.flowLimit ∧ t.water.slotCapacity = s.water.slotCapacity ∧
      t.water.flowCapacity = s.water.flowCapacity ∧ t.port.urgent = s.port.urgent ∧ t.port.routine = s.port.routine ∧
      t.meas = s.meas ∧ t.zones = s.zones ∧ t.conf = s.conf := by
  simp

/-- What a PUMP_STATE leaves before its reply: the header, the queues, the orders, and the rest. -/
structure Headed (s u t : State) : Prop where
  water : t.water.pumps = u.water.pumps ∧ t.water.flowLimit = u.water.flowLimit ∧
    t.water.slotCapacity = u.water.slotCapacity ∧ t.water.flowCapacity = u.water.flowCapacity
  queues : t.port.urgent = s.port.urgent ∧ t.port.routine = s.port.routine
  outbound : s.port.outbound <+: t.port.outbound
  dry : Dry s t
  still : ¬s.falls u → t.disp.orders = s.disp.orders ∧ t.line = s.line
  fits : s.oneOrderPerBed → s.falls u → t.headerFits t.runningOrders.length (t.flowSum t.runningOrders) = true
  rest : t.meas = s.meas ∧ t.zones = s.zones ∧ t.conf = s.conf

theorem Headed.cause {s u t : State} (h : Headed s u t) : Headed s u t.cause :=
  ⟨h.water, h.queues, h.outbound, ⟨h.dry.balance, h.dry.today⟩, h.still, h.fits, h.rest⟩

theorem State.headed_leaves (s : State) (pumps flow : Nat) : Headed s (s.pumped pumps flow) (s.headed pumps flow) := by
  set u := s.pumped pumps flow with hu
  have dropped : Headed s u (if s.falls u then dropCapacity u.disp.orders.length u else u) := by
    have formed : Dry s u := ⟨fun w => by cases w <;> rfl, rfl⟩
    split
    · rename_i falls
      have stopped := dropCapacity_dry u.disp.orders.length u
      refine ⟨by simp, by simp [hu, State.pumped, State.formCapacities], (dropCapacity_aside _ u).outbound, formed.trans stopped,
        fun n => absurd falls n, fun one _ => dropCapacity_fits _ u one ?_, by simp [hu, State.pumped, State.formCapacities]⟩
      change ((u.disp.orders.filter Order.running).map Order.runKey).length ≤ _
      rw [List.length_map]
      exact List.length_filter_le ..
    · rename_i falls
      exact ⟨⟨rfl, rfl, rfl, rfl⟩, ⟨rfl, rfl⟩, List.prefix_refl _, formed, fun _ => ⟨rfl, rfl⟩, fun _ f => absurd f falls, rfl, rfl, rfl⟩
  unfold State.headed
  dsimp only
  split
  · exact dropped.cause
  · exact dropped

theorem State.headed_attempt {s : State} {pumps flow : Nat}
    (h : s.water.slotCapacity < (s.pumped pumps flow).water.slotCapacity ∨
      s.water.flowCapacity < (s.pumped pumps flow).water.flowCapacity) : (s.headed pumps flow).disp.attempt = true := by
  unfold State.headed
  dsimp only
  rw [if_pos h]
  rfl

/-- Settles O33: `headed_leaves` on the state that took the request. -/
theorem pumpStates : Obligations.PumpStates := by
  intro s node pumps flow ready
  have ran : exec (.pumpState node pumps flow) s = .next (s.takeRequest.pumpState node pumps.toNat flow.toNat) :=
    congrArg Host.Outcome.next (State.serve_ready _ ready)
  rw [State.pumpState_eq] at ran
  set u := s.takeRequest with hu
  have headed := u.headed_leaves pumps.toNat flow.toNat
  have attempt := State.headed_attempt (s := u) (pumps := pumps.toNat) (flow := flow.toNat)
  set v := u.pumped pumps.toNat flow.toNat with hv
  set t := u.headed pumps.toNat flow.toNat with ht
  obtain ⟨hpumps, hlimit, hslot, hflow⟩ := headed.water
  have conf : u.conf = s.conf := by simp [hu]
  have water : u.water = s.water := by simp [hu]
  have orders : u.disp = s.disp := by simp [hu]
  have vslot : v.water.slotCapacity = min s.conf.nSlot (min 8 pumps.toNat * s.conf.kSlot) := by rw [← conf]; rfl
  have vflow : v.water.flowCapacity = min s.conf.fHead flow.toNat := by rw [← conf]; rfl
  have falls : u.falls v ↔ t.water.slotCapacity < s.water.slotCapacity ∨ t.water.flowCapacity < s.water.flowCapacity := by
    rw [hslot, hflow, ← water]
  obtain ⟨meas, zones, tconf⟩ := headed.rest
  refine ⟨_, ran, hpumps, hlimit, hslot.trans vslot, hflow.trans vflow, ?_, fun h1 h2 => ?_, fun h => ?_, fun law h => ?_,
    ?_, ?_, ?_, ?_, ?_⟩
  · rw [← okOrClamped_lt]
    exact State.answers_of_reply headed.queues.1 headed.queues.2 headed.outbound
  · obtain ⟨same, line⟩ := headed.still (fun f => (falls.mp f).elim (Nat.not_lt.mpr h1) (Nat.not_lt.mpr h2))
    exact ⟨same.trans (by rw [orders]), line.trans (by simp [hu])⟩
  · refine attempt ?_
    rw [water, ← hslot, ← hflow]
    exact h
  · exact (State.headerFits_iff t _ _).mp
      (headed.fits (by unfold State.oneOrderPerBed; rw [orders]; exact law.1) (falls.mpr h))
  · exact (headed.dry.balance .recycled).trans (by simp [hu, State.source])
  · exact (headed.dry.balance .fresh).trans (by simp [hu, State.source])
  · exact meas.trans (by simp [hu])
  · exact zones.trans (by simp [hu])
  · exact tconf.trans conf

end Sys2Proof.Machine
end

section
/-! CANNON_RESTORE and TEST_SPRAY (R87, R143, R147, R159). -/

namespace Sys2Proof.Machine

/-! ### The terms of the two requests -/

theorem State.unknownCannon_iff (s : State) (c : Nat) : s.unknownCannon c = true ↔ c = 0 ∨ 24 < c ∨ s.conf.inUse c = false := by
  unfold State.unknownCannon
  cases s.conf.inUse c <;> simp

theorem State.busyCannon_iff (s : State) (c : Nat) :
    s.busyCannon c = true ↔ (s.startOn c).isSome = true ∨ (s.cannon c).test ≠ .none := by
  simp [State.busyCannon]

theorem State.testing_iff (s : State) : s.testing = true ↔ ∃ d, 1 ≤ d ∧ d ≤ 24 ∧ (s.cannon d).test ≠ .none := by
  unfold State.testing
  rw [List.any_eq_true]
  constructor
  · rintro ⟨d, hd, h⟩
    obtain ⟨h1, h2⟩ := (mem_cannonNumbers d).mp hd
    exact ⟨d, h1, h2, by simpa using h⟩
  · rintro ⟨d, h1, h2, h⟩
    exact ⟨d, (mem_cannonNumbers d).mpr ⟨h1, h2⟩, by simpa using h⟩

theorem State.allowsTest_iff (s : State) (c : Nat) : s.allowsTest c = true ↔
    s.conf.allowance c ≤ s.water.fresh.balance - s.water.fresh.reserved ∧
      s.water.freshToday + s.water.fresh.reserved + s.conf.allowance c ≤ s.conf.fCap := by
  exact decide_eq_true_iff

theorem Settings.allowance_eq (S : Settings) (c : Nat) : S.allowance c = (S.ratedFlow c * 10 + 59) / 60 := rfl

/-! ### The CANNON_STATE notices -/

/-- A cannon's record without its mark, which a notice clears (R160). -/
def Cannon.unmarked (r : Cannon) : Cannon := { r with mark := false }

/-- Records that differ in their marks agree in every other field. -/
theorem Cannon.field_congr {α : Type} {a b : Cannon} (h : a.unmarked = b.unmarked) (f : Cannon → α)
    (hf : ∀ k : Cannon, f k.unmarked = f k) : f a = f b := (hf a).symm.trans ((congrArg f h).trans (hf b))

/-- The turn of the CANNON_STATE notices clears marks, and moves nothing else of a cannon. -/
structure Told (s t : State) : Prop where
  aside : Aside s t
  cannon : ∀ a, (t.cannon a).unmarked = (s.cannon a).unmarked

theorem Told.refl (s : State) : Told s s := ⟨.refl s, fun _ => rfl⟩

theorem Told.trans {s t u : State} (h1 : Told s t) (h2 : Told t u) : Told s u :=
  ⟨h1.aside.trans h2.aside, fun a => (h2.cannon a).trans (h1.cannon a)⟩

theorem flushCannon_told (s : State) (c : Nat) : Told s (flushCannon s c) := by
  have cleared : ∀ u : State, u.line = s.line → ∀ a,
      ((u.setCannon c { s.cannon c with mark := false }).cannon a).unmarked = (s.cannon a).unmarked := fun u hu a => by
    rw [State.cannon_setCannon]
    split
    · rename_i e
      rw [e.1]
      rfl
    · rw [State.cannon_congr (congrArg Line.cannons hu)]
  unfold flushCannon
  split
  · split
    · exact ⟨.same rfl rfl, cleared s rfl⟩
    · split
      · exact ⟨(s.notice_aside _ _).trans (.same rfl rfl), cleared _ rfl⟩
      · exact .refl s
  · exact .refl s

theorem State.flushCannons_told (s : State) : Told s s.flushCannons :=
  foldl_keeps Told .refl (fun _ _ _ => Told.trans) flushCannon flushCannon_told cannonNumbers s

/-! ### CANNON_RESTORE -/

/-- The cannon that CANNON_RESTORE leaves (R147). -/
def State.restored (s : State) (c : Nat) : State :=
  let s1 := s.setActivity c .offline
  s1.setCannon c { ((s1.cannon c).withScore 0) with lastFault := .none, streak := 0, pingDue := true }

theorem State.restored_leaves (s : State) {c : Nat} (h1 : 1 ≤ c) (h2 : c ≤ 24) :
    let r := (s.restored c).cannon c
    (r.activity = .offline ∧ r.score = 0 ∧ r.suspect = false ∧ r.lastFault = .none ∧ r.streak = 0 ∧ r.pingDue = true) ∧
      (s.restored c).port = s.port ∧ (s.restored c).disp = s.disp ∧ (s.restored c).water = s.water ∧ (s.restored c).beds = s.beds := by
  have form : s.setActivity c .offline = s.setCannon c { s.cannon c with
      activity := .offline
      mark := (s.cannon c).mark || ((s.cannon c).activity != .offline &&
        ((s.cannon c).activity.notable || CannonActivity.offline.notable)) } := rfl
  have own : (s.setActivity c .offline).cannon c = _ := (congrArg (State.cannon · c) form).trans (s.cannon_setCannon_same _ h1 h2)
  have restored : s.restored c = (s.setActivity c .offline).setCannon c
      { (((s.setActivity c .offline).cannon c).withScore 0) with lastFault := .none, streak := 0, pingDue := true } := rfl
  have written : (s.restored c).cannon c = _ :=
    (congrArg (State.cannon · c) restored).trans (State.cannon_setCannon_same _ _ h1 h2)
  dsimp only
  rw [written, own]
  refine ⟨⟨rfl, ?_, ?_, rfl, rfl, rfl⟩, ?_⟩
  · simp [Cannon.withScore]
  · simp [Cannon.withScore, suspectAt]
  · rw [restored, form]
    exact ⟨rfl, rfl, rfl, rfl⟩

theorem State.cannonRestore_known {s : State} {c : Nat} (node : Node) (hu : s.unknownCannon c = false)
    (hb : s.busyCannon c = false) : s.cannonRestore node c = (s.restored c).flushCannons.reply node 0x35 .ok [] := by
  unfold State.cannonRestore
  rw [if_neg (by simp [hu]), if_neg (by simp [hb])]
  rfl

theorem State.cannon_reply (s : State) (node : Node) (code : Nat) (r : Result) (data : List Byte) (c : Nat) :
    (s.reply node code r data).cannon c = s.cannon c := rfl

/-- What CANNON_RESTORE leaves, with its reply. -/
theorem cannonRestore_leaves (s : State) (node : Node) (c : Nat) (hu : s.unknownCannon c = false)
    (hb : s.busyCannon c = false) :
    let t := s.takeRequest.cannonRestore node c
    ((t.cannon c).activity = .offline ∧ (t.cannon c).score = 0 ∧ (t.cannon c).suspect = false ∧
        (t.cannon c).lastFault = .none ∧ (t.cannon c).streak = 0 ∧ (t.cannon c).pingDue = true) ∧
      s.answers t node 0x35 .ok [] ∧ t.disp = s.disp ∧ t.water = s.water ∧ t.beds = s.beds := by
  have range : 1 ≤ c ∧ c ≤ 24 := by
    constructor
    · by_contra h
      exact absurd ((s.unknownCannon_iff c).mpr (.inl (by omega))) (by simp [hu])
    · by_contra h
      exact absurd ((s.unknownCannon_iff c).mpr (.inr (.inl (by omega)))) (by simp [hu])
  have conf : s.takeRequest.conf = s.conf := by simp
  have known : s.takeRequest.unknownCannon c = false := by
    unfold State.unknownCannon at hu ⊢
    rwa [conf]
  have calm : s.takeRequest.busyCannon c = false := by
    unfold State.busyCannon at hb ⊢
    rwa [State.startOn_takeRequest, State.cannon_takeRequest]
  dsimp only
  rw [State.cannonRestore_known node known calm]
  obtain ⟨⟨activity, score, suspect, fault, streak, ping⟩, port, disp, water, beds⟩ := s.takeRequest.restored_leaves range.1 range.2
  set r := s.takeRequest.restored c with hr
  have told := r.flushCannons_told
  have field : ∀ {α : Type} (f : Cannon → α), (∀ x : Cannon, f x.unmarked = f x) →
      f ((r.flushCannons.reply node 0x35 .ok []).cannon c) = f (r.cannon c) := fun f hf =>
    (congrArg f (State.cannon_reply ..)).trans (Cannon.field_congr (told.cannon c) f hf)
  refine ⟨⟨(field Cannon.activity fun _ => rfl).trans activity, (field Cannon.score fun _ => rfl).trans score,
    (field Cannon.suspect fun _ => rfl).trans suspect, (field Cannon.lastFault fun _ => rfl).trans fault,
    (field Cannon.streak fun _ => rfl).trans streak, (field Cannon.pingDue fun _ => rfl).trans ping⟩, ?_,
    ?_, ?_, ?_⟩
  · have outbound := told.aside.outbound
    rw [port] at outbound
    exact State.answers_of_reply (by simp [port]) (by simp [port]) outbound
  · simp [disp]
  · simp [water]
  · simp [beds]

/-! ### TEST_SPRAY -/

/-- A test asked while a STOP is held: the STOP drops it (R143). -/
theorem State.askTest_stop {s : State} {c : Nat} (h : (s.cannon c).held.map HeldCommand.command = some .stop) :
    s.askTest c = s := by
  obtain ⟨⟨k, n⟩, held, rfl⟩ := Option.map_eq_some_iff.mp h
  unfold State.askTest
  rw [held]

/-- A test asked with no STOP held (R159). -/
theorem State.askTest_placed {s : State} {c : Nat} (h : (s.cannon c).held.map HeldCommand.command ≠ some .stop) :
    s.askTest c =
      (s.setCannon c { s.cannon c with test := .placed, overrun := false, lastGood := none }).place c .test := by
  unfold State.askTest
  split
  · rename_i held
    rw [held] at h
    exact absurd rfl h
  · rfl

theorem State.askTest_leaves {s : State} {c : Nat} (h1 : 1 ≤ c) (h2 : c ≤ 24)
    (h : (s.cannon c).held.map HeldCommand.command ≠ some .stop) :
    let t := s.askTest c
    ((t.cannon c).test = .placed ∧ (t.cannon c).held.map HeldCommand.command = some .test ∧
        (t.cannon c).activity = (s.cannon c).activity) ∧
      (∀ d, d ≠ c → t.cannon d = s.cannon d) ∧ t.port = s.port ∧ t.water = s.water ∧ t.disp = s.disp ∧ t.beds = s.beds := by
  have placed := State.askTest_placed h
  set v := s.setCannon c { s.cannon c with test := .placed, overrun := false, lastGood := none } with hv
  have own : v.cannon c = _ := s.cannon_setCannon_same _ h1 h2
  have written : (v.place c .test).cannon c = { v.cannon c with held := some ⟨.test, v.line.heldSerial⟩ } :=
    v.cannon_setCannon_same _ h1 h2
  dsimp only
  rw [placed]
  refine ⟨?_, fun d hd => ?_, rfl, rfl, rfl, rfl⟩
  · rw [written, own]
    exact ⟨rfl, rfl, rfl⟩
  · exact (v.cannon_setCannon_ne _ hd).trans (s.cannon_setCannon_ne _ hd)

/-- The refusals of TEST_SPRAY in their order, and the test (R159). -/
theorem State.testSpray_cases (s : State) (node : Node) (c : Nat) :
    let fit := s.line.state = .ok ∧ (s.cannon c).activity = .idle
    (s.unknownCannon c = true → s.testSpray node c = s.reply node 0x36 .unknownCannon []) ∧
    (s.unknownCannon c = false →
      (s.ctrl.mode ≠ .maintenance → s.testSpray node c = s.reply node 0x36 .wrongMode []) ∧
      (s.ctrl.mode = .maintenance →
        (s.ctrl.drain.isSome = true ∨ s.testing = true → s.testSpray node c = s.reply node 0x36 .busy []) ∧
        (s.ctrl.drain.isSome = false → s.testing = false →
          (¬fit ∨ s.allowsTest c = false → s.testSpray node c = s.reply node 0x36 .failed []) ∧
          (fit → s.allowsTest c = true →
            s.testSpray node c = (s.askTest c).reply node 0x36 .ok (be16 (s.conf.allowance c)))))) := by
  dsimp only
  unfold State.testSpray
  refine ⟨fun h => if_pos h, fun h => ⟨fun hm => ?_, fun hm => ⟨fun hb => ?_, fun hd ht => ⟨fun hf => ?_, fun hf ha => ?_⟩⟩⟩⟩
  · rw [if_neg (by simp [h]), if_pos hm]
  · rw [if_neg (by simp [h]), if_neg (by simp [hm]), if_pos (by simpa using hb)]
  · rw [if_neg (by simp [h]), if_neg (by simp [hm]), if_neg (by simp [hd, ht])]
    split
    · rfl
    · rename_i fit
      rw [if_pos]
      rcases hf with hf | hf
      · exact absurd (by simpa using fit) hf
      · simp [hf]
  · rw [if_neg (by simp [h]), if_neg (by simp [hm]), if_neg (by simp [hd, ht]), if_neg (by simp [hf]), if_neg (by simp [ha])]

/-- Settles O52: the refusals of both requests in their order, and the two effects. -/
theorem cannonRequests : Obligations.CannonRequests := by
  intro s node cannon c unknown busy allowance
  have line : s.takeRequest.line = s.line := by simp
  have conf : s.takeRequest.conf = s.conf := by simp
  have ctrl : s.takeRequest.ctrl = s.ctrl := by simp
  have water : s.takeRequest.water = s.water := by simp
  have isUnknown : unknown ↔ s.unknownCannon c = true := (s.unknownCannon_iff c).symm
  have isBusy : busy ↔ s.busyCannon c = true := (s.busyCannon_iff c).symm
  have takenUnknown : s.takeRequest.unknownCannon c = s.unknownCannon c := by unfold State.unknownCannon; rw [conf]
  have takenBusy : s.takeRequest.busyCannon c = s.busyCannon c := by
    unfold State.busyCannon; rw [State.startOn_takeRequest, State.cannon_takeRequest]
  refine ⟨fun ready => ?_, fun ready => ?_⟩
  · have ran : exec (.cannonRestore node cannon) s = .next (s.takeRequest.cannonRestore node c) :=
      congrArg Host.Outcome.next (State.serve_ready _ ready)
    rw [ran]
    refine ⟨fun hu => ?_, fun hu hb => ?_, fun hu hb => ?_⟩
    · unfold State.cannonRestore
      rw [takenUnknown, isUnknown.mp hu]
      rfl
    · unfold State.cannonRestore
      rw [takenUnknown, takenBusy, isBusy.mp hb, if_neg (mt isUnknown.mpr hu)]
      rfl
    · rw [isUnknown, Bool.not_eq_true] at hu
      rw [isBusy, Bool.not_eq_true] at hb
      obtain ⟨⟨activity, score, suspect, fault, streak, ping⟩, answer, disp, water, beds⟩ :=
        cannonRestore_leaves s node c hu hb
      exact ⟨_, rfl, activity, score, suspect, fault, streak, ping, answer, congrArg Dispatcher.orders disp, water, beds⟩
  · have ran : exec (.testSpray node cannon) s = .next (s.takeRequest.testSpray node c) :=
      congrArg Host.Outcome.next (State.serve_ready _ ready)
    intro turnedAway testing fit allowed stopHeld
    have isTesting : testing ↔ s.takeRequest.testing = true := by
      rw [State.testing_iff]
      simp only [State.cannon_takeRequest]
      rfl
    have isAllowed : allowed ↔ s.takeRequest.allowsTest c = true := by
      rw [State.allowsTest_iff, water, conf]
      rfl
    obtain ⟨cu, cases⟩ := s.takeRequest.testSpray_cases node c
    rw [takenUnknown, line, ctrl, State.cannon_takeRequest] at cases
    rw [takenUnknown] at cu
    have taken : ∀ {r data}, s.takeRequest.testSpray node c = s.takeRequest.reply node 0x36 r data →
        exec (.testSpray node cannon) s = .next (s.takeRequest.reply node 0x36 r data) := fun e => by rw [ran, e]
    refine ⟨fun hu => taken (cu (isUnknown.mp hu)), fun hu hm => ?_, fun hu hm hb => ?_, fun hu hm hd ht => ?_⟩
    all_goals
      rw [isUnknown, Bool.not_eq_true] at hu
      obtain ⟨cm, cases⟩ := cases hu
    · exact taken (cm hm)
    · exact taken ((cases hm).1 (hb.imp_right isTesting.mp))
    · rw [isTesting, Bool.not_eq_true] at ht
      obtain ⟨failed, passed⟩ := (cases hm).2 (by rw [hd]; rfl) ht
      have range : 1 ≤ c ∧ c ≤ 24 := by
        have known := mt (s.unknownCannon_iff c).mpr (by rw [hu]; exact Bool.false_ne_true)
        omega
      refine ⟨fun h => taken (failed (h.imp_right fun ha => ?_)), fun hf ha hs => ?_, fun hf ha hs => ?_⟩
      · rwa [isAllowed, Bool.not_eq_true] at ha
      · obtain ⟨⟨test, held, activity⟩, others, port, water', disp, beds⟩ :=
          State.askTest_leaves (s := s.takeRequest) range.1 range.2 (by rwa [State.cannon_takeRequest])
        rw [State.cannon_takeRequest] at activity
        refine ⟨_, ran, ?_⟩
        rw [passed hf (isAllowed.mp ha), conf]
        exact ⟨test, held, activity.trans hf.2, fun d hd => (others d hd).trans (by simp),
          State.answers_of_reply (by rw [port]) (by rw [port]) (by rw [port]), water'.trans (by simp), disp.trans (by simp),
          beds.trans (by simp)⟩
      · refine taken ((passed hf (isAllowed.mp ha)).trans ?_)
        rw [State.askTest_stop (by rwa [State.cannon_takeRequest]), conf]
        rfl

end Sys2Proof.Machine
end

section
/-! YARD_SECOND and TIME_SET (R77, R186, R187). -/

namespace Sys2Proof.Machine

/-! ### What an hour's judgments keep -/

/-- No water is charged, an attempt that is due stays due, and a valid time stays valid. -/
structure Hourly (s t : State) : Prop where
  dry : Dry s t
  attempt : s.disp.attempt = true → t.disp.attempt = true
  timeSet : s.ctrl.flags &&& 0x04#8 = 0x00#8 → t.ctrl.flags &&& 0x04#8 = 0x00#8

theorem Hourly.of {s t : State} (water : t.water = s.water) (attempt : t.disp.attempt = s.disp.attempt)
    (flags : t.ctrl.flags = s.ctrl.flags) : Hourly s t := ⟨.of water, fun h => attempt ▸ h, fun h => flags ▸ h⟩

theorem Hourly.refl (s : State) : Hourly s s := .of rfl rfl rfl

theorem Hourly.trans {s t u : State} (h1 : Hourly s t) (h2 : Hourly t u) : Hourly s u :=
  ⟨h1.dry.trans h2.dry, h2.attempt ∘ h1.attempt, h2.timeSet ∘ h1.timeSet⟩

theorem State.cause_hourly (s : State) : Hourly s s.cause := ⟨.of rfl, fun _ => rfl, id⟩

theorem State.overflowIf_hourly (s : State) (full : Bool) : Hourly s (s.overflowIf full) := by
  unfold State.overflowIf
  split
  · refine ⟨.of rfl, id, fun h => ?_⟩
    change (s.ctrl.flags ||| 0x10#8) &&& 0x04#8 = 0x00#8
    rw [BitVec.and_or_distrib_right, h]
    rfl
  · exact .refl s

theorem State.makeSprayDone_hourly (s : State) (d : SprayDone) : Hourly s (s.makeSprayDone d) := by
  have flushed : Hourly s s.flushSprayDone := .of (by simp) (by simp) (by simp)
  unfold State.makeSprayDone
  split
  · exact .refl s
  · dsimp only
    split
    · exact flushed.trans (.of rfl rfl rfl)
    · have kept := flushed.trans (s.flushSprayDone.overflowIf_hourly (decide (8 ≤ s.flushSprayDone.disp.pending.length)))
      exact ⟨⟨kept.dry.balance, kept.dry.today⟩, flushed.attempt, kept.timeSet⟩

theorem State.removeOrder_hourly (s : State) (o : Order) (e : OrderOutcome) : Hourly s (s.removeOrder o e) := by
  have left : Hourly s (({ s with disp := { s.disp with orders := ordersWithout o.bed s.disp.orders } } : State).setBed o.bed
      { s.bed o.bed with waterShort := false }) := .of rfl rfl rfl
  unfold State.removeOrder
  dsimp only
  split
  · exact left.trans (State.makeSprayDone_hourly _ _)
  · exact left

theorem State.settleRefused_hourly (s : State) (o : Order) : Hourly s (s.settleRefused o) := by
  unfold State.settleRefused
  split
  · exact s.removeOrder_hourly _ _
  · split
    · exact s.removeOrder_hourly _ _
    · exact .of rfl rfl rfl

theorem State.refuseStart_hourly (s : State) (b : Nat) : Hourly s (s.refuseStart b) := by
  unfold State.refuseStart
  split
  · exact .refl s
  · rename_i o _
    split
    · exact .refl s
    · rename_i st _
      have released : Hourly s ((s.releaseWater st.source st.volume).freeCannon st.cannon) :=
        .trans ⟨s.releaseWater_dry st.source st.volume, fun h => by rwa [State.releaseWater_disp], fun h => by cases st.source <;> exact h⟩
          (.of rfl rfl rfl)
      have drained : ∀ u : State, Hourly u u.checkDrained := fun u => .of (by simp) (by simp) (by simp)
      exact ((released.trans (State.settleRefused_hourly _ _)).trans (State.cause_hourly _)).trans (drained _)

theorem State.endTest_hourly (s : State) (c : Nat) : Hourly s (s.endTest c 0) := ⟨s.endTest_dry c, id, id⟩

theorem State.askStop_hourly (s : State) (c : Nat) : Hourly s (s.askStop c) := by
  have placed : Hourly s (s.place c .stop) := .of rfl rfl rfl
  unfold State.askStop
  split
  · exact .refl s
  · unfold State.refuseOn
    split
    · exact placed.trans (State.refuseStart_hourly ..)
    · exact placed
  · exact placed.trans (State.endTest_hourly ..)
  · exact placed

theorem State.stopOrder_hourly (s : State) (b : Nat) (e : Option OrderOutcome) : Hourly s (s.stopOrder b e) := by
  unfold State.stopOrder
  split
  · exact .refl s
  · rename_i o _
    have put : Hourly s (s.putOrder (o.stopped e)) := .of rfl rfl rfl
    split
    · split
      · exact put.trans (State.askStop_hourly ..)
      · exact put
    · exact .refl s

theorem State.stopSprays_hourly (s : State) : Hourly s s.stopSprays := by
  have asked : Hourly s s.askAllStop := by
    unfold State.askAllStop
    split
    · exact .of rfl rfl rfl
    · exact .refl s
  exact asked.trans (foldl_keeps Hourly .refl (fun _ _ _ => Hourly.trans) _ (fun t b => t.stopOrder_hourly b none) _ _)

theorem State.makeMode_hourly (s : State) : Hourly s s.makeMode := .of (by simp) (by simp) (by simp)

theorem State.enterMode_hourly (s : State) (m : Mode) : Hourly s (s.enterMode m) := by
  have moved : Hourly s { s with ctrl := { s.ctrl with mode := m } } := .of rfl rfl rfl
  have told := moved.trans (State.makeMode_hourly _)
  unfold State.enterMode
  dsimp only
  split
  · exact (told.trans (State.stopSprays_hourly _)).trans (State.cause_hourly _)
  · exact told.trans (State.cause_hourly _)

theorem State.setReasons_hourly (s : State) (o f : Bool) : Hourly s (s.setReasons o f) := by
  have noted : Hourly s { s with ctrl := { s.ctrl with operator := o, freeze := f } } := .of rfl rfl rfl
  have told := noted.trans (State.makeMode_hourly _)
  have entered := fun m => noted.trans (State.enterMode_hourly _ m)
  unfold State.setReasons
  split
  · exact .refl s
  · dsimp only
    split
    · exact noted
    · exact told
    · split
      · exact told
      · exact entered _
    · split
      · exact entered _
      · exact told
    · split
      · exact entered _
      · exact told

theorem State.askRecord_hourly (s : State) (k : RecordKind) (a v : Nat) (b : Option Band) : Hourly s (s.askRecord k a v b) := by
  unfold State.askRecord
  dsimp only
  split
  · exact .refl s
  · have kept : ∀ q : RecordQueue, Hourly s { s with recs := q } := fun _ => .of rfl rfl rfl
    have flushed : ∀ u : State, Hourly u u.flushRecords := fun u => .of (by simp) (by simp) (by simp)
    exact ((kept _).trans (State.overflowIf_hourly _ _)).trans (flushed _)

theorem State.changeHour_hourly (s : State) : Hourly s s.changeHour := by
  have judged : Hourly s s.judgeForecast := by
    have noted : Hourly s { s with forecast := { s.forecast with live := s.slotsLive } } := .of rfl rfl rfl
    unfold State.judgeForecast
    dsimp only
    split
    · exact noted.trans (State.askRecord_hourly ..)
    · exact noted
  exact judged.trans (State.setReasons_hourly _ _ _)

theorem State.slotsLive_congr {s t : State} (hf : t.forecast.slots = s.forecast.slots) (hn : t.nowHour = s.nowHour) :
    t.slotsLive = s.slotsLive := by
  unfold State.slotsLive State.slotList State.slot
  rw [hf, hn]

theorem State.nowHour_congr {s t : State} (hd : t.ctrl.day = s.ctrl.day) (hs : t.ctrl.seconds = s.ctrl.seconds) :
    t.nowHour = s.nowHour := by
  unfold State.nowHour
  rw [hd, hs]

/-- What a change of the now hour leaves: the clock, the settings and the rest, with the forecast judged. -/
structure HourJudged (s t : State) : Prop where
  clock : t.ctrl.seconds = s.ctrl.seconds ∧ t.ctrl.day = s.ctrl.day ∧ t.ctrl.yardDue = s.ctrl.yardDue ∧ t.osc = s.osc
  queues : t.port.urgent = s.port.urgent ∧ t.port.routine = s.port.routine
  rest : t.meas = s.meas ∧ t.beds.holdSerial = s.beds.holdSerial ∧ t.zones = s.zones ∧ t.conf = s.conf
  live : t.forecast.live = t.slotsLive

theorem State.changeHour_judged (s : State) : HourJudged s s.changeHour := by
  have seconds : s.changeHour.ctrl.seconds = s.ctrl.seconds := by simp
  have day : s.changeHour.ctrl.day = s.ctrl.day := by simp
  refine ⟨⟨seconds, day, by simp, by simp⟩, by simp, by simp, ?_⟩
  rw [State.slotsLive_congr (s := s) (by rw [State.changeHour_forecast]) (State.nowHour_congr day seconds),
    State.changeHour_forecast]

/-! ### YARD_SECOND -/

/-- The state at a second's deadline with its clock written (R186, log 1). -/
def State.ticked (s : State) (day seconds : Nat) : State :=
  { s with
    osc := max s.osc s.ctrl.yardDue
    ctrl := { s.ctrl with yardDue := s.ctrl.yardDue + 1000, day := day, seconds := seconds } }

theorem yardSecond_cases (s : State) : exec .yardSecond s = .next (
    if 86400 ≤ s.ctrl.seconds + 1 then (s.ticked ((s.ctrl.day + 1) % 65536) 0).changeDay.changeHour
    else if (s.ctrl.seconds + 1) % 3600 = 0 then (s.ticked s.ctrl.day (s.ctrl.seconds + 1)).changeHour
    else s.ticked s.ctrl.day (s.ctrl.seconds + 1)) := rfl

/-! ### TIME_SET -/

/-- The state of a TIME_SET with its clock written and a change of day made (R77, R187). -/
def State.dated (s : State) (day seconds : Nat) : State :=
  let u := (s.setClock day (min 86399 seconds)).clearTimeUnset
  if day = s.ctrl.day then u else u.changeDay

theorem State.timeSet_eq (s : State) (node : Node) (day seconds : Nat) : s.timeSet node day seconds =
    (if nowHourOf day (min 86399 seconds) = s.nowHour then s.dated day seconds else (s.dated day seconds).changeHour).reply
      node 0x22 (if 86399 < seconds then .clamped else .ok) [] := by
  rw [← okOrClamped_lt]
  rfl

/-- What a TIME_SET leaves before its judgments. -/
theorem State.dated_leaves (s : State) (day seconds : Nat) : let t := s.dated day seconds
    (t.ctrl.day = day ∧ t.ctrl.seconds = min 86399 seconds ∧ t.ctrl.yardDue = s.ctrl.yardDue ∧ t.osc = s.osc) ∧
      t.ctrl.flags &&& 0x04#8 = 0x00#8 ∧ t.port = s.port ∧ t.forecast = s.forecast ∧ t.ctrl.mode = s.ctrl.mode ∧
      (t.meas = s.meas ∧ t.zones = s.zones ∧ t.conf = s.conf) ∧
      (day ≠ s.ctrl.day → t.water.freshToday = 0 ∧ t.disp.attempt = true) ∧
      (day = s.ctrl.day → t.water.freshToday = s.water.freshToday) := by
  have cleared : (s.ctrl.flags &&& 0xFB#8) &&& 0x04#8 = 0x00#8 := by
    rw [BitVec.and_assoc]
    exact BitVec.and_zero
  dsimp only
  unfold State.dated
  dsimp only
  split
  · rename_i h
    exact ⟨⟨rfl, rfl, rfl, rfl⟩, cleared, rfl, rfl, rfl, ⟨rfl, rfl, rfl⟩, fun n => absurd h n, fun _ => rfl⟩
  · rename_i h
    exact ⟨⟨rfl, rfl, rfl, rfl⟩, cleared, rfl, rfl, rfl, ⟨rfl, rfl, rfl⟩, fun _ => ⟨rfl, rfl⟩, fun e => absurd e h⟩

/-- Settles O58: the three outcomes of a second, and a set time with or without a change of the now hour. -/
theorem theClockRunsAndIsSet : Obligations.TheClockRunsAndIsSet := by
  intro s
  refine ⟨⟨_, yardSecond_cases s, ?_⟩, fun node day seconds ready => ?_⟩
  · split
    · rename_i midnight
      set u := (s.ticked ((s.ctrl.day + 1) % 65536) 0).changeDay
      obtain ⟨⟨hseconds, hday, hyard, hosc⟩, -, ⟨hmeas, hholds, hzones, hconf⟩, live⟩ := u.changeHour_judged
      have kept := u.changeHour_hourly
      exact ⟨hosc, hyard, fun h => by omega, fun _ => ⟨hseconds, hday, kept.dry.today, kept.attempt rfl⟩, fun h => by omega,
        fun _ => live, hmeas, hholds, hzones, hconf⟩
    · rename_i before
      split
      · rename_i hour
        set u := s.ticked s.ctrl.day (s.ctrl.seconds + 1)
        obtain ⟨⟨hseconds, hday, hyard, hosc⟩, -, ⟨hmeas, hholds, hzones, hconf⟩, live⟩ := u.changeHour_judged
        exact ⟨hosc, hyard, fun _ => ⟨hseconds, hday, u.changeHour_hourly.dry.today⟩, fun h => by omega, fun _ h => absurd hour h,
          fun _ => live, hmeas, hholds, hzones, hconf⟩
      · rename_i inside
        exact ⟨rfl, rfl, fun _ => ⟨rfl, rfl, rfl⟩, fun h => by omega, fun _ _ => ⟨rfl, rfl, rfl, rfl, rfl, rfl⟩,
          fun h => absurd h inside, rfl, rfl, rfl, rfl⟩
  · have ran : exec (.timeSet node day seconds) s = .next (s.takeRequest.timeSet node day.toNat seconds.toNat) :=
      congrArg Host.Outcome.next (State.serve_ready _ ready)
    obtain ⟨p, taken⟩ := s.takeRequest_port
    obtain ⟨⟨hday, hseconds, hyard, hosc⟩, flag, port, forecast, mode, ⟨meas, zones, conf⟩, newDay, sameDay⟩ :=
      s.takeRequest.dated_leaves day.toNat seconds.toNat
    set u := s.takeRequest.dated day.toNat seconds.toNat with hu
    have nowHour : u.nowHour = nowHourOf day.toNat (min 86399 seconds.toNat) := by
      unfold State.nowHour
      rw [hday, hseconds]
    have ctrl : s.takeRequest.ctrl = s.ctrl := by simp
    have water : s.takeRequest.water = s.water := by simp
    have takenHour : s.takeRequest.nowHour = s.nowHour := State.nowHour_congr (by rw [ctrl]) (by rw [ctrl])
    rw [ctrl] at newDay sameDay hyard mode
    rw [water] at sameDay
    rw [State.timeSet_eq, takenHour, ← nowHour] at ran
    refine ⟨_, ran, ?_⟩
    split
    · rename_i same
      exact ⟨hday, hseconds, flag, hyard, hosc.trans (by simp), State.answers_of_reply (by rw [port]) (by rw [port]) (by rw [port]),
        newDay, sameDay, fun _ => ⟨forecast.trans (by simp), mode⟩, fun h => absurd same h,
        meas.trans (by simp), zones.trans (by simp), conf.trans (by simp)⟩
    · rename_i moved
      obtain ⟨⟨jseconds, jday, jyard, josc⟩, ⟨urgent, routine⟩, ⟨jmeas, -, jzones, jconf⟩, live⟩ := u.changeHour_judged
      have kept := u.changeHour_hourly
      have later : u.changeHour.nowHour = u.nowHour := State.nowHour_congr jday jseconds
      have outbound := u.changeHour_aside.outbound
      rw [port] at outbound urgent routine
      exact ⟨jday.trans hday, jseconds.trans hseconds, kept.timeSet flag, jyard.trans hyard, josc.trans (hosc.trans (by simp)),
        State.answers_of_reply urgent routine outbound,
        fun h => ⟨kept.dry.today.trans (newDay h).1, kept.attempt (newDay h).2⟩, fun h => kept.dry.today.trans (sameDay h),
        fun h => absurd (later.symm.trans h) moved, fun _ => live,
        jmeas.trans (meas.trans (by simp)), jzones.trans (zones.trans (by simp)), jconf.trans (conf.trans (by simp))⟩

end Sys2Proof.Machine
end

section
/-! The replies to START and TEST (R75, R128, R149, R154, R159). -/

namespace Sys2Proof.Machine

/-! ### One cannon after a reply -/

/-- The turn of the notices leaves every field of a cannon that is not its mark. -/
theorem State.flushCannons_field {α : Type} (s : State) (c : Nat) (f : Cannon → α) (h : ∀ r : Cannon, f r.unmarked = f r) :
    f (s.flushCannons.cannon c) = f (s.cannon c) :=
  Cannon.field_congr (s.flushCannons_told.cannon c) f h

section
variable (s : State) {c : Nat} (h1 : 1 ≤ c) (h2 : c ≤ 24)
include h1 h2

theorem State.endTransaction_cannon {x : Transaction} (hx : x.cannon = c) :
    (s.endTransaction x).cannon c = { s.cannon c with lastEnd := some s.osc } := by
  subst hx
  exact State.cannon_setCannon_same _ _ h1 h2

theorem State.goodTransaction_cannon (h : (s.cannon c).activity ≠ .outOfService) :
    (s.goodTransaction c).cannon c = (s.cannon c).withScore ((s.cannon c).score - 1) := by
  unfold State.goodTransaction
  dsimp only
  rw [if_neg h]
  exact State.cannon_setCannon_same _ _ h1 h2

theorem State.setActivity_cannon (a : CannonActivity) :
    ((s.setActivity c a).cannon c).unmarked = { (s.cannon c).unmarked with activity := a } := by
  have written : ∀ r, ((s.setCannon c r).cannon c) = r := fun r => s.cannon_setCannon_same r h1 h2
  unfold State.setActivity
  dsimp only
  split
  · exact congrArg Cannon.unmarked (written _)
  · exact congrArg Cannon.unmarked (written _)

theorem State.showActivity_cannon (h : (s.cannon c).activity ≠ .outOfService) (a : CannonActivity) :
    ((s.showActivity c a).cannon c).unmarked = { (s.cannon c).unmarked with activity := a } := by
  unfold State.showActivity
  rw [if_neg h]
  exact s.setActivity_cannon h1 h2 a

theorem State.noteGoodReply_cannon : (s.noteGoodReply c).cannon c = { s.cannon c with lastGood := some s.osc } :=
  State.cannon_setCannon_same _ _ h1 h2

end

/-- A cannon's record after a BAD_STATE that leaves the score below 200 (R146). -/
def Cannon.badState (r : Cannon) : Cannon :=
  ({ r with lastFault := .badState, streak := streakAfterFailure r } : Cannon).withScore (r.score + 5)

theorem State.scoreBadState_eq {s : State} {c : Nat} (h : (s.cannon c).score + 5 < 200) :
    s.scoreBadState c = s.setCannon c (s.cannon c).badState := by
  unfold State.scoreBadState State.scoreEvent
  exact if_neg (Nat.not_le.mpr h)

theorem State.setCannon_cannonwise (s : State) (c : Nat) (r : Cannon) : Cannonwise s (s.setCannon c r) :=
  ⟨rfl, rfl, rfl, rfl, rfl, rfl, rfl, id⟩

/-- A cannon's record after a reply showing LOCAL with nothing held for it (R154). -/
def Cannon.wentLocal (r : Cannon) : Cannon :=
  { r with activity := .locked, lastFault := .locked, streak := streakAfterFailure r, held := none }

theorem State.goLocal_free {s : State} {c : Nat} (h1 : 1 ≤ c) (h2 : c ≤ 24) (held : (s.cannon c).held = none)
    (inService : (s.cannon c).activity ≠ .outOfService) :
    ((s.goLocal c).cannon c).unmarked = (s.cannon c).wentLocal.unmarked ∧ Cannonwise s (s.goLocal c) := by
  set u := s.setCannon c { s.cannon c with lastFault := .locked, streak := streakAfterFailure (s.cannon c) } with hu
  have own : u.cannon c = _ := s.cannon_setCannon_same _ h1 h2
  have free : (u.cannon c).held = none := by rw [own]; exact held
  have dropped : u.dropHeld c = u.setCannon c { u.cannon c with held := none } := by
    unfold State.dropHeld
    rw [free]
  have shown : s.goLocal c = (u.dropHeld c).showActivity c .locked := rfl
  rw [shown, dropped]
  set v := u.setCannon c { u.cannon c with held := none } with hv
  have vown : v.cannon c = { u.cannon c with held := none } := u.cannon_setCannon_same _ h1 h2
  refine ⟨?_, ((s.setCannon_cannonwise c _).trans (u.setCannon_cannonwise c _)).trans (v.showActivity_cannonwise c _)⟩
  rw [v.showActivity_cannon h1 h2 (by rw [vown, own]; exact inService), vown, own]
  rfl

/-! ### Refusals -/

/-- What a reply other than SPRAYING comes to for its cannon: LOCAL is not scored, FAULT and IDLE are (R146, R149, R154). -/
def State.showRefusal (s : State) (c : Nat) : ReplyState → State
  | .locked => s.goLocal c
  | _ => s.scoreBadState c

/-- What a refusal shows of a cannon that had a record `k`. -/
structure Refused (k r : Cannon) (a : ReplyState) : Prop where
  locked : a = .locked → r.activity = .locked ∧ r.lastFault = .locked ∧ r.score = k.score
  scored : a ≠ .locked → r.activity = k.activity ∧ r.lastFault = .badState ∧ r.score = k.score + 5
  held : r.held = none
  test : r.test = k.test

theorem State.showRefusal_leaves {s : State} {c : Nat} {a : ReplyState} (h1 : 1 ≤ c) (h2 : c ≤ 24)
    (held : (s.cannon c).held = none) (inService : (s.cannon c).activity ≠ .outOfService)
    (score : (s.cannon c).score + 5 < 200) :
    Refused (s.cannon c) ((s.showRefusal c a).flushCannons.cannon c) a ∧
      Cannonwise s (s.showRefusal c a).flushCannons := by
  have field := fun {α : Type} => (s.showRefusal c a).flushCannons_field (α := α) c
  by_cases locked : a = .locked
  · subst locked
    obtain ⟨own, wise⟩ := State.goLocal_free h1 h2 held inService
    have form : s.showRefusal c .locked = s.goLocal c := rfl
    rw [form] at field ⊢
    have same : ∀ {α : Type} (f : Cannon → α), (∀ r : Cannon, f r.unmarked = f r) →
        f ((s.goLocal c).flushCannons.cannon c) = f (s.cannon c).wentLocal := fun f hf =>
      (field f hf).trans (Cannon.field_congr own f hf)
    exact ⟨⟨fun _ => ⟨same Cannon.activity fun _ => rfl, same Cannon.lastFault fun _ => rfl, same Cannon.score fun _ => rfl⟩,
      fun n => (n rfl).elim, same Cannon.held fun _ => rfl, same Cannon.test fun _ => rfl⟩,
      wise.trans (State.flushCannons_cannonwise _)⟩
  · have form : s.showRefusal c a = s.setCannon c (s.cannon c).badState := by
      rw [← State.scoreBadState_eq score]
      unfold State.showRefusal
      split
      · exact absurd rfl locked
      · rfl
    have own : (s.showRefusal c a).cannon c = (s.cannon c).badState := by
      rw [form]
      exact s.cannon_setCannon_same _ h1 h2
    have same : ∀ {α : Type} (f : Cannon → α), (∀ r : Cannon, f r.unmarked = f r) →
        f ((s.showRefusal c a).flushCannons.cannon c) = f (s.cannon c).badState := fun f hf =>
      (field f hf).trans (congrArg f own)
    refine ⟨⟨fun e => absurd e locked, fun _ => ⟨same Cannon.activity fun _ => rfl, same Cannon.lastFault fun _ => rfl,
      (same Cannon.score fun _ => rfl).trans (by simp [Cannon.badState, Cannon.withScore])⟩,
      (same Cannon.held fun _ => rfl).trans held, same Cannon.test fun _ => rfl⟩, ?_⟩
    rw [form]
    exact (s.setCannon_cannonwise c _).trans (State.flushCannons_cannonwise _)

/-- The START of an order is refused (R75, R128). -/
structure State.startRefused (s t : State) (o : Order) (st : Start) : Prop where
  reserved : (t.source st.source).reserved = (s.source st.source).reserved - st.volume
  balance : (t.source st.source).balance = (s.source st.source).balance
  today : t.water.freshToday = s.water.freshToday
  sources : ∀ w, w ≠ st.source → t.source w = s.source w
  order : t.order o.bed = if o.ending.isSome = true ∨ s.lifePassed o = true then none
    else some { o with state := .waiting, blocked := none, start := none }
  others : ∀ b, b ≠ o.bed → t.order b = s.order b ∧ t.bed b = s.bed b
  attempt : t.disp.attempt = true

theorem State.settleRefused_order (s : State) (q : Order) : (s.settleRefused q).order q.bed =
    if q.ending.isSome = true ∨ s.lifePassed q = true then none else some { q with state := .waiting, blocked := none } := by
  unfold State.settleRefused
  split
  · rename_i e he
    rw [he]
    simp [State.order_removeOrder_same]
  · rename_i he
    split
    · rename_i hl
      simp [State.order_removeOrder_same, hl]
    · rename_i hl
      rw [if_neg (by simp [he, hl])]
      exact State.order_putOrder_same s { q with state := .waiting, blocked := none }

theorem State.settleRefused_ne (s : State) {q : Order} {b : Nat} (h : b ≠ q.bed) :
    (s.settleRefused q).order b = s.order b ∧ (s.settleRefused q).bed b = s.bed b := by
  unfold State.settleRefused
  split
  · exact ⟨s.order_removeOrder_ne _ h, s.bed_removeOrder_ne _ h⟩
  · split
    · exact ⟨s.order_removeOrder_ne _ h, s.bed_removeOrder_ne _ h⟩
    · exact ⟨State.order_putOrder_ne s h, rfl⟩

theorem State.settleRefused_line (s : State) (q : Order) : (s.settleRefused q).line = s.line := by
  unfold State.settleRefused
  split
  · simp
  · split <;> simp

theorem State.refuseStart_eq {s : State} {b : Nat} {o : Order} {st : Start} (ho : s.order b = some o) (hs : o.start = some st) :
    s.refuseStart b = ((((s.releaseWater st.source st.volume).freeCannon st.cannon).settleRefused
      { o with start := none }).cause).checkDrained := by
  unfold State.refuseStart
  rw [ho]
  dsimp only
  rw [hs]

theorem State.refuseStart_refused {s : State} {o : Order} {st : Start} (ho : s.order o.bed = some o) (hs : o.start = some st) :
    s.startRefused (s.refuseStart o.bed) o st ∧ (s.refuseStart o.bed).line = (s.freeCannon st.cannon).line := by
  set u := (s.releaseWater st.source st.volume).freeCannon st.cannon with hu
  set q : Order := { o with start := none } with hq
  have form : s.refuseStart o.bed = ((u.settleRefused q).cause).checkDrained := State.refuseStart_eq ho hs
  have water : (s.refuseStart o.bed).water = (s.releaseWater st.source st.volume).water := by
    rw [form]
    exact (by simp : ((u.settleRefused q).cause).checkDrained.water = (u.settleRefused q).water).trans (u.settleRefused_water q)
  have released : u.disp.orders = s.disp.orders ∧ u.beds.records = s.beds.records ∧ u.osc = s.osc ∧ u.conf = s.conf := by
    rw [hu]
    cases st.source <;> exact ⟨rfl, rfl, rfl, rfl⟩
  obtain ⟨orders, records, osc, conf⟩ := released
  have order : ∀ b, (s.refuseStart o.bed).order b = (u.settleRefused q).order b := fun b =>
    State.order_congr (by rw [form]; simp) b
  have bed : ∀ b, (s.refuseStart o.bed).bed b = (u.settleRefused q).bed b := fun b =>
    State.bed_congr (by rw [form]; simp) b
  refine ⟨⟨?_, ?_, ?_, fun w hw => ?_, ?_, fun b hb => ⟨?_, ?_⟩, ?_⟩, ?_⟩
  · rw [State.source_congr water]
    cases st.source <;> rfl
  · rw [State.source_congr water]
    exact (s.releaseWater_dry st.source st.volume).balance _
  · rw [water]
    exact (s.releaseWater_dry st.source st.volume).today
  · rw [State.source_congr water]
    unfold State.releaseWater
    rw [State.source_setSource_if, if_neg hw]
  · have settled := u.settleRefused_order q
    have life : u.lifePassed q = s.lifePassed o := by
      unfold State.lifePassed State.life
      rw [osc, conf]
    rw [life] at settled
    exact (order o.bed).trans settled
  · exact (order b).trans ((u.settleRefused_ne (by exact hb)).1.trans (State.order_congr orders b))
  · exact (bed b).trans ((u.settleRefused_ne (by exact hb)).2.trans (State.bed_congr records b))
  · rw [form]
    simp
  · rw [form]
    have settled : ((u.settleRefused q).cause).checkDrained.line = u.line := by
      simp [State.settleRefused_line]
    rw [settled, hu]
    cases st.source <;> rfl

/-! ### Replies SPRAYING -/

/-- A cannon's record after a good reply SPRAYING (R146). -/
def Cannon.sprays (r : Cannon) : Cannon := { r.withScore (r.score - 1) with activity := .spraying }

/-- The state in which a reply SPRAYING to START or TEST has shown its cannon. -/
def State.shownSpraying (s : State) (x : Transaction) : State :=
  ((s.endTransaction x).goodTransaction x.cannon).showActivity x.cannon .spraying

theorem State.shownSpraying_cannonwise (s : State) (x : Transaction) : Cannonwise (s.endTransaction x) (s.shownSpraying x) :=
  (State.goodTransaction_cannonwise _ _).trans (State.showActivity_cannonwise _ _ _)

theorem State.shownSpraying_cannon {s : State} {x : Transaction} (h1 : 1 ≤ x.cannon) (h2 : x.cannon ≤ 24)
    (h : (s.cannon x.cannon).activity ≠ .outOfService) : ((s.shownSpraying x).cannon x.cannon).unmarked =
      ({ s.cannon x.cannon with lastEnd := some s.osc } : Cannon).sprays.unmarked := by
  have ended := s.endTransaction_cannon h1 h2 rfl
  have good := (s.endTransaction x).goodTransaction_cannon h1 h2 (by rw [ended]; exact h)
  unfold State.shownSpraying
  rw [State.showActivity_cannon _ h1 h2 (by rw [good, ended]; exact h), good, ended]
  rfl

theorem State.acknowledgeStart_eq {s : State} {b : Nat} {o : Order} {st : Start} (ho : s.order b = some o) (hs : o.start = some st) :
    s.acknowledgeStart b = s.putOrder { o with
      start := some { st with acknowledged := true }
      state := if o.state = .granted then .spraying else o.state } := by
  unfold State.acknowledgeStart
  rw [ho]
  dsimp only
  rw [hs]

/-- What a reply SPRAYING to a START does (R128, R149). -/
theorem startSprays {s : State} {x : Transaction} {bytes : List Byte} {r : Reply} {limit left right : Nat} {o : Order} {st : Start}
    (hr : s.replyTaken x bytes r) (hstate : r.state = .spraying) (hx : x.command = .start limit left right)
    (hs : s.serves x o st) : exec (.start bytes) s = .next (((s.shownSpraying x).noteGoodReply x.cannon).putOrder { o with
      start := some { st with acknowledged := true }
      state := if o.state = .granted then .spraying else o.state }).flushCannons := by
  obtain ⟨hon, hbed, hstart, hseq⟩ := hs
  obtain ⟨_, _, orders, _⟩ := s.shownSpraying_cannonwise x
  have served : (s.shownSpraying x).startOf x = some o :=
    State.startOf_served ((State.startOn_congr orders _).trans hon) hstart hseq
  refine congrArg Host.Outcome.next ((State.replied_taken hr (by rw [hx]; rfl) _).trans (congrArg State.flushCannons ?_))
  have order : ((s.shownSpraying x).noteGoodReply x.cannon).order o.bed = some o := (State.order_congr orders _).trans hbed
  rw [← State.acknowledgeStart_eq order hstart]
  unfold State.takeStart
  rw [hstate]
  change (match (s.shownSpraying x).startOf x with
    | some o => ((s.shownSpraying x).noteGoodReply x.cannon).acknowledgeStart o.bed
    | none => s.shownSpraying x) = _
  rw [served]

/-- The state in which a TEST has been shown SPRAYING (R159). -/
def State.testSprays (s : State) (c : Nat) : State :=
  if (s.cannon c).test = .placed then s.setCannon c { s.cannon c with test := .spraying, lastGood := some s.osc } else s

theorem State.testSprays_cannonwise (s : State) (c : Nat) : Cannonwise s (s.testSprays c) := by
  unfold State.testSprays
  split
  · exact s.setCannon_cannonwise c _
  · exact ⟨rfl, rfl, rfl, rfl, rfl, rfl, rfl, id⟩

theorem State.testSprays_cannon (s : State) {c : Nat} (h1 : 1 ≤ c) (h2 : c ≤ 24) :
    let r := (s.testSprays c).cannon c
    r.activity = (s.cannon c).activity ∧ r.score = (s.cannon c).score ∧ ((s.cannon c).test = .placed → r.test = .spraying) := by
  dsimp only
  unfold State.testSprays
  split
  · rw [State.cannon_setCannon_same _ _ h1 h2]
    exact ⟨rfl, rfl, fun _ => rfl⟩
  · rename_i h
    exact ⟨rfl, rfl, fun e => absurd e h⟩

theorem testSprays_eq {s : State} {x : Transaction} {bytes : List Byte} {r : Reply} (hr : s.replyTaken x bytes r)
    (hstate : r.state = .spraying) (hx : x.command = .test) :
    exec (.test bytes) s = .next ((s.shownSpraying x).testSprays x.cannon).flushCannons := by
  refine congrArg Host.Outcome.next ((State.replied_taken hr (by rw [hx]; rfl) _).trans (congrArg State.flushCannons ?_))
  unfold State.takeTest
  rw [hstate]
  rfl

/-! ### Replies that refuse -/

/-- What a reply other than SPRAYING does to a START (R149). -/
theorem startRefused_eq {s : State} {x : Transaction} {bytes : List Byte} {r : Reply} {limit left right : Nat} {o : Order}
    {st : Start} (hr : s.replyTaken x bytes r) (hstate : r.state ≠ .spraying) (hx : x.command = .start limit left right)
    (hs : s.serves x o st) :
    let u := (s.endTransaction x).refuseStart o.bed
    exec (.start bytes) s =
      .next ((u.setCannon x.cannon { u.cannon x.cannon with held := none }).showRefusal x.cannon r.state).flushCannons := by
  obtain ⟨hon, -, hstart, hseq⟩ := hs
  have served : (s.endTransaction x).startOf x = some o := State.startOf_served hon hstart hseq
  refine congrArg Host.Outcome.next ((State.replied_taken hr (by rw [hx]; rfl) _).trans (congrArg State.flushCannons ?_))
  unfold State.takeStart State.refuseDropping
  rw [served]
  cases h : r.state with
  | spraying => exact absurd h hstate
  | locked => rfl
  | idle => rfl
  | fault => rfl

/-- What a reply other than SPRAYING does to a TEST (R159). -/
theorem testRefused_eq {s : State} {x : Transaction} {bytes : List Byte} {r : Reply} (hr : s.replyTaken x bytes r)
    (hstate : r.state ≠ .spraying) (hx : x.command = .test) :
    exec (.test bytes) s =
      .next (((s.endTransaction x).endBegunTest x.cannon 0).showRefusal x.cannon r.state).flushCannons := by
  refine congrArg Host.Outcome.next ((State.replied_taken hr (by rw [hx]; rfl) _).trans (congrArg State.flushCannons ?_))
  unfold State.takeTest
  cases h : r.state with
  | spraying => exact absurd h hstate
  | locked => rfl
  | idle => rfl
  | fault => rfl

/-- A test with nothing held for its cannon ends with nothing charged (R87, R159). -/
theorem State.endBegunTest_free {s : State} {c : Nat} (h1 : 1 ≤ c) (h2 : c ≤ 24) (held : (s.cannon c).held = none) :
    let t := s.endBegunTest c 0
    ((t.cannon c).test = .none ∧ (t.cannon c).held = none ∧ (t.cannon c).activity = (s.cannon c).activity ∧
        (t.cannon c).score = (s.cannon c).score) ∧
      Dry s t ∧ (t.water.fresh.reserved = s.water.fresh.reserved) ∧ t.disp = s.disp ∧ t.beds = s.beds ∧
      t.line.transaction = s.line.transaction := by
  dsimp only
  unfold State.endBegunTest State.testBegun
  rw [held]
  by_cases idle : (s.cannon c).test = .none
  · rw [idle, if_neg (by simp)]
    exact ⟨⟨idle, held, rfl, rfl⟩, .of rfl, rfl, rfl, rfl, rfl⟩
  · rw [if_pos (by simpa using idle)]
    have own : (s.endTest c 0).cannon c = { s.cannon c with test := .none, overrun := false, lastGood := none } :=
      s.cannon_setCannon_same _ h1 h2
    rw [own]
    exact ⟨⟨rfl, held, rfl, rfl⟩, s.endTest_dry c, rfl, rfl, rfl, rfl⟩

/-- A START answered SPRAYING by a cannon in service. -/
theorem startSprays_leaves {s : State} {x : Transaction} {o : Order} (h1 : 1 ≤ x.cannon) (h2 : x.cannon ≤ 24)
    (inService : (s.cannon x.cannon).activity ≠ .outOfService) (q : Order) (hq : q.bed = o.bed) :
    let t := (((s.shownSpraying x).noteGoodReply x.cannon).putOrder q).flushCannons
    t.line.transaction = none ∧ (t.cannon x.cannon).activity = .spraying ∧
      (t.cannon x.cannon).score = (s.cannon x.cannon).score - 1 ∧ (t.cannon x.cannon).lastGood = some s.osc ∧
      (t.cannon x.cannon).held = (s.cannon x.cannon).held ∧ t.order o.bed = some q ∧
      (∀ b, b ≠ o.bed → t.order b = s.order b) ∧ t.water = s.water ∧ t.beds = s.beds := by
  obtain ⟨beds, water, orders, quiet, -, osc, -⟩ := s.shownSpraying_cannonwise x
  have own := State.shownSpraying_cannon h1 h2 inService
  dsimp only
  set v := s.shownSpraying x
  set w := v.noteGoodReply x.cannon with hw
  have noted : w.cannon x.cannon = { v.cannon x.cannon with lastGood := some v.osc } := v.noteGoodReply_cannon h1 h2
  have field : ∀ {α : Type} (f : Cannon → α), (∀ k : Cannon, f k.unmarked = f k) →
      f ((w.putOrder q).flushCannons.cannon x.cannon) = f { v.cannon x.cannon with lastGood := some v.osc } :=
    fun f hf => (State.flushCannons_field _ _ f hf).trans (congrArg f noted)
  have shown := fun {α : Type} => Cannon.field_congr (α := α) own
  obtain ⟨fbeds, fwater, forders, fquiet, -⟩ := (w.putOrder q).flushCannons_cannonwise
  have order : ∀ b, (w.putOrder q).flushCannons.order b = (w.putOrder q).order b := State.order_congr forders
  refine ⟨fquiet.trans quiet, (field Cannon.activity fun _ => rfl).trans (shown Cannon.activity fun _ => rfl),
    (field Cannon.score fun _ => rfl).trans (shown Cannon.score fun _ => rfl),
    (field Cannon.lastGood fun _ => rfl).trans (congrArg some osc),
    (field Cannon.held fun _ => rfl).trans (shown Cannon.held fun _ => rfl), ?_, fun b hb => ?_, fwater.trans water,
    fbeds.trans beds⟩
  · rw [order, ← hq]
    exact w.order_putOrder_same q
  · rw [order, w.order_putOrder_ne (hq ▸ hb)]
    exact State.order_congr orders b

/-- A TEST answered SPRAYING by a cannon in service. -/
theorem testSprays_leaves {s : State} {x : Transaction} (h1 : 1 ≤ x.cannon) (h2 : x.cannon ≤ 24)
    (inService : (s.cannon x.cannon).activity ≠ .outOfService) :
    let t := ((s.shownSpraying x).testSprays x.cannon).flushCannons
    t.line.transaction = none ∧ (t.cannon x.cannon).activity = .spraying ∧
      (t.cannon x.cannon).score = (s.cannon x.cannon).score - 1 ∧
      ((s.cannon x.cannon).test = .placed → (t.cannon x.cannon).test = .spraying) ∧
      t.disp.orders = s.disp.orders ∧ t.water = s.water ∧ t.beds = s.beds := by
  have own := State.shownSpraying_cannon h1 h2 inService
  have wise := ((s.shownSpraying_cannonwise x).trans (State.testSprays_cannonwise _ x.cannon)).trans
    (State.flushCannons_cannonwise _)
  obtain ⟨beds, water, orders, quiet, -⟩ := wise
  dsimp only
  set v := s.shownSpraying x
  obtain ⟨activity, score, test⟩ := v.testSprays_cannon h1 h2
  have field := fun {α : Type} => (v.testSprays x.cannon).flushCannons_field (α := α) x.cannon
  have shown := fun {α : Type} => Cannon.field_congr (α := α) own
  exact ⟨quiet, (field Cannon.activity fun _ => rfl).trans (activity.trans (shown Cannon.activity fun _ => rfl)),
    (field Cannon.score fun _ => rfl).trans (score.trans (shown Cannon.score fun _ => rfl)),
    fun h => (field Cannon.test fun _ => rfl).trans (test ((shown Cannon.test fun _ => rfl).trans h)), orders, water, beds⟩

/-- A START refused by a cannon in service: its cannon, and the order refused. -/
theorem startRefused_leaves {s : State} {x : Transaction} {a : ReplyState} {o : Order} {st : Start}
    (h1 : 1 ≤ x.cannon) (h2 : x.cannon ≤ 24) (inService : (s.cannon x.cannon).activity ≠ .outOfService)
    (score : (s.cannon x.cannon).score + 5 < 200) (hs : s.serves x o st) :
    let u := (s.endTransaction x).refuseStart o.bed
    let t := ((u.setCannon x.cannon { u.cannon x.cannon with held := none }).showRefusal x.cannon a).flushCannons
    t.line.transaction = none ∧ Refused (s.cannon x.cannon) (t.cannon x.cannon) a ∧ s.startRefused t o st := by
  obtain ⟨hon, hbed, hstart, -⟩ := hs
  have ended := s.endTransaction_cannon h1 h2 rfl
  have same : st.cannon = x.cannon := by
    obtain ⟨p, hp, hc⟩ := State.startOn_start hon
    rw [hstart] at hp
    obtain rfl := Option.some.inj hp
    exact hc
  obtain ⟨refused, line⟩ := State.refuseStart_refused (s := s.endTransaction x) hbed hstart
  dsimp only
  set u := (s.endTransaction x).refuseStart o.bed
  set v := u.setCannon x.cannon { u.cannon x.cannon with held := none } with hv
  have freed : u.cannon x.cannon = { (s.endTransaction x).cannon x.cannon with
      held := heldAfterStart ((s.endTransaction x).cannon x.cannon).held, overrun := false, lastGood := none } := by
    rw [State.cannon_congr (congrArg Line.cannons line), same]
    exact State.cannon_setCannon_same _ _ h1 h2
  have own : v.cannon x.cannon = { s.cannon x.cannon with
      held := none, overrun := false, lastGood := none, lastEnd := some s.osc } := by
    rw [hv, State.cannon_setCannon_same _ _ h1 h2, freed, ended]
  obtain ⟨shown, beds, water, orders, quiet, -, -, -, attempt⟩ := State.showRefusal_leaves (a := a) h1 h2
    (by rw [own]) (by rw [own]; exact inService) (by rw [own]; exact score)
  rw [own] at shown
  set t := (v.showRefusal x.cannon a).flushCannons
  have order : ∀ b, t.order b = u.order b := State.order_congr orders
  have bed : ∀ b, t.bed b = u.bed b := State.bed_congr (congrArg BedTable.records beds)
  have source : ∀ w, t.source w = u.source w := State.source_congr water
  refine ⟨quiet.trans (congrArg Line.transaction line), ⟨shown.locked, shown.scored, shown.held, shown.test⟩, ?_⟩
  exact ⟨(congrArg Source.reserved (source _)).trans refused.reserved, (congrArg Source.balance (source _)).trans refused.balance,
    (congrArg Water.freshToday water).trans refused.today, fun w hw => (source w).trans (refused.sources w hw),
    (order _).trans refused.order, fun b hb => ⟨(order b).trans (refused.others b hb).1, (bed b).trans (refused.others b hb).2⟩,
    attempt refused.attempt⟩

/-- A TEST refused by a cannon in service with nothing held for it. -/
theorem testRefused_leaves {s : State} {x : Transaction} {a : ReplyState} (h1 : 1 ≤ x.cannon) (h2 : x.cannon ≤ 24)
    (inService : (s.cannon x.cannon).activity ≠ .outOfService) (score : (s.cannon x.cannon).score + 5 < 200)
    (held : (s.cannon x.cannon).held = none) :
    let t := (((s.endTransaction x).endBegunTest x.cannon 0).showRefusal x.cannon a).flushCannons
    t.line.transaction = none ∧ Refused { s.cannon x.cannon with test := .none } (t.cannon x.cannon) a ∧
      t.water.fresh.balance = s.water.fresh.balance ∧ t.water.fresh.reserved = s.water.fresh.reserved ∧
      t.water.freshToday = s.water.freshToday ∧ t.disp.orders = s.disp.orders ∧ t.beds = s.beds := by
  have ended := s.endTransaction_cannon h1 h2 rfl
  obtain ⟨⟨test, free, activity, before⟩, dry, reserved, disp, beds, quiet⟩ :=
    State.endBegunTest_free (s := s.endTransaction x) h1 h2 (by rw [ended]; exact held)
  rw [ended] at activity before
  dsimp only
  set v := (s.endTransaction x).endBegunTest x.cannon 0
  obtain ⟨shown, fbeds, fwater, forders, fquiet, -⟩ := State.showRefusal_leaves (a := a) h1 h2 free
    (by rw [activity]; exact inService) (by rw [before]; exact score)
  set t := (v.showRefusal x.cannon a).flushCannons
  refine ⟨fquiet.trans quiet, ⟨fun e => ?_, fun e => ?_, shown.held, shown.test.trans test⟩,
    (congrArg (fun w => w.fresh.balance) fwater).trans (dry.balance .fresh),
    (congrArg (fun w => w.fresh.reserved) fwater).trans reserved, (congrArg Water.freshToday fwater).trans dry.today,
    forders.trans (congrArg Dispatcher.orders disp), fbeds.trans beds⟩
  · obtain ⟨ha, hf, hs⟩ := shown.locked e
    exact ⟨ha, hf, hs.trans before⟩
  · obtain ⟨ha, hf, hs⟩ := shown.scored e
    exact ⟨ha.trans activity, hf, hs.trans (by rw [before])⟩

/-- Settles O46: each reply's run in closed form, and what it leaves of the cannon, the order and the water. -/
theorem startsAndTestsAnswered : Obligations.StartsAndTestsAnswered := by
  refine ⟨fun s x bytes r hr hstate inService => ⟨fun limit left right o st hx hs => ?_, fun hx => ?_⟩,
    fun s x bytes r hr hstate inService score => ?_⟩
  · obtain ⟨-, -, h1, h2, -⟩ := id hr
    exact ⟨_, startSprays hr hstate hx hs, startSprays_leaves h1 h2 inService _ rfl⟩
  · obtain ⟨-, -, h1, h2, -⟩ := id hr
    exact ⟨_, testSprays_eq hr hstate hx, testSprays_leaves h1 h2 inService⟩
  · intro scored
    obtain ⟨-, -, h1, h2, -⟩ := id hr
    refine ⟨fun limit left right o st hx hs => ?_, fun hx held => ?_⟩
    · intro passed
      have life : s.lifePassed o = true ↔ passed := decide_eq_true_iff
      obtain ⟨quiet, shown, refused⟩ := startRefused_leaves (a := r.state) h1 h2 inService score hs
      refine ⟨_, startRefused_eq hr hstate hx hs, quiet, ⟨shown.locked, shown.scored⟩, shown.held, refused.reserved,
        refused.balance, refused.today, refused.sources, fun h => ?_, fun he hp => ?_, refused.others, refused.attempt⟩
      · rw [refused.order, if_pos (h.imp_right life.mpr)]
      · rw [refused.order, if_neg (by rw [he, life]; simpa using hp)]
    · obtain ⟨quiet, shown, rest⟩ := testRefused_leaves (a := r.state) h1 h2 inService score held
      obtain ⟨balance, reserved, today, orders, beds⟩ := rest
      exact ⟨_, testRefused_eq hr hstate hx, quiet, ⟨shown.locked, shown.scored⟩, shown.test, balance, reserved, today, orders, beds⟩

end Sys2Proof.Machine
end

section
/-! The replies to POLL, TRIM and STOP of a start that sprays on within its limit (R75, R107, R145, R148, R150 to R152). -/

namespace Sys2Proof.Machine

/-! ### The delivered figure and a TRIM -/

theorem State.setDelivered_eq {s : State} {b d : Nat} {o : Order} {st : Start} (ho : s.order b = some o) (hs : o.start = some st) :
    s.setDelivered b d = s.putOrder { o with start := some { st with delivered := some d } } := by
  unfold State.setDelivered
  rw [ho]
  dsimp only
  rw [hs]

/-- The turn of the notices and a last good reply time leave the beds, the water and the orders, and every field of the cannon
but its mark and the time. -/
theorem State.noted_leaves (s : State) {c : Nat} (h1 : 1 ≤ c) (h2 : c ≤ 24) :
    let t := (s.noteGoodReply c).flushCannons
    Cannonwise s t ∧ (t.cannon c).unmarked = { (s.cannon c).unmarked with lastGood := some s.osc } := by
  have wrote : Cannonwise s (s.noteGoodReply c) := s.setCannon_cannonwise c _
  refine ⟨wrote.trans (s.noteGoodReply c).flushCannons_cannonwise, ?_⟩
  rw [(s.noteGoodReply c).flushCannons_told.cannon c, s.noteGoodReply_cannon h1 h2]
  rfl

section
variable {s : State} {x : Transaction} {bytes : List Byte} {r : Reply} {o : Order} {st : Start}

/-- The state in which a taken reply within the limit is a good transaction. -/
def State.repliedWell (s : State) (x : Transaction) : State := (s.endTransaction x).goodTransaction x.cannon

theorem State.repliedWell_serves (hs : s.serves x o st) :
    (s.repliedWell x).startOf x = some o ∧ (s.repliedWell x).order o.bed = some o ∧ o.start = some st := by
  obtain ⟨hon, hbed, hstart, hseq⟩ := hs
  obtain ⟨-, -, orders, -⟩ := (s.endTransaction x).goodTransaction_cannonwise x.cannon
  exact ⟨State.startOf_served ((State.startOn_congr orders _).trans hon) hstart hseq, (State.order_congr orders _).trans hbed, hstart⟩

/-- A POLL reply SPRAYING within the limit (R150). -/
theorem pollSprays_eq (hr : s.replyTaken x bytes r) (hstate : r.state = .spraying) (hs : s.serves x o st)
    (hm : r.meter ≤ st.volume) (hx : x.command = .poll) : exec (.poll bytes) s =
      .next (((s.repliedWell x).putOrder { o with start := some { st with delivered := some r.meter } }).noteGoodReply
        x.cannon).flushCannons := by
  obtain ⟨hon, hbed, hstart, hseq⟩ := id hs
  obtain ⟨under, figure, judged⟩ := State.within_limit (s := s.endTransaction x) (State.startOf_served hon hstart hseq) hstart hm
  obtain ⟨-, order, -⟩ := State.repliedWell_serves hs
  refine congrArg Host.Outcome.next ((State.replied_taken hr (by rw [hx]; rfl) _).trans (congrArg State.flushCannons ?_))
  rw [← State.setDelivered_eq order hstart]
  unfold State.takePoll State.goodUnless
  rw [under, figure, judged, hstate]
  dsimp only
  rw [State.startOf_served (s := s.endTransaction x) hon hstart hseq]
  rfl

/-- A TRIM reply SPRAYING within the limit (R107, R151). -/
theorem trimSprays_eq {limit hold : Nat} (hr : s.replyTaken x bytes r) (hstate : r.state = .spraying) (hs : s.serves x o st)
    (hm : r.meter ≤ st.volume) (hx : x.command = .trim limit hold) : exec (.trim bytes) s =
      .next ((((s.repliedWell x).takeTrim o.bed r.meter limit hold).setDelivered o.bed r.meter).noteGoodReply
        x.cannon).flushCannons := by
  obtain ⟨hon, -, hstart, hseq⟩ := id hs
  obtain ⟨under, figure, judged⟩ := State.within_limit (s := s.endTransaction x) (State.startOf_served hon hstart hseq) hstart hm
  refine congrArg Host.Outcome.next ((State.replied_taken hr (by rw [hx]; rfl) _).trans (congrArg State.flushCannons ?_))
  unfold State.takeTrimReply State.goodUnless
  rw [under, figure, judged, hstate, hx]
  dsimp only
  rw [State.startOf_served (s := s.endTransaction x) hon hstart hseq]
  rfl

/-- A STOP reply SPRAYING within the limit (R152, log 13). -/
theorem stopSprays_eq (hr : s.replyTaken x bytes r) (hstate : r.state = .spraying) (hs : s.serves x o st)
    (hm : r.meter ≤ st.volume) (hx : x.command = .stop) :
    let u := ((s.endTransaction x).noteGoodReply x.cannon).scoreBadState x.cannon
    exec (.stop bytes) s =
      .next (if wentOut (s.endTransaction x) u x.cannon then u else u.askStop x.cannon).flushCannons := by
  obtain ⟨hon, -, hstart, hseq⟩ := id hs
  have noted : (s.endTransaction x).noteReply x = (s.endTransaction x).noteGoodReply x.cannon := by
    unfold State.noteReply
    rw [State.startOf_served (s := s.endTransaction x) hon hstart hseq]
    rfl
  obtain ⟨-, -, judged⟩ := State.within_limit (s := (s.endTransaction x).noteGoodReply x.cannon)
    (State.startOf_served hon hstart hseq) hstart hm
  refine congrArg Host.Outcome.next ((State.replied_taken hr (by rw [hx]; rfl) _).trans (congrArg State.flushCannons ?_))
  unfold State.takeStop
  rw [hstate]
  dsimp only
  rw [noted, judged]

end

/-! ### Within the score -/

/-- What a POLL or TRIM reply SPRAYING leaves of a cannon that went into its turn as `k` (R145, R150, R151). -/
theorem State.repliedWell_cannon {s : State} {x : Transaction} (h1 : 1 ≤ x.cannon) (h2 : x.cannon ≤ 24) :
    let r := (s.repliedWell x).cannon x.cannon
    r.activity = (s.cannon x.cannon).activity ∧ r.held = (s.cannon x.cannon).held ∧
      ((s.cannon x.cannon).activity ≠ .outOfService → r.score = (s.cannon x.cannon).score - 1) := by
  have ended := s.endTransaction_cannon h1 h2 rfl
  dsimp only
  by_cases out : (s.cannon x.cannon).activity = .outOfService
  · have same : s.repliedWell x = s.endTransaction x := by
      unfold State.repliedWell State.goodTransaction
      exact if_pos (by rw [ended]; exact out)
    rw [same, ended]
    exact ⟨rfl, rfl, fun n => (n out).elim⟩
  · have good := (s.endTransaction x).goodTransaction_cannon h1 h2 (by rw [ended]; exact out)
    have form : (s.repliedWell x).cannon x.cannon = _ := good
    rw [form, ended]
    exact ⟨rfl, rfl, fun _ => rfl⟩

/-! ### A STOP beyond the score -/

theorem State.endStart_water {s : State} {b d : Nat} {o : Order} {st : Start} (ho : s.order b = some o) (hs : o.start = some st) :
    (s.endStart b d).water = (s.chargeSource st.source st.volume d).water := by
  rw [State.endStart_eq ho hs]
  simp [State.settleEnded_water, State.chargeStart_water]

/-- The end of a start moves of its cannon's record only what is held and what the start alone needs. -/
theorem State.endStart_activity {s : State} {b d : Nat} {o : Order} {st : Start} (ho : s.order b = some o)
    (hs : o.start = some st) (c : Nat) : ((s.endStart b d).cannon c).activity = (s.cannon c).activity := by
  obtain ⟨u, hu, charged⟩ := s.chargeStart_line b o st d
  have line : (s.endStart b d).line = (u.freeCannon st.cannon).line := by
    rw [State.endStart_eq ho hs, ← charged]
    simp [State.settleEnded_line]
  rw [State.cannon_congr (congrArg Line.cannons line), ← State.cannon_congr (congrArg Line.cannons hu)]
  unfold State.freeCannon
  rw [State.cannon_setCannon]
  split
  · rename_i e
    rw [e.1]
  · rfl

/-- A cannon that goes OUT_OF_SERVICE with an acknowledged start whose last good reply is of this moment: the start is charged
the estimate of R148 with t = 0, and nothing stays held (R146, R148). -/
theorem State.goOut_serving {s : State} {c : Nat} {o : Order} {st : Start} (h1 : 1 ≤ c) (h2 : c ≤ 24)
    (hon : s.startOn c = some o) (hbed : s.order o.bed = some o) (hs : o.start = some st) (hack : st.acknowledged = true)
    (htest : (s.cannon c).test = .none) (hlast : (s.cannon c).lastGood = some s.osc) :
    let t := s.goOut c
    (t.cannon c).activity = .outOfService ∧ (t.cannon c).held = none ∧
      t.water = (s.chargeSource st.source st.volume (estimatedCharge st.volume (st.delivered.getD 0) (s.conf.ratedFlow c) 0)).water := by
  set v := s.setCannon c { s.cannon c with streak := 0 } with hv
  set u := v.setActivity c .outOfService with hu
  have vown : v.cannon c = _ := s.cannon_setCannon_same _ h1 h2
  have own : (u.cannon c).unmarked = ({ s.cannon c with streak := 0, activity := .outOfService } : Cannon).unmarked := by
    rw [v.setActivity_cannon h1 h2 .outOfService, vown]
    rfl
  have field := fun {α : Type} => Cannon.field_congr (α := α) own
  have wise : Cannonwise s u := (s.setCannon_cannonwise c _).trans (v.setActivity_cannonwise c .outOfService)
  obtain ⟨-, water, orders, -, conf, osc, -⟩ := wise
  have on : u.startOn c = some o := (State.startOn_congr orders c).trans hon
  have order : u.order o.bed = some o := (State.order_congr orders _).trans hbed
  set d := estimatedCharge st.volume (st.delivered.getD 0) (s.conf.ratedFlow c) 0 with hd
  have since : secondsSinceGood (u.cannon c) u.osc = 0 := by
    have last : (u.cannon c).lastGood = some u.osc := ((field Cannon.lastGood fun _ => rfl).trans hlast).trans (by rw [osc])
    unfold secondsSinceGood
    rw [last]
    simp [ceilDiv]
  have started : u.estimateStart c u.osc = u.endStart o.bed d := by
    unfold State.estimateStart
    rw [on]
    dsimp only
    rw [hs]
    dsimp only
    rw [if_pos hack, since, conf]
  set w := u.endStart o.bed d with hw
  have test : (w.cannon c).test = .none := (State.endStart_sameTests order hs c).trans ((field Cannon.test fun _ => rfl).trans htest)
  have activity : (w.cannon c).activity = .outOfService :=
    (State.endStart_activity order hs c).trans (field Cannon.activity fun _ => rfl)
  have tested : w.estimateTest c = w := by
    unfold State.estimateTest
    rw [test]
  have closed : w.closeEstimate c = w.setCannon c { w.cannon c with held := none } := by
    unfold State.closeEstimate
    dsimp only
    rw [if_neg (by simp [activity]), if_pos (.inr activity)]
  have ended : u.endByEstimate c u.osc = w.setCannon c { w.cannon c with held := none } := by
    unfold State.endByEstimate
    rw [started, tested, closed]
  have busy : u.busyCannon c = true := (u.busyCannon_iff c).mpr (.inl (by rw [on]; rfl))
  set y := w.setCannon c { w.cannon c with held := none } with hy
  have form : s.goOut c = (y.setCannon c { y.cannon c with held := none }).askRecord .cannonOut c 199 none := by
    unfold State.goOut
    dsimp only
    rw [← hv, ← hu, if_pos busy, ended]
  have last : (s.goOut c).cannon c = { y.cannon c with held := none } := by
    rw [form, State.cannon_congr (s := y.setCannon c { y.cannon c with held := none }) (by simp)]
    exact y.cannon_setCannon_same _ h1 h2
  have before : y.cannon c = { w.cannon c with held := none } := w.cannon_setCannon_same _ h1 h2
  refine ⟨?_, ?_, ?_⟩
  · rw [last, before]
    exact activity
  · rw [last]
  · rw [form]
    have asked : ((y.setCannon c { y.cannon c with held := none }).askRecord .cannonOut c 199 none).water = w.water := by simp [hy]
    rw [asked, hw, State.endStart_water order hs]
    cases st.source <;> simp [State.chargeSource, State.setSource, State.source, water]

/-! ### The three replies -/

theorem State.releaseWater_water {s t : State} (h : t.water = s.water) (w : WaterSource) (v : Nat) :
    (t.releaseWater w v).water = (s.releaseWater w v).water := by
  cases w <;> simp [State.releaseWater, State.setSource, State.source, h]

/-- A STOP asked of a cannon that holds nothing else is held (R143). -/
theorem State.askStop_held {s : State} {c : Nat} (h1 : 1 ≤ c) (h2 : c ≤ 24)
    (only : ∀ h, (s.cannon c).held = some h → h.command = .stop) : let t := s.askStop c
    (t.cannon c).held.map HeldCommand.command = some .stop ∧ (t.cannon c).lastGood = (s.cannon c).lastGood ∧
      (t.cannon c).score = (s.cannon c).score ∧ (t.cannon c).lastFault = (s.cannon c).lastFault ∧
      (t.cannon c).activity = (s.cannon c).activity ∧ t.line.transaction = s.line.transaction ∧
      t.disp = s.disp ∧ t.water = s.water ∧ t.beds = s.beds := by
  have placed : (s.place c .stop).cannon c = { s.cannon c with held := some ⟨.stop, s.line.heldSerial⟩ } :=
    s.cannon_setCannon_same _ h1 h2
  dsimp only
  cases held : (s.cannon c).held with
  | none =>
    have form : s.askStop c = s.place c .stop := by
      unfold State.askStop
      rw [held]
    rw [form, placed]
    exact ⟨rfl, rfl, rfl, rfl, rfl, rfl, rfl, rfl, rfl⟩
  | some h =>
    obtain ⟨k, n⟩ := h
    obtain rfl : k = .stop := only _ held
    have form : s.askStop c = s := by
      unfold State.askStop
      rw [held]
    rw [form, held]
    exact ⟨rfl, rfl, rfl, rfl, rfl, rfl, rfl, rfl, rfl⟩

section
variable {s : State} {x : Transaction} {r : Reply} {o : Order} {st : Start} (h1 : 1 ≤ x.cannon) (h2 : x.cannon ≤ 24)
include h1 h2

/-- What a POLL reply SPRAYING within the limit leaves (R150). -/
theorem pollSprays_leaves (q : Order) (hq : q.bed = o.bed) :
    let t := (((s.repliedWell x).putOrder q).noteGoodReply x.cannon).flushCannons
    t.line.transaction = none ∧ t.order o.bed = some q ∧ (∀ b, b ≠ o.bed → t.order b = s.order b) ∧
      (t.cannon x.cannon).lastGood = some s.osc ∧ (t.cannon x.cannon).activity = (s.cannon x.cannon).activity ∧
      (t.cannon x.cannon).held = (s.cannon x.cannon).held ∧ t.water = s.water ∧ t.beds = s.beds ∧
      ((s.cannon x.cannon).activity ≠ .outOfService → (t.cannon x.cannon).score = (s.cannon x.cannon).score - 1) := by
  obtain ⟨activity, held, score⟩ := s.repliedWell_cannon h1 h2
  have good : Cannonwise (s.endTransaction x) (s.repliedWell x) := State.goodTransaction_cannonwise _ _
  obtain ⟨beds, water, orders, quiet, -, osc, -⟩ := good
  dsimp only
  set u := s.repliedWell x
  obtain ⟨wise, own⟩ := (u.putOrder q).noted_leaves h1 h2
  have field := fun {α : Type} => Cannon.field_congr (α := α)
    (b := { u.cannon x.cannon with lastGood := some u.osc }) (own.trans rfl)
  obtain ⟨fbeds, fwater, forders, fquiet, -⟩ := wise
  set t := ((u.putOrder q).noteGoodReply x.cannon).flushCannons
  have order : ∀ b, t.order b = (u.putOrder q).order b := State.order_congr forders
  refine ⟨fquiet.trans quiet, ?_, fun b hb => ?_, (field Cannon.lastGood fun _ => rfl).trans (congrArg some osc),
    (field Cannon.activity fun _ => rfl).trans activity, (field Cannon.held fun _ => rfl).trans held, fwater.trans water,
    fbeds.trans beds, fun h => (field Cannon.score fun _ => rfl).trans (score h)⟩
  · rw [order, ← hq]
    exact u.order_putOrder_same q
  · rw [order, u.order_putOrder_ne (hq ▸ hb)]
    exact State.order_congr orders b

/-- What a TRIM reply SPRAYING within the limit leaves (R75, R107, R151). -/
theorem trimSprays_leaves (hs : s.serves x o st) (m limit hold : Nat) :
    let t := ((((s.repliedWell x).takeTrim o.bed m limit hold).setDelivered o.bed m).noteGoodReply x.cannon).flushCannons
    let volume := min st.volume (m + limit)
    t.line.transaction = none ∧
      t.order o.bed = some { o with start := some { st with
        volume := volume, count := if (s.bed o.bed).holdIs hold then .trimmed m else st.count, delivered := some m } } ∧
      t.water = (s.releaseWater st.source (st.volume - volume)).water ∧ t.beds = s.beds ∧
      (t.cannon x.cannon).lastGood = some s.osc := by
  have good : Cannonwise (s.endTransaction x) (s.repliedWell x) := State.goodTransaction_cannonwise _ _
  obtain ⟨beds, water, orders, quiet, -, osc, -⟩ := good
  obtain ⟨-, hbed, hstart⟩ := State.repliedWell_serves hs
  intro t volume
  set u := s.repliedWell x
  obtain ⟨order, trimmed, -⟩ := State.takeTrim_leaves hbed hstart m limit hold
  have kept := u.takeTrim_kept o.bed m limit hold
  have same : u.bed o.bed = s.bed o.bed := State.bed_congr (congrArg BedTable.records beds) _
  rw [same] at order
  set v := u.takeTrim o.bed m limit hold with hv
  set q : Order := { o with start := some { st with
    volume := volume, count := if (s.bed o.bed).holdIs hold then .trimmed m else st.count, delivered := some m } } with hq
  have put : v.setDelivered o.bed m = v.putOrder q := State.setDelivered_eq order rfl
  obtain ⟨wise, own⟩ := (v.putOrder q).noted_leaves h1 h2
  obtain ⟨fbeds, fwater, forders, fquiet, -⟩ := wise
  have form : t = ((v.putOrder q).noteGoodReply x.cannon).flushCannons := by
    rw [← put]
  have last := congrArg Cannon.lastGood own
  rw [form]
  have time : v.osc = u.osc := by simp [hv]
  refine ⟨?_, ?_, ?_, fbeds.trans (kept.1.trans beds), last.trans (congrArg some (time.trans osc))⟩
  · exact fquiet.trans ((congrArg Line.transaction kept.2.2).trans quiet)
  · rw [State.order_congr forders]
    exact v.order_putOrder_same q
  · exact fwater.trans (trimmed.trans (State.releaseWater_water (s := s) water _ _))

/-- What a STOP reply SPRAYING leaves while the score stays below 200 (R146, R152). -/
theorem stopSprays_leaves (score : (s.cannon x.cannon).score + 5 < 200)
    (only : ∀ h, (s.cannon x.cannon).held = some h → h.command = .stop) :
    let u := ((s.endTransaction x).noteGoodReply x.cannon).scoreBadState x.cannon
    let t := (if wentOut (s.endTransaction x) u x.cannon then u else u.askStop x.cannon).flushCannons
    t.line.transaction = none ∧ (t.cannon x.cannon).lastGood = some s.osc ∧
      (t.cannon x.cannon).score = (s.cannon x.cannon).score + 5 ∧ (t.cannon x.cannon).lastFault = .badState ∧
      (t.cannon x.cannon).activity = (s.cannon x.cannon).activity ∧
      (t.cannon x.cannon).held.map HeldCommand.command = some .stop ∧ t.disp = s.disp ∧ t.water = s.water ∧ t.beds = s.beds := by
  intro u t
  have ended := s.endTransaction_cannon h1 h2 rfl
  set e := s.endTransaction x with he
  set v := e.noteGoodReply x.cannon with hv
  have noted : v.cannon x.cannon = { s.cannon x.cannon with lastEnd := some s.osc, lastGood := some s.osc } := by
    rw [hv, e.noteGoodReply_cannon h1 h2, ended]
    rfl
  have form : u = v.setCannon x.cannon (v.cannon x.cannon).badState := State.scoreBadState_eq (by rw [noted]; exact score)
  have own : u.cannon x.cannon = (v.cannon x.cannon).badState := by
    rw [form]
    exact v.cannon_setCannon_same _ h1 h2
  rw [noted] at own
  have stays : wentOut e u x.cannon = false := by
    simp [wentOut, own, ended, Cannon.badState, Cannon.withScore]
  have asked : t = (u.askStop x.cannon).flushCannons := by
    change (if wentOut e u x.cannon then u else u.askStop x.cannon).flushCannons = _
    rw [stays]
    rfl
  obtain ⟨held, good, uscore, fault, activity, quiet, disp, water, beds⟩ := u.askStop_held h1 h2 (by rw [own]; exact only)
  rw [own] at good uscore fault activity
  have field := fun {α : Type} => (u.askStop x.cannon).flushCannons_field (α := α) x.cannon
  obtain ⟨fbeds, fwater, -, fquiet, -⟩ := (u.askStop x.cannon).flushCannons_cannonwise
  have fdisp : (u.askStop x.cannon).flushCannons.disp = (u.askStop x.cannon).disp := by simp
  have start : u.line.transaction = none ∧ u.disp = s.disp ∧ u.water = s.water ∧ u.beds = s.beds := by
    rw [form]
    exact ⟨rfl, rfl, rfl, rfl⟩
  obtain ⟨quiet', disp', water', beds'⟩ := start
  rw [asked]
  exact ⟨fquiet.trans (quiet.trans quiet'), (field Cannon.lastGood fun _ => rfl).trans good,
    (field Cannon.score fun _ => rfl).trans uscore, (field Cannon.lastFault fun _ => rfl).trans fault,
    (field Cannon.activity fun _ => rfl).trans activity,
    (congrArg (Option.map HeldCommand.command) (field Cannon.held fun _ => rfl)).trans held,
    fdisp.trans (disp.trans disp'), fwater.trans (water.trans water'), fbeds.trans (beds.trans beds')⟩

/-- What a STOP reply SPRAYING leaves where its score takes the cannon OUT_OF_SERVICE (R146, R148, log 13). -/
theorem stopSprays_out (hs : s.serves x o st) (score : 200 ≤ (s.cannon x.cannon).score + 5)
    (inService : (s.cannon x.cannon).activity ≠ .outOfService) (test : (s.cannon x.cannon).test = .none)
    (hack : st.acknowledged = true) :
    let u := ((s.endTransaction x).noteGoodReply x.cannon).scoreBadState x.cannon
    let t := (if wentOut (s.endTransaction x) u x.cannon then u else u.askStop x.cannon).flushCannons
    (t.cannon x.cannon).activity = .outOfService ∧ (t.cannon x.cannon).held = none ∧
      t.water = (s.chargeSource st.source st.volume
        (estimatedCharge st.volume (st.delivered.getD 0) (s.conf.ratedFlow x.cannon) 0)).water := by
  obtain ⟨hon, hbed, hstart, -⟩ := hs
  intro u t
  have ended := s.endTransaction_cannon h1 h2 rfl
  set e := s.endTransaction x with he
  set v := e.noteGoodReply x.cannon with hv
  have noted : v.cannon x.cannon = { s.cannon x.cannon with lastEnd := some s.osc, lastGood := some s.osc } := by
    rw [hv, e.noteGoodReply_cannon h1 h2, ended]
    rfl
  set k : Cannon := { v.cannon x.cannon with lastFault := .badState, streak := streakAfterFailure (v.cannon x.cannon) } with hk
  set w := v.setCannon x.cannon (k.withScore 199) with hw
  have form : u = w.goOut x.cannon := by
    have high : 200 ≤ k.score + 5 := by
      rw [hk, noted]
      exact score
    have active : k.activity ≠ .outOfService := by
      rw [hk, noted]
      exact inService
    have unfolded : u = v.scoreEvent x.cannon .badState 5 := rfl
    rw [unfolded]
    unfold State.scoreEvent
    exact (if_pos high).trans (if_neg active)
  have own : w.cannon x.cannon = k.withScore 199 := v.cannon_setCannon_same _ h1 h2
  obtain ⟨activity, held, water⟩ := State.goOut_serving (s := w) h1 h2 hon hbed hstart hack
    (by rw [own, hk, noted]; exact test) (by rw [own, hk, noted]; rfl)
  rw [← form] at activity held water
  have out : wentOut e u x.cannon = true := by
    simp [wentOut, activity, ended, inService]
  have stopped : t = u.flushCannons := by
    change (if wentOut e u x.cannon then u else u.askStop x.cannon).flushCannons = _
    rw [out]
    rfl
  rw [stopped]
  refine ⟨(State.flushCannons_field _ _ Cannon.activity fun _ => rfl).trans activity,
    (State.flushCannons_field _ _ Cannon.held fun _ => rfl).trans held, ?_⟩
  have same : ∀ d, (w.chargeSource st.source st.volume d).water = (s.chargeSource st.source st.volume d).water := fun d => by
    cases st.source <;> rfl
  obtain ⟨-, kept, -⟩ := u.flushCannons_cannonwise
  exact kept.trans (water.trans (same _))

end

/-- Settles O47: the three runs in closed form, and what each leaves. -/
theorem pollAndTrimFigures : Obligations.PollAndTrimFigures := by
  intro s x bytes r o st hr hstate hs hm
  obtain ⟨-, -, h1, h2, -⟩ := id hr
  refine ⟨fun hx => ⟨_, pollSprays_eq hr hstate hs hm hx, pollSprays_leaves h1 h2 _ rfl⟩, fun limit hold hx => ?_,
    fun hx => ⟨fun score only => ⟨_, stopSprays_eq hr hstate hs hm hx, stopSprays_leaves h1 h2 score only⟩,
      fun score inService test hack => ?_⟩⟩
  · obtain ⟨quiet, order, water, beds, good⟩ := trimSprays_leaves h1 h2 hs r.meter limit hold
    have source := fun w => (State.source_congr water w).trans (s.source_setSource_if st.source w _)
    refine ⟨_, _, trimSprays_eq hr hstate hs hm hx, quiet, order, rfl, rfl, rfl, rfl, fun h => if_pos h,
      fun h => if_neg (by rw [h]; exact Bool.false_ne_true), ?_, ?_, fun w hw => ?_, beds, good⟩
    · rw [source, if_pos rfl]
    · rw [source, if_pos rfl]
    · rw [source, if_neg hw]
  · obtain ⟨activity, held, water⟩ := stopSprays_out h1 h2 hs score inService test hack
    refine ⟨_, stopSprays_eq hr hstate hs hm hx, activity, held, ?_⟩
    rw [State.source_congr water, State.chargeSource_source]
    rfl

end Sys2Proof.Machine
end

section
/-! SUPPORT. The turns of R196: what each producer sends of what it has pending, and what stays pending. -/

namespace Sys2Proof.Machine

/-! ### Frames joining while there is room -/

/-- The state in which as many of a list of frames have joined as there was room for (R195). -/
def State.sends (s : State) (l : List Frame) : State :=
  { s with port := { s.port with outbound := s.port.outbound ++ l.take s.slots } }

namespace State

theorem slots_congr {s t : State} (h : t.port = s.port) : t.slots = s.slots := by
  unfold State.slots State.free
  rw [h]

theorem sends_slots (s : State) (l : List Frame) : (s.sends l).slots = s.slots - l.length :=
  Sends.slots (t := s.sends l) rfl

theorem sends_nil (s : State) : s.sends [] = s := by
  unfold State.sends
  rw [List.take_nil, List.append_nil]

theorem sends_full {s : State} (l : List Frame) (h : s.slots = 0) : s.sends l = s := by
  unfold State.sends
  rw [h, List.take_zero, List.append_nil]

theorem sends_one {s : State} (f : Frame) (h : 0 < s.slots) : s.sends [f] = s.join f := by
  unfold State.sends
  rw [List.take_of_length_le (by exact h)]
  rfl

theorem sends_sends (s : State) (l m : List Frame) : (s.sends l).sends m = s.sends (l ++ m) := by
  have port : (s.sends l |>.sends m).port = (s.sends (l ++ m)).port := Sends.trans (t := s.sends l) rfl rfl
  have form : (s.sends l).sends m = { s.sends (l ++ m) with port := ((s.sends l).sends m).port } := rfl
  rw [form, port]

end State

theorem offer_full {turn : State → State} {s : State} (h : s.slots = 0) : offer turn s = s := by
  unfold offer
  rw [if_neg]
  rw [State.room_iff]
  omega

theorem offer_room {turn : State → State} {s : State} (h : 0 < s.slots) : offer turn s = turn s := if_pos (State.room_iff.mpr h)

/-! ### STARTED and MODE -/

/-- The STARTED notice that is pending (R203). -/
def State.startedFrames (s : State) : List Frame :=
  if s.classes .started = 0 then []
  else s.store.started.toList.map (fun m => .notice (s.classes .started) .started
    (be8 m.kind.code ++ be8 (if m.valid then 1 else 0) ++ be16 m.version))

theorem offer_flushStarted (s : State) : offer State.flushStarted s = { s.sends s.startedFrames with
    store := { s.store with started := if 0 < s.slots then none else s.store.started } } := by
  by_cases room : 0 < s.slots
  · rw [offer_room room, if_pos room]
    unfold State.flushStarted State.startedFrames
    cases pending : s.store.started with
    | none =>
      have same : { s.store with started := none } = s.store := by rw [← pending]
      rw [Option.toList_none, List.map_nil, ite_self, State.sends_nil]
      exact congrArg (fun x => { s with store := x }) same.symm
    | some m =>
      dsimp only
      by_cases told : s.classes .started = 0
      · rw [if_pos told, if_pos told, State.sends_nil]
      · rw [if_neg told, if_neg told, if_pos (State.room_iff.mpr room), Option.toList_some, List.map_singleton,
          State.sends_one _ room]
        rfl
  · rw [offer_full (by omega), if_neg room, State.sends_full _ (by omega)]

/-- The MODE notice that is pending (R183). -/
def State.modeFrames (s : State) : List Frame :=
  if s.ctrl.modeMark = true ∧ s.classes .mode ≠ 0 then [.notice (s.classes .mode) .mode (be8 s.ctrl.mode.code ++
    be8 ((if s.ctrl.operator then 1 else 0) + (if s.ctrl.freeze then 2 else 0)))] else []

theorem State.modeBytes_eq (s : State) : s.modeBytes = be8 s.ctrl.mode.code ++
    be8 ((if s.ctrl.operator then 1 else 0) + (if s.ctrl.freeze then 2 else 0)) := by
  unfold State.modeBytes reasonsByte
  cases s.ctrl.operator <;> cases s.ctrl.freeze <;> rfl

theorem offer_flushMode (s : State) : offer State.flushMode s = { s.sends s.modeFrames with
    ctrl := { s.ctrl with modeMark := s.ctrl.modeMark && decide (s.slots = 0) } } := by
  by_cases room : 0 < s.slots
  · rw [offer_room room, decide_eq_false (by omega : ¬s.slots = 0), Bool.and_false]
    unfold State.flushMode State.modeFrames
    by_cases marked : s.ctrl.modeMark = true
    · rw [if_pos marked]
      by_cases told : s.classes .mode = 0
      · rw [if_pos told, if_neg (fun h => h.2 told), State.sends_nil]
      · rw [if_neg told, if_pos (State.room_iff.mpr room), if_pos ⟨marked, told⟩, State.sends_one _ room, ← State.modeBytes_eq]
        rfl
    · have same : { s.ctrl with modeMark := false } = s.ctrl := by rw [← eq_false_of_ne_true marked]
      rw [if_neg marked, if_neg (fun h => marked h.1), State.sends_nil]
      exact congrArg (fun x => { s with ctrl := x }) same.symm
  · rw [offer_full (by omega), decide_eq_true (by omega : s.slots = 0), Bool.and_true, State.sends_full _ (by omega)]

/-! ### The pending lists -/

theorem sendWhileRoom_eq (k : NoticeKind) (l : List (List Byte)) : ∀ s : State,
    sendWhileRoom k l s = (s.sends (l.map (fun d => .notice (s.classes k) k d)), min l.length s.slots) := by
  induction l with
  | nil => exact fun s => by rw [List.map_nil, State.sends_nil]; simp [sendWhileRoom]
  | cons d rest ih =>
    intro s
    unfold sendWhileRoom
    by_cases room : 0 < s.slots
    · have joined : s.notice k d = s.sends [.notice (s.classes k) k d] := (State.sends_one _ room).symm
      have slots := s.sends_slots [.notice (s.classes k) k d]
      rw [if_pos (State.room_iff.mpr room), joined]
      dsimp only
      rw [ih, slots]
      refine Prod.ext (State.sends_sends s _ _) ?_
      simp only [List.length_cons, List.length_nil]
      omega
    · rw [if_neg (mt State.room_iff.mp room), State.sends_full _ (by omega)]
      exact Prod.ext rfl (by simp only []; omega)

theorem drop_min {α : Type} (l : List α) (n : Nat) : l.drop (min l.length n) = l.drop n := by
  by_cases h : l.length ≤ n
  · rw [Nat.min_eq_left h, List.drop_length, List.drop_of_length_le h]
  · rw [Nat.min_eq_right (by omega)]

/-- The HOLD_ENDED notices that are pending, oldest first (R111). -/
def State.heldFrames (s : State) : List Frame :=
  s.beds.pending.map (fun h => .notice (s.classes .holdEnded) .holdEnded (be8 h.bed ++ be16 h.tag ++ be24 h.tally))

/-- The CLAIM_EXPIRED notices that are pending, oldest first (R99). -/
def State.expiredFrames (s : State) : List Frame :=
  s.zones.pending.map (fun m => .notice (s.classes .claimExpired) .claimExpired (be8 m))

/-- The SPRAY_DONE notices that are pending, oldest first (R119). -/
def State.sprayedFrames (s : State) : List Frame :=
  s.disp.pending.map (fun d =>
    .notice (s.classes .sprayDone) .sprayDone (be8 d.bed ++ be32 d.delivered ++ be8 d.outcome.code))

theorem offer_flushHoldEnded (s : State) : offer State.flushHoldEnded s =
    { s.sends s.heldFrames with
      beds := { s.beds with pending := s.beds.pending.drop s.slots } } := by
  by_cases room : 0 < s.slots
  · rw [offer_room room]
    unfold State.flushHoldEnded
    rw [sendWhileRoom_eq, List.map_map, List.length_map]
    dsimp only
    rw [← drop_min s.beds.pending s.slots]
    rfl
  · rw [offer_full (by omega), State.sends_full _ (by omega), (by omega : s.slots = 0), List.drop_zero]

theorem offer_flushClaimExpired (s : State) : offer State.flushClaimExpired s =
    { s.sends s.expiredFrames with
      zones := { s.zones with pending := s.zones.pending.drop s.slots } } := by
  by_cases room : 0 < s.slots
  · rw [offer_room room]
    unfold State.flushClaimExpired
    rw [sendWhileRoom_eq, List.map_map, List.length_map]
    dsimp only
    rw [← drop_min s.zones.pending s.slots]
    rfl
  · rw [offer_full (by omega), State.sends_full _ (by omega), (by omega : s.slots = 0), List.drop_zero]

theorem offer_flushSprayDone (s : State) : offer State.flushSprayDone s =
    { s.sends s.sprayedFrames with
      disp := { s.disp with pending := s.disp.pending.drop s.slots } } := by
  by_cases room : 0 < s.slots
  · rw [offer_room room]
    unfold State.flushSprayDone
    rw [sendWhileRoom_eq, List.map_map, List.length_map]
    dsimp only
    rw [← drop_min s.disp.pending s.slots]
    rfl
  · rw [offer_full (by omega), State.sends_full _ (by omega), (by omega : s.slots = 0), List.drop_zero]

/-! ### WATER_USE, after the two sources' turns -/

theorem offer_flushWaterUse (s : State) : ∃ w : Water, offer State.flushWaterUse s =
      { s.sends (s.useFrames .recycled ++ s.useFrames .fresh) with water := w } ∧
    w.recycled = (if 0 < s.slots then { s.water.recycled with pendingUse := 0 } else s.water.recycled) ∧
    w.fresh = (if 0 < s.slots - (s.useFrames .recycled).length then { s.water.fresh with pendingUse := 0 } else s.water.fresh) := by
  by_cases room : 0 < s.slots
  · obtain ⟨sends, recycled, fresh⟩ := flushUses_leave s
    have kept : s.flushWaterUse = { s with port := s.flushWaterUse.port, water := s.flushWaterUse.water } := by
      have one : ∀ (u : State) (w : WaterSource), flushUse u w = { u with port := (flushUse u w).port, water := (flushUse u w).water } :=
        fun u w => by
          unfold flushUse
          split
          · cases w <;> rfl
          · rfl
      unfold State.flushWaterUse
      rw [one (flushUse s .recycled) .fresh, one s .recycled]
    refine ⟨s.flushWaterUse.water, ?_, recycled, fresh⟩
    have port : s.flushWaterUse.port = (s.sends (s.useFrames .recycled ++ s.useFrames .fresh)).port := sends
    rw [offer_room room, kept, port]
    rfl
  · exact ⟨s.water, by rw [offer_full (by omega), State.sends_full _ (by omega)], (if_neg room).symm, (if_neg (by omega)).symm⟩

/-! ### CANNON_STATE -/

/-- The notice of cannon `i + 1` is due: its mark is set and some class is told (R160). -/
def State.cannonDue (s : State) (i : Nat) : Bool := (s.cannon (i + 1)).mark && decide (s.classes .cannonState ≠ 0)

/-- The CANNON_STATE notice of cannon `i + 1` (R160). -/
def State.cannonFrame (s : State) (i : Nat) : Frame :=
  let k := s.cannon (i + 1)
  .notice (s.classes .cannonState) .cannonState (be8 (i + 1) ++ be8 k.activity.code ++ be8 (if k.suspect then 1 else 0) ++
    be8 k.score ++ be8 k.lastFault.code)

/-- The pending CANNON_STATE notices of the first `n` cannons, in ascending address (R160). -/
def State.cannonFrames (s : State) (n : Nat) : List Frame := ((List.range n).filter s.cannonDue).map s.cannonFrame

theorem State.cannonFrames_succ (s : State) (n : Nat) :
    s.cannonFrames (n + 1) = s.cannonFrames n ++ if s.cannonDue n then [s.cannonFrame n] else [] := by
  unfold State.cannonFrames
  rw [List.range_succ, List.filter_append, List.map_append]
  congr 1
  by_cases h : s.cannonDue n = true <;> simp [h]

/-- One cannon's turn (R160). -/
theorem flushCannon_leaves (s : State) {n : Nat} (hn : n < 24) : let t := flushCannon s (n + 1)
    t = { s.sends (if s.cannonDue n then [s.cannonFrame n] else []) with line := t.line } ∧
      t.cannon (n + 1) = { s.cannon (n + 1) with
        mark := (s.cannon (n + 1)).mark && decide (s.classes .cannonState ≠ 0 ∧ s.slots = 0) } ∧
      ∀ c, c ≠ n + 1 → t.cannon c = s.cannon c := by
  have cleared : ∀ u : State, u.line = s.line → let v := u.setCannon (n + 1) { s.cannon (n + 1) with mark := false }
      v.cannon (n + 1) = { s.cannon (n + 1) with mark := false } ∧ ∀ c, c ≠ n + 1 → v.cannon c = s.cannon c := fun u hu =>
    ⟨u.cannon_setCannon_same _ (by omega) (by omega),
      fun c hc => (u.cannon_setCannon_ne _ hc).trans (State.cannon_congr (congrArg Line.cannons hu) c)⟩
  dsimp only
  unfold flushCannon State.cannonDue
  by_cases marked : (s.cannon (n + 1)).mark = true
  · rw [if_pos marked, marked, Bool.true_and, Bool.true_and]
    by_cases told : s.classes .cannonState = 0
    · rw [if_pos told, decide_eq_false (fun h => h told), decide_eq_false (fun h => h.1 told)]
      exact ⟨by rw [if_neg Bool.false_ne_true, State.sends_nil]; rfl, cleared s rfl⟩
    · rw [if_neg told, decide_eq_true told, if_pos rfl]
      by_cases room : 0 < s.slots
      · rw [if_pos (State.room_iff.mpr room), decide_eq_false (by omega), State.sends_one _ room]
        exact ⟨rfl, cleared _ rfl⟩
      · rw [if_neg (mt State.room_iff.mp room), decide_eq_true ⟨told, by omega⟩, State.sends_full _ (by omega)]
        exact ⟨rfl, by rw [← marked], fun _ _ => rfl⟩
  · have unmarked := eq_false_of_ne_true marked
    rw [if_neg marked, unmarked, Bool.false_and, Bool.false_and, if_neg Bool.false_ne_true, State.sends_nil]
    exact ⟨rfl, by rw [← unmarked], fun _ _ => rfl⟩

/-- What is left of a mark when the room before its notice is known (R160, R196). -/
def State.cannonMark (s : State) (i : Nat) : Bool :=
  (s.cannon (i + 1)).mark && decide (s.slots ≤ (s.cannonFrames i).length)

theorem State.cannonFrames_untold {s : State} (h : s.classes .cannonState = 0) (n : Nat) : s.cannonFrames n = [] := by
  have none : ∀ i, s.cannonDue i = false := fun i => by
    unfold State.cannonDue
    rw [h]
    simp
  unfold State.cannonFrames
  simp [none]

theorem State.cannonMark_eq {s : State} (room : 0 < s.slots) (n : Nat) : s.cannonMark n = ((s.cannon (n + 1)).mark &&
    decide (s.classes .cannonState ≠ 0 ∧ s.slots - (s.cannonFrames n).length = 0)) := by
  unfold State.cannonMark
  by_cases told : s.classes .cannonState = 0
  · rw [State.cannonFrames_untold told, List.length_nil, decide_eq_false (Nat.not_le.mpr room), decide_eq_false (fun h => h.1 told)]
  · congr 1
    exact decide_eq_decide.mpr ⟨fun h => ⟨told, by omega⟩, fun h => by omega⟩

/-- The first cannons' turns: the state after the first `n` of them, while there is room for the first. -/
theorem flushFirst_leaves {s : State} (room : 0 < s.slots) (n : Nat) (hn : n ≤ 24) :
    let t := ((List.range n).map (· + 1)).foldl flushCannon s
    t = { s.sends (s.cannonFrames n) with line := t.line } ∧
      ∀ i, i < 24 → t.cannon (i + 1) =
        if i < n then { s.cannon (i + 1) with mark := s.cannonMark i } else s.cannon (i + 1) := by
  induction n with
  | zero => exact ⟨by rw [show s.cannonFrames 0 = [] from rfl, State.sends_nil]; rfl, fun i _ => rfl⟩
  | succ n ih =>
    obtain ⟨form, cannons⟩ := ih (by omega)
    rw [List.range_succ, List.map_append, List.foldl_append]
    set u := ((List.range n).map (· + 1)).foldl flushCannon s with hu
    have own : u.cannon (n + 1) = s.cannon (n + 1) := by rw [cannons n (by omega), if_neg (by omega)]
    have classes : u.classes .cannonState = s.classes .cannonState := by rw [form]; rfl
    have slots : u.slots = s.slots - (s.cannonFrames n).length := by
      rw [form]
      exact s.sends_slots _
    have due : u.cannonDue n = s.cannonDue n := by
      unfold State.cannonDue
      rw [own, classes]
    have frame : u.cannonFrame n = s.cannonFrame n := by
      unfold State.cannonFrame
      rw [own, classes]
    obtain ⟨step, mine, others⟩ := flushCannon_leaves u (n := n) (by omega)
    rw [due, frame] at step
    rw [own, classes, slots] at mine
    have turn : List.foldl flushCannon u (List.map (· + 1) [n]) = flushCannon u (n + 1) := rfl
    rw [turn]
    refine ⟨?_, fun i hi => ?_⟩
    · have sent : ∀ X, u.sends X = { (s.sends (s.cannonFrames n)).sends X with line := u.line } := fun X =>
        (congrArg (State.sends · X) form).trans rfl
      rw [s.cannonFrames_succ, ← State.sends_sends]
      exact step.trans (congrArg (fun v : State => { v with line := (flushCannon u (n + 1)).line }) (sent _))
    · by_cases same : i = n
      · rw [same, mine, if_pos (by omega), s.cannonMark_eq room]
      · rw [others (i + 1) (by omega), cannons i hi]
        by_cases before : i < n
        · rw [if_pos before, if_pos (by omega)]
        · rw [if_neg before, if_neg (by omega)]

theorem offer_flushCannons (s : State) : ∃ line, offer State.flushCannons s = { s.sends (s.cannonFrames 24) with line := line } ∧
    ∀ i, i < 24 → ((offer State.flushCannons s).cannon (i + 1)).mark = s.cannonMark i := by
  have numbers : cannonNumbers = (List.range 24).map (· + 1) := by decide
  by_cases room : 0 < s.slots
  · obtain ⟨form, cannons⟩ := flushFirst_leaves room 24 (Nat.le_refl _)
    have turn : offer State.flushCannons s = ((List.range 24).map (· + 1)).foldl flushCannon s := by
      rw [offer_room room]
      unfold State.flushCannons
      rw [numbers]
    rw [turn]
    exact ⟨_, form, fun i hi => by rw [cannons i hi, if_pos hi]⟩
  · refine ⟨s.line, by rw [offer_full (by omega), State.sends_full _ (by omega)], fun i _ => ?_⟩
    rw [offer_full (by omega)]
    unfold State.cannonMark
    rw [decide_eq_true (by omega), Bool.and_true]

/-! ### RECORDS_WAITING -/

/-- The RECORDS_WAITING notices that are pending for some classes (R172). -/
def State.waitingFrames (s : State) (classes : List ReaderClass) : List Frame :=
  (classes.filter (fun c => s.recs.marks.has c && decide (0 < unreadCount s.recs.queue c))).map (fun c =>
    .notice (2 ^ c.bit) .recordsWaiting (be8 (unreadCount s.recs.queue c)))

theorem State.waitingFrames_cons (s : State) (c : ReaderClass) (l : List ReaderClass) :
    s.waitingFrames (c :: l) = s.waitingFrames [c] ++ s.waitingFrames l := by
  unfold State.waitingFrames
  rw [← List.map_append, ← List.filter_append]
  rfl

theorem Readers.set_false {r : Readers} {c : ReaderClass} (h : r.has c = false) : r.set false c = r := by
  cases r
  cases c <;> simp_all [Readers.has, Readers.set]

/-- One class's turn (R172). -/
theorem flushReader_eq (s : State) (c : ReaderClass) : flushReader s c = { s.sends (s.waitingFrames [c]) with
    recs := { s.recs with marks := if 0 < s.slots then s.recs.marks.set false c else s.recs.marks } } := by
  unfold flushReader State.waitingFrames
  by_cases marked : s.recs.marks.has c = true
  · by_cases room : 0 < s.slots
    · rw [if_pos ⟨marked, State.room_iff.mpr room⟩, if_pos room]
      dsimp only
      by_cases empty : s.unread c = 0
      · have count : unreadCount s.recs.queue c = 0 := empty
        rw [if_pos empty]
        simp [count, State.sends_nil]
      · have count : 0 < unreadCount s.recs.queue c := Nat.pos_of_ne_zero empty
        rw [if_neg empty]
        simp only [List.filter_cons, marked, count, decide_true, Bool.and_true, if_true, List.filter_nil, List.map_cons, List.map_nil]
        rw [State.sends_one _ room]
        rfl
    · rw [if_neg (fun h => room (State.room_iff.mp h.2)), if_neg room, State.sends_full _ (by omega)]
  · rw [if_neg (fun h => marked h.1), Readers.set_false (eq_false_of_ne_true marked), ite_self]
    simp [eq_false_of_ne_true marked, State.sends_nil]

theorem flushReader_leaves (s : State) (c : ReaderClass) : ∃ marks : Readers,
    flushReader s c = { s.sends (s.waitingFrames [c]) with recs := { s.recs with marks := marks } } ∧
      marks = if 0 < s.slots then s.recs.marks.set false c else s.recs.marks := ⟨_, flushReader_eq s c, rfl⟩

/-- A mark that is kept exactly while there is no room behind what was sent before. -/
theorem and_decide_le (b : Bool) (m n : Nat) : (b && decide (m ≤ n)) = if 0 < m - n then false else b := by
  by_cases h : m ≤ n
  · rw [decide_eq_true h, Bool.and_true, if_neg (by omega)]
  · rw [decide_eq_false h, Bool.and_false, if_pos (by omega)]

/-- The three classes' turns (R172). -/
theorem offer_flushRecords (s : State) : ∃ marks : Readers, offer State.flushRecords s =
      { s.sends (s.waitingFrames [.ops, .wtr, .met]) with recs := { s.recs with marks := marks } } ∧
    marks.ops = (s.recs.marks.ops && decide (s.slots = 0)) ∧
    marks.wtr = (s.recs.marks.wtr && decide (s.slots ≤ (s.waitingFrames [.ops]).length)) ∧
    marks.met = (s.recs.marks.met && decide (s.slots ≤ (s.waitingFrames [.ops, .wtr]).length)) := by
  by_cases room : 0 < s.slots
  · obtain ⟨m1, e1, h1⟩ := flushReader_leaves s .ops
    obtain ⟨m2, e2, h2⟩ := flushReader_leaves (flushReader s .ops) .wtr
    obtain ⟨m3, e3, h3⟩ := flushReader_leaves (flushReader (flushReader s .ops) .wtr) .met
    rw [if_pos room] at h1
    have f2 : (flushReader s .ops).waitingFrames [.wtr] = s.waitingFrames [.wtr] := by rw [e1, h1]; rfl
    have n1 : (flushReader s .ops).slots = s.slots - (s.waitingFrames [.ops]).length := by rw [e1]; exact s.sends_slots _
    have r1 : (flushReader s .ops).recs = { s.recs with marks := m1 } := by rw [e1]
    rw [r1, n1] at h2
    rw [f2, r1] at e2
    have met2 : m2.met = s.recs.marks.met := by
      rw [h2, h1]
      split <;> rfl
    have f3 : (flushReader (flushReader s .ops) .wtr).waitingFrames [.met] = s.waitingFrames [.met] := by
      rw [e2]
      unfold State.waitingFrames
      simp only [List.filter_cons, List.filter_nil, Readers.has, met2]
    have n2 : (flushReader (flushReader s .ops) .wtr).slots = s.slots - (s.waitingFrames [.ops, .wtr]).length := by
      rw [s.waitingFrames_cons, List.length_append, ← Nat.sub_sub, ← n1, e2]
      exact State.sends_slots _ _
    have r2 : (flushReader (flushReader s .ops) .wtr).recs = { s.recs with marks := m2 } := by rw [e2]
    rw [r2, n2] at h3
    rw [f3, r2] at e3
    have form : flushReader (flushReader (flushReader s .ops) .wtr) .met =
        { s.sends (s.waitingFrames [.ops, .wtr, .met]) with recs := { s.recs with marks := m3 } } := by
      rw [s.waitingFrames_cons .ops, s.waitingFrames_cons .wtr, ← State.sends_sends, ← State.sends_sends, e3, e2, e1]
      rfl
    refine ⟨m3, (offer_room room).trans form, ?_, ?_, ?_⟩
    · have cleared : m2.ops = false := by
        rw [h2, h1]
        split <;> rfl
      rw [decide_eq_false (by omega : ¬s.slots = 0), Bool.and_false, ← cleared, h3]
      split <;> rfl
    · have second : m3.wtr = m2.wtr := by
        rw [h3]
        split <;> rfl
      rw [second, and_decide_le, h2, h1]
      split <;> rfl
    · rw [and_decide_le, ← met2, h3]
      split <;> rfl
  · exact ⟨s.recs.marks, by rw [offer_full (by omega), State.sends_full _ (by omega)],
      by rw [decide_eq_true (by omega), Bool.and_true], by rw [decide_eq_true (by omega), Bool.and_true],
      by rw [decide_eq_true (by omega), Bool.and_true]⟩

end Sys2Proof.Machine
end

section
/-! FRAME_SENT: the whole pass of R196 (R188, R195). -/

namespace Sys2Proof.Machine

/-- What the producers have pending, in the order of R196. -/
def State.pendingFrames (s : State) : List (List Frame) :=
  [s.startedFrames, s.modeFrames, s.cannonFrames 24, s.heldFrames, s.expiredFrames, s.sprayedFrames,
    s.useFrames .recycled ++ s.useFrames .fresh, s.waitingFrames [.ops, .wtr, .met]]

/-- What the first `n` producers have pending. -/
def State.framesBefore (s : State) (n : Nat) : List Frame := (s.pendingFrames.take n).flatten

theorem State.framesBefore_succ (s : State) {n : Nat} {l : List Frame} (h : s.pendingFrames[n]? = some l) :
    s.framesBefore (n + 1) = s.framesBefore n ++ l := by
  unfold State.framesBefore
  rw [List.take_add_one, h, Option.toList_some, List.flatten_append, List.flatten_singleton]

/-- The room a place in the pass finds. -/
def State.roomAt (s : State) (n : Nat) : Nat := s.slots - (s.framesBefore n).length

/-- A state in the pass: the first `n` producers' frames have joined, and the producers' own parts are as given. -/
def State.passed (s : State) (n : Nat) (st : Store) (ct : Controller) (ln : Line) (bd : BedTable) (zn : Zones)
    (dp : Dispatcher) (wt : Water) : State :=
  { s.sends (s.framesBefore n) with store := st, ctrl := ct, line := ln, beds := bd, zones := zn, disp := dp, water := wt }

section
variable (s : State) (st : Store) (ct : Controller) (ln : Line) (bd : BedTable) (zn : Zones) (dp : Dispatcher) (wt : Water)

theorem State.passed_slots (n : Nat) : (s.passed n st ct ln bd zn dp wt).slots = s.roomAt n := s.sends_slots _

theorem State.passed_sends {n : Nat} {l : List Frame} (h : s.pendingFrames[n]? = some l) :
    (s.passed n st ct ln bd zn dp wt).sends l = s.passed (n + 1) st ct ln bd zn dp wt := by
  unfold State.passed
  rw [s.framesBefore_succ h, ← State.sends_sends]
  rfl

theorem State.passed_started : offer State.flushStarted s =
    s.passed 1 { s.store with started := if 0 < s.slots then none else s.store.started }
      s.ctrl s.line s.beds s.zones s.disp s.water := by
  have first : s.framesBefore 1 = s.startedFrames := List.append_nil _
  rw [offer_flushStarted, ← first]
  rfl

theorem State.passed_mode : offer State.flushMode (s.passed 1 st s.ctrl ln bd zn dp wt) =
    s.passed 2 st { s.ctrl with modeMark := s.ctrl.modeMark && decide (s.roomAt 1 = 0) } ln bd zn dp wt := by
  have frames : (s.passed 1 st s.ctrl ln bd zn dp wt).modeFrames = s.modeFrames := rfl
  rw [offer_flushMode, frames, State.passed_sends _ _ _ _ _ _ _ _ rfl, State.passed_slots]
  rfl

theorem State.passed_cannons : ∃ line : Line, offer State.flushCannons (s.passed 2 st ct s.line bd zn dp wt) =
      s.passed 3 st ct line bd zn dp wt ∧
    ∀ i, i < 24 → (nth line.cannons Cannon.initial (i + 1)).mark =
      ((s.cannon (i + 1)).mark && decide (s.roomAt 2 ≤ (s.cannonFrames i).length)) := by
  obtain ⟨line, form, marks⟩ := offer_flushCannons (s.passed 2 st ct s.line bd zn dp wt)
  have frames : (s.passed 2 st ct s.line bd zn dp wt).cannonFrames = s.cannonFrames := rfl
  rw [frames, State.passed_sends _ _ _ _ _ _ _ _ rfl] at form
  refine ⟨line, form, fun i hi => ?_⟩
  have mark := marks i hi
  unfold State.cannonMark at mark
  rw [frames, State.passed_slots, form] at mark
  exact mark

theorem State.passed_held : offer State.flushHoldEnded (s.passed 3 st ct ln s.beds zn dp wt) =
    s.passed 4 st ct ln { s.beds with pending := s.beds.pending.drop (s.roomAt 3) } zn dp wt := by
  have frames : (s.passed 3 st ct ln s.beds zn dp wt).heldFrames = s.heldFrames := rfl
  rw [offer_flushHoldEnded, frames, State.passed_sends _ _ _ _ _ _ _ _ rfl, State.passed_slots]
  rfl

theorem State.passed_expired : offer State.flushClaimExpired (s.passed 4 st ct ln bd s.zones dp wt) =
    s.passed 5 st ct ln bd { s.zones with pending := s.zones.pending.drop (s.roomAt 4) } dp wt := by
  have frames : (s.passed 4 st ct ln bd s.zones dp wt).expiredFrames = s.expiredFrames := rfl
  rw [offer_flushClaimExpired, frames, State.passed_sends _ _ _ _ _ _ _ _ rfl, State.passed_slots]
  rfl

theorem State.passed_sprayed : offer State.flushSprayDone (s.passed 5 st ct ln bd zn s.disp wt) =
    s.passed 6 st ct ln bd zn { s.disp with pending := s.disp.pending.drop (s.roomAt 5) } wt := by
  have frames : (s.passed 5 st ct ln bd zn s.disp wt).sprayedFrames = s.sprayedFrames := rfl
  rw [offer_flushSprayDone, frames, State.passed_sends _ _ _ _ _ _ _ _ rfl, State.passed_slots]
  rfl

theorem State.passed_used : ∃ water : Water, offer State.flushWaterUse (s.passed 6 st ct ln bd zn dp s.water) =
      s.passed 7 st ct ln bd zn dp water ∧
    water.recycled = (if 0 < s.roomAt 6 then { s.water.recycled with pendingUse := 0 } else s.water.recycled) ∧
    water.fresh = (if 0 < s.roomAt 6 - (s.useFrames .recycled).length then { s.water.fresh with pendingUse := 0 }
      else s.water.fresh) := by
  obtain ⟨water, form, recycled, fresh⟩ := offer_flushWaterUse (s.passed 6 st ct ln bd zn dp s.water)
  have frames : (s.passed 6 st ct ln bd zn dp s.water).useFrames = s.useFrames := rfl
  rw [frames, State.passed_sends _ _ _ _ _ _ _ _ rfl] at form
  rw [State.passed_slots] at recycled fresh
  exact ⟨water, form, recycled, fresh⟩

theorem State.passed_waiting : ∃ marks : Readers, offer State.flushRecords (s.passed 7 st ct ln bd zn dp wt) =
      { s.passed 8 st ct ln bd zn dp wt with recs := { s.recs with marks := marks } } ∧
    marks.ops = (s.recs.marks.ops && decide (s.roomAt 7 = 0)) ∧
    marks.wtr = (s.recs.marks.wtr && decide (s.roomAt 7 ≤ (s.waitingFrames [.ops]).length)) ∧
    marks.met = (s.recs.marks.met && decide (s.roomAt 7 ≤ (s.waitingFrames [.ops, .wtr]).length)) := by
  obtain ⟨marks, form, ops, wtr, met⟩ := offer_flushRecords (s.passed 7 st ct ln bd zn dp wt)
  have frames : (s.passed 7 st ct ln bd zn dp wt).waitingFrames = s.waitingFrames := rfl
  rw [frames, State.passed_sends _ _ _ _ _ _ _ _ rfl] at form
  rw [State.passed_slots] at ops wtr met
  exact ⟨marks, form, ops, wtr, met⟩

end

/-- The pass of R196 in closed form: the frames, and what stays pending. -/
theorem State.offerRoom_form (s : State) : ∃ (line : Line) (water : Water) (marks : Readers),
    s.offerRoom = { s.passed 8 { s.store with started := if 0 < s.slots then none else s.store.started }
      { s.ctrl with modeMark := s.ctrl.modeMark && decide (s.roomAt 1 = 0) } line
      { s.beds with pending := s.beds.pending.drop (s.roomAt 3) }
      { s.zones with pending := s.zones.pending.drop (s.roomAt 4) }
      { s.disp with pending := s.disp.pending.drop (s.roomAt 5) } water with recs := { s.recs with marks := marks } } ∧
    (∀ i, i < 24 → (nth line.cannons Cannon.initial (i + 1)).mark =
      ((s.cannon (i + 1)).mark && decide (s.roomAt 2 ≤ (s.cannonFrames i).length))) ∧
    (water.recycled = (if 0 < s.roomAt 6 then { s.water.recycled with pendingUse := 0 } else s.water.recycled) ∧
    water.fresh = (if 0 < s.roomAt 6 - (s.useFrames .recycled).length then { s.water.fresh with pendingUse := 0 }
      else s.water.fresh)) ∧
    marks.ops = (s.recs.marks.ops && decide (s.roomAt 7 = 0)) ∧
    marks.wtr = (s.recs.marks.wtr && decide (s.roomAt 7 ≤ (s.waitingFrames [.ops]).length)) ∧
    marks.met = (s.recs.marks.met && decide (s.roomAt 7 ≤ (s.waitingFrames [.ops, .wtr]).length)) := by
  unfold State.offerRoom
  rw [State.passed_started, State.passed_mode]
  obtain ⟨line, cannons, cannonMarks⟩ := s.passed_cannons _ _ _ _ _ _
  rw [cannons, State.passed_held, State.passed_expired, State.passed_sprayed]
  obtain ⟨water, used, sources⟩ := s.passed_used _ _ _ _ _ _
  rw [used]
  obtain ⟨marks, waiting, readers⟩ := s.passed_waiting _ _ _ _ _ _ _
  exact ⟨line, water, marks, waiting, cannonMarks, sources, readers⟩

theorem execFrameSent_out {s : State} {f : Frame} {rest : List Frame} (bus : s.port.bus = .joined)
    (out : s.port.outbound = f :: rest) : exec .frameSent s = .next (s.popFrame f rest).offerRoom := by
  change execFrameSent s = _
  unfold execFrameSent
  rw [out]
  dsimp only
  rw [if_pos bus]

theorem State.framesBefore_length_succ (s : State) {n : Nat} {l : List Frame} (h : s.pendingFrames[n]? = some l) :
    (s.framesBefore (n + 1)).length = (s.framesBefore n).length + l.length := by
  rw [s.framesBefore_succ h, List.length_append]

theorem State.popFrame_slots (s : State) (f : Frame) (rest : List Frame) :
    (s.popFrame f rest).slots = 20 - rest.length - (if s.port.long.isSome then 1 else 0) := by
  unfold State.slots State.free State.popFrame
  dsimp only
  omega

theorem code_of_mem_map {α : Type} {l : List α} {k : NoticeKind} {classes : α → Nat} {data : α → List Byte} {g : Frame}
    (h : g ∈ l.map (fun a => .notice (classes a) k (data a))) : g.code = 0x3D := by
  obtain ⟨a, -, rfl⟩ := List.mem_map.mp h
  rfl

theorem State.useFrames_code (s : State) (w : WaterSource) {g : Frame} (h : g ∈ s.useFrames w) : g.code = 0x3D := by
  unfold State.useFrames at h
  split at h
  · exact absurd h List.not_mem_nil
  · rw [List.mem_singleton.mp h]
    rfl

/-- Everything a producer sends is a notice (R198). -/
theorem State.framesBefore_code (s : State) (n : Nat) : ∀ g ∈ s.framesBefore n, g.code = 0x3D := by
  intro g hg
  obtain ⟨l, hl, hg⟩ := List.mem_flatten.mp hg
  have pending := List.mem_of_mem_take hl
  unfold State.pendingFrames at pending
  simp only [List.mem_cons, List.not_mem_nil, or_false] at pending
  rcases pending with rfl | rfl | rfl | rfl | rfl | rfl | rfl | rfl
  case inl =>
    unfold State.startedFrames at hg
    split at hg
    · exact absurd hg List.not_mem_nil
    · exact code_of_mem_map hg
  case inr.inl =>
    unfold State.modeFrames at hg
    split at hg
    · rw [List.mem_singleton.mp hg]
      rfl
    · exact absurd hg List.not_mem_nil
  case inr.inr.inr.inr.inr.inr.inl =>
    exact (List.mem_append.mp hg).elim (s.useFrames_code _) (s.useFrames_code _)
  all_goals exact code_of_mem_map hg

/-- Settles O19: the pass in closed form, for the state whose head frame has left. -/
theorem frameSentFreesAnEntry : Obligations.FrameSentFreesAnEntry := by
  intro s
  refine ⟨fun h => ?_, fun f rest bus out => ?_⟩
  · change execFrameSent s = _
    unfold execFrameSent
    split
    · rename_i f rest out
      rw [if_neg (h.resolve_right (by rw [out]; exact List.cons_ne_nil _ _))]
    · rfl
  intro notice room started mode cannons held expired sprayed used count waiting n1 n2 n3 n4 n5 n6 n7 n8 joined
  set u := s.popFrame f rest with hu
  obtain ⟨line, water, marks, form, cannonMarks, ⟨recycled, fresh⟩, ops, wtr, met⟩ := u.offerRoom_form
  have slots : u.slots = room := s.popFrame_slots f rest
  have l1 : (u.framesBefore 1).length = n1 := (u.framesBefore_length_succ (n := 0) rfl).trans (Nat.zero_add _)
  have l2 : (u.framesBefore 2).length = n2 := (u.framesBefore_length_succ (n := 1) rfl).trans (by rw [l1]; rfl)
  have l3 : (u.framesBefore 3).length = n3 := (u.framesBefore_length_succ (n := 2) rfl).trans (by rw [l2]; rfl)
  have l4 : (u.framesBefore 4).length = n4 := (u.framesBefore_length_succ (n := 3) rfl).trans (by rw [l3]; rfl)
  have l5 : (u.framesBefore 5).length = n5 := (u.framesBefore_length_succ (n := 4) rfl).trans (by rw [l4]; rfl)
  have l6 : (u.framesBefore 6).length = n6 := (u.framesBefore_length_succ (n := 5) rfl).trans (by rw [l5]; rfl)
  have l7 : (u.framesBefore 7).length = n8 := (u.framesBefore_length_succ (n := 6) rfl).trans (by
    rw [l6, List.length_append, ← Nat.add_assoc]
    rfl)
  have frames : (u.framesBefore 8).take u.slots = joined := by
    rw [slots]
    refine congrArg (List.take room) ?_
    unfold State.framesBefore State.pendingFrames
    simp only [List.take_succ_cons, List.take_zero, List.flatten_cons, List.flatten_nil, List.append_nil, ← List.append_assoc]
    rfl
  have at_ : ∀ k n, (u.framesBefore k).length = n → u.roomAt k = room - n := fun k n h => by
    unfold State.roomAt
    rw [slots, h]
  have kept : ∀ m n, decide (m - n = 0) = decide (m ≤ n) := fun m n => decide_eq_decide.mpr Nat.sub_eq_zero_iff_le
  have keptAt : ∀ m n k, decide (m - n ≤ k) = decide (m ≤ n + k) := fun m n k => decide_eq_decide.mpr Nat.sub_le_iff_le_add'
  rw [at_ 6 n6 l6] at recycled
  rw [at_ 6 n6 l6, Nat.sub_sub] at fresh
  simp only [Nat.sub_pos_iff_lt] at recycled fresh
  rw [at_ 7 n8 l7, kept] at ops
  rw [at_ 7 n8 l7, keptAt] at wtr met
  refine ⟨u.offerRoom, execFrameSent_out bus out, ?_, ?_, ?_, ?_, fun i hi => ?_, ?_, ?_, ?_, ?_, ?_, ⟨?_, ?_, ?_⟩, ?_, ?_, ?_⟩
  · rw [form]
    rfl
  · rw [form, ← frames]
    rfl
  · rw [form, slots]
    rfl
  · rw [form, at_ 1 n1 l1, kept]
    rfl
  · have mark := cannonMarks i hi
    rw [at_ 2 n2 l2, keptAt] at mark
    rw [form]
    exact mark
  · rw [form, at_ 3 n3 l3]
    rfl
  · rw [form, at_ 4 n4 l4]
    rfl
  · rw [form, at_ 5 n5 l5]
    rfl
  · rw [form]
    change water.recycled.pendingUse = _
    rw [recycled, apply_ite Source.pendingUse]
    rfl
  · rw [form]
    change water.fresh.pendingUse = _
    rw [fresh, apply_ite Source.pendingUse]
    rfl
  · rw [form]
    exact ops
  · rw [form]
    exact wtr
  · rw [form]
    exact met
  · exact fun g hg => u.framesBefore_code 8 g (List.mem_of_mem_take (frames ▸ hg))
  · intro h
    have none : room = 0 := by
      change 20 - rest.length - (if s.port.long.isSome then 1 else 0) = 0
      omega
    exact (congrArg (List.take · _) none).trans List.take_zero
  · rw [form]
    refine ⟨rfl, rfl, rfl, rfl, rfl, rfl, rfl, rfl, rfl, rfl, rfl, rfl, rfl, rfl, ?_, ?_⟩
    · change water.recycled.balance = _
      rw [recycled, apply_ite Source.balance, ite_self]
      rfl
    · change water.fresh.balance = _
      rw [fresh, apply_ite Source.balance, ite_self]
      rfl

end Sys2Proof.Machine
end

section
/-! SUPPORT. The judgment of an order by the checks of R121 to R125, in the words of R71, R72, R21 and R122 to R125. -/

namespace Sys2Proof.Machine

/-! ### Mode, claim and cap -/

theorem State.modeGrants_iff (s : State) : s.modeGrants ↔ s.ctrl.mode.grants = true := by
  unfold State.modeGrants
  cases s.ctrl.mode <;> simp [Mode.grants]

theorem State.underClaim_iff (s : State) (b : Nat) : s.underClaim b ↔ s.claimed b = true := by
  unfold State.claimed
  rw [List.any_eq_true]
  exact ⟨fun ⟨e, he, h⟩ => ⟨e, he, decide_eq_true h⟩, fun ⟨e, he, h⟩ => ⟨e, he, of_decide_eq_true h⟩⟩

theorem State.underCap_iff (s : State) (b : Nat) : s.underCap b ↔ s.capped b = true := by
  unfold State.capped Bed.capped
  cases h : (s.bed b).hold with
  | none => simp [State.underCap, h]
  | some k =>
    refine ⟨fun ⟨_, e, room⟩ => ?_, fun room => ⟨k, h, of_decide_eq_true room⟩⟩
    cases h.symm.trans e
    exact decide_eq_true room

theorem State.bedPasses_iff (s : State) (b : Nat) :
    s.bedPasses b ↔ s.ctrl.mode.grants = true ∧ s.claimed b = false ∧ s.capped b = false := by
  unfold State.bedPasses
  rw [s.modeGrants_iff, s.underClaim_iff, s.underCap_iff, Bool.not_eq_true, Bool.not_eq_true]

/-! ### The source -/

theorem State.permitted_recycled (s : State) (o : Order) : s.permitted .recycled o.origin =
    if s.water.gate = .isOpen ∧ s.conf.vMin ≤ s.offerFor o .recycled then some (.recycled, s.offerFor o .recycled) else none := by
  have offer : s.offerOf .recycled o.origin = if s.water.gate = .isOpen then some (s.offerFor o .recycled) else none := by
    unfold State.offerFor State.offerOf
    cases o.origin <;> rfl
  unfold State.permitted
  rw [offer]
  by_cases gate : s.water.gate = .isOpen
  · rw [if_pos gate]
    simp only [gate, true_and]
  · rw [if_neg gate, if_neg (fun h => gate h.1)]

theorem State.permitted_fresh (s : State) (o : Order) : s.permitted .fresh o.origin =
    if o.urgent ∧ s.conf.vMin ≤ s.offerFor o .fresh then some (.fresh, s.offerFor o .fresh) else none := by
  have offer : s.offerOf .fresh o.origin = if o.urgent then some (s.offerFor o .fresh) else none := by
    unfold State.offerFor State.offerOf Order.urgent
    cases o.origin <;> rfl
  unfold State.permitted
  rw [offer]
  by_cases urgent : o.urgent
  · rw [if_pos urgent]
    simp only [urgent, true_and]
  · rw [if_neg urgent, if_neg (fun h => urgent h.1)]

/-- The source is chosen by the preference of an urgent order; of the others RECYCLED alone (R71, R72). -/
theorem State.chooseSource_eq (s : State) (o : Order) : s.chooseSource o.origin o.preference =
    if ¬o.urgent ∨ o.preference = .recycled then s.permitted .recycled o.origin
    else if o.preference = .fresh then s.permitted .fresh o.origin
    else match s.permitted .recycled o.origin with
      | some c => some c
      | none => s.permitted .fresh o.origin := by
  unfold State.chooseSource State.eitherSource Order.urgent
  cases o.origin <;> cases o.preference <;> simp <;> rfl

theorem State.chooseSource_given {s : State} {o : Order} {w : WaterSource} (h : s.givesWater o w) :
    s.chooseSource o.origin o.preference = some (w, s.offerFor o w) := by
  rw [s.chooseSource_eq, s.permitted_recycled, s.permitted_fresh]
  cases w with
  | recycled =>
    obtain ⟨gate, offer, preference⟩ : s.takesRecycled o := h
    by_cases first : ¬o.urgent ∨ o.preference = .recycled
    · rw [if_pos first, if_pos ⟨gate, offer⟩]
    · have other : o.preference ≠ .fresh := preference.resolve_left (fun n => first (.inl n))
      rw [if_neg first, if_neg other, if_pos ⟨gate, offer⟩]
  | fresh =>
    obtain ⟨urgent, offer, wanted⟩ : s.takesFresh o := h
    rcases wanted with fresh | ⟨any, no⟩
    · have later : ¬(¬o.urgent ∨ o.preference = .recycled) := fun e =>
        e.elim (fun n => n urgent) (fun e => by rw [fresh] at e; cases e)
      rw [if_neg later, if_pos fresh, if_pos ⟨urgent, offer⟩]
    · have later : ¬(¬o.urgent ∨ o.preference = .recycled) := fun e =>
        e.elim (fun n => n urgent) (fun e => by rw [any] at e; cases e)
      have other : o.preference ≠ .fresh := by rw [any]; decide
      rw [if_neg later, if_neg other, if_neg (fun e => no ⟨e.1, e.2, .inr other⟩), if_pos ⟨urgent, offer⟩]

theorem State.chooseSource_none {s : State} {o : Order} (h1 : ¬s.takesRecycled o) (h2 : ¬s.takesFresh o) :
    s.chooseSource o.origin o.preference = none := by
  rw [s.chooseSource_eq, s.permitted_recycled, s.permitted_fresh]
  by_cases first : ¬o.urgent ∨ o.preference = .recycled
  · rw [if_pos first, if_neg (fun e => h1 ⟨e.1, e.2, first.imp_right (fun e => by rw [e]; decide)⟩)]
  · have urgent : o.urgent := by_contra (fun n => first (.inl n))
    rw [if_neg first]
    by_cases fresh : o.preference = .fresh
    · rw [if_pos fresh, if_neg (fun e => h2 ⟨e.1, e.2, .inl fresh⟩)]
    · have any : o.preference = .any := by
        cases hp : o.preference with
        | any => rfl
        | recycled => exact absurd (.inr hp) first
        | fresh => exact absurd hp fresh
      rw [if_neg fresh, if_neg (fun e => h1 ⟨e.1, e.2, .inr fresh⟩), if_neg (fun e => h2 ⟨e.1, e.2, .inr ⟨any, h1⟩⟩)]

theorem State.givesWater_or (s : State) (o : Order) : (∃ w, s.givesWater o w) ↔ s.takesRecycled o ∨ s.takesFresh o := by
  constructor
  · rintro ⟨w, h⟩
    cases w with
    | recycled => exact .inl h
    | fresh => exact .inr h
  · rintro (h | h)
    · exact ⟨.recycled, h⟩
    · exact ⟨.fresh, h⟩

/-! ### The cannon -/

theorem State.cannonFits_iff (s : State) (c : Nat) : s.cannonFits c ↔ s.eligible c = true := by
  unfold State.cannonFits State.eligible
  simp [and_assoc]

/-- The rotated list is the numbered list from the cursor on, wrapping (R21). -/
theorem rotated_getElem? {list : List ListEntry} {c j : Nat} (hc : c < list.length) (hj : j < list.length) :
    (rotated list c)[j]? = (list[(c + j) % list.length]?).map (fun e => ((c + j) % list.length, e)) := by
  have length : ((List.range list.length).zip list).length = list.length := by simp
  have turned : rotated list c = ((List.range list.length).zip list).rotate c := by
    rw [List.rotate_eq_drop_append_take (by omega)]
    rfl
  have inside : (c + j) % list.length < list.length := Nat.mod_lt _ (by omega)
  rw [turned, List.getElem?_rotate (by omega), length, Nat.add_comm j c, List.getElem?_eq_getElem (by omega),
    List.getElem?_eq_getElem inside, Option.map_some, List.getElem_zip, List.getElem_range]

theorem rotated_length {list : List ListEntry} {c : Nat} : (rotated list c).length = list.length := by
  unfold rotated
  simp
  omega

/-- The first entry from the cursor on that is eligible and not SUSPECT, or else the first that is eligible (R21, R124). -/
theorem State.chooseCannon_eq (s : State) (b : Nat) : s.chooseCannon b =
    ((rotated (s.conf.cannonList b) (s.bed b).cursor).find?
      (fun e => s.eligible e.2.cannon && !(s.cannon e.2.cannon).suspect)).or
    ((rotated (s.conf.cannonList b) (s.bed b).cursor).find? (fun e => s.eligible e.2.cannon)) := by
  unfold State.chooseCannon
  dsimp only
  have both : (fun e : Nat × ListEntry => decide (s.eligible e.2.cannon = true ∧ (!(s.cannon e.2.cannon).suspect) = true)) =
      fun e => s.eligible e.2.cannon && !(s.cannon e.2.cannon).suspect := funext fun e => by simp
  rw [List.find?_filter, List.head?_filter, both]
  split
  · rename_i found
    rw [found]
    rfl
  · rename_i found
    rw [found]
    rfl

section
variable {s : State} {b : Nat} (hc : (s.bed b).cursor < (s.conf.cannonList b).length)
include hc

/-- The entry at a place of the rotated list is the entry as many places on from the cursor (R21). -/
theorem State.rotated_entry {j : Nat} (hj : j < (s.conf.cannonList b).length) :
    (rotated (s.conf.cannonList b) (s.bed b).cursor)[j]? =
      (s.entryAt b j).map (fun e => (((s.bed b).cursor + j) % (s.conf.cannonList b).length, e)) := rotated_getElem? hc hj

/-- Finding in the rotated list, by places from the cursor. -/
theorem State.find_rotated (p : ListEntry → Bool) {j : Nat} {e : ListEntry} (hj : j < (s.conf.cannonList b).length)
    (he : s.entryAt b j = some e) (hp : p e = true) (first : ∀ i d, i < j → s.entryAt b i = some d → p d = false) :
    (rotated (s.conf.cannonList b) (s.bed b).cursor).find? (fun x => p x.2) =
      some (((s.bed b).cursor + j) % (s.conf.cannonList b).length, e) := by
  have length := rotated_length (list := s.conf.cannonList b) (c := (s.bed b).cursor)
  have at_ := State.rotated_entry hc hj
  rw [he, Option.map_some, List.getElem?_eq_getElem (by omega)] at at_
  refine List.find?_eq_some_iff_getElem.mpr ⟨hp, j, by omega, Option.some.inj at_, fun i hi => ?_⟩
  have before := State.rotated_entry hc (hi.trans hj)
  rw [List.getElem?_eq_getElem (by omega)] at before
  obtain ⟨d, hd, same⟩ := Option.map_eq_some_iff.mp before.symm
  rw [← same, first i d hi hd]
  rfl

/-- Whatever is found in the rotated list is the first of its kind from the cursor on. -/
theorem State.rotated_found {p : ListEntry → Bool} {x : Nat × ListEntry}
    (h : (rotated (s.conf.cannonList b) (s.bed b).cursor).find? (fun x => p x.2) = some x) :
    ∃ j, j < (s.conf.cannonList b).length ∧ s.entryAt b j = some x.2 ∧ p x.2 = true ∧
      ∀ i d, i < j → s.entryAt b i = some d → p d = false := by
  have length := rotated_length (list := s.conf.cannonList b) (c := (s.bed b).cursor)
  obtain ⟨hp, j, hj, rfl, first⟩ := List.find?_eq_some_iff_getElem.mp h
  rw [length] at hj
  have entry : ∀ i (hi : i < (s.conf.cannonList b).length), s.entryAt b i =
      some ((rotated (s.conf.cannonList b) (s.bed b).cursor)[i]'(by omega)).2 := fun i hi => by
    have at_ := State.rotated_entry hc hi
    rw [List.getElem?_eq_getElem (by omega)] at at_
    obtain ⟨d, hd, same⟩ := Option.map_eq_some_iff.mp at_.symm
    rw [hd, ← same]
  refine ⟨j, hj, entry j hj, hp, fun i d hi hd => ?_⟩
  rw [entry i (hi.trans hj)] at hd
  rw [← Option.some.inj hd]
  simpa using first i hi

/-- Every entry of the list is some places on from the cursor. -/
theorem State.entryAt_of_mem {d : ListEntry} (hd : d ∈ s.conf.cannonList b) :
    ∃ i, i < (s.conf.cannonList b).length ∧ s.entryAt b i = some d := by
  obtain ⟨k, hk, rfl⟩ := List.getElem_of_mem hd
  set n := (s.conf.cannonList b).length
  have turn : ((s.bed b).cursor + (k + n - (s.bed b).cursor) % n) % n = k := by
    rw [Nat.add_mod_mod, show (s.bed b).cursor + (k + n - (s.bed b).cursor) = k + n by omega, Nat.add_mod_right, Nat.mod_eq_of_lt hk]
  refine ⟨(k + n - (s.bed b).cursor) % n, Nat.mod_lt _ (by omega), ?_⟩
  unfold State.entryAt
  rw [turn, List.getElem?_eq_getElem hk]

theorem State.chooseCannon_picks {j : Nat} {e : ListEntry} (h : s.picks b j e) :
    s.chooseCannon b = some (((s.bed b).cursor + j) % (s.conf.cannonList b).length, e) := by
  obtain ⟨hj, he, fits, rule⟩ := h
  have eligible := (s.cannonFits_iff e.cannon).mp fits
  have clear : ∀ d : ListEntry, (s.cannonFits d.cannon → (s.cannon d.cannon).suspect = true) →
      (s.eligible d.cannon && !(s.cannon d.cannon).suspect) = false := fun d hd => by
    cases hel : s.eligible d.cannon with
    | false => rfl
    | true => rw [hd ((s.cannonFits_iff _).mpr hel)]; rfl
  rw [s.chooseCannon_eq]
  rcases rule with ⟨sound, first⟩ | ⟨suspects, first⟩
  · rw [State.find_rotated hc (fun d => s.eligible d.cannon && !(s.cannon d.cannon).suspect) hj he
      (by rw [eligible, sound]; rfl) (fun i d hi hd => clear d (first i d hi hd))]
    rfl
  · have none : (rotated (s.conf.cannonList b) (s.bed b).cursor).find?
        (fun x => s.eligible x.2.cannon && !(s.cannon x.2.cannon).suspect) = none := by
      rw [List.find?_eq_none]
      intro x hx
      obtain ⟨i, hi, rfl⟩ := List.getElem_of_mem hx
      rw [rotated_length] at hi
      have at_ := State.rotated_entry hc hi
      rw [List.getElem?_eq_getElem (by rwa [rotated_length])] at at_
      obtain ⟨d, hd, same⟩ := Option.map_eq_some_iff.mp at_.symm
      rw [← same, clear d (suspects d (List.mem_of_getElem? hd))]
      exact Bool.false_ne_true
    rw [none, State.find_rotated hc (fun d => s.eligible d.cannon) hj he eligible
      (fun i d hi hd => by
        rw [← Bool.not_eq_true, ← s.cannonFits_iff]
        exact first i d hi hd)]
    rfl

theorem State.rotated_unfound {p : ListEntry → Bool}
    (h : (rotated (s.conf.cannonList b) (s.bed b).cursor).find? (fun x => p x.2) = none) {d : ListEntry}
    (hd : d ∈ s.conf.cannonList b) : p d = false := by
  obtain ⟨i, hi, entry⟩ := State.entryAt_of_mem hc hd
  have at_ := State.rotated_entry hc hi
  rw [entry, Option.map_some] at at_
  simpa using List.find?_eq_none.mp h _ (List.mem_of_getElem? at_)

/-- Some entry is picked, or none is eligible (R21, R124). -/
theorem State.picks_or : (∃ j e, s.picks b j e) ∨ ∀ e ∈ s.conf.cannonList b, ¬s.cannonFits e.cannon := by
  have unfit : ∀ d : ListEntry, s.eligible d.cannon = false → ¬s.cannonFits d.cannon := fun d hd fits => by
    rw [(s.cannonFits_iff _).mp fits] at hd
    cases hd
  cases sound : (rotated (s.conf.cannonList b) (s.bed b).cursor).find?
      (fun x => s.eligible x.2.cannon && !(s.cannon x.2.cannon).suspect) with
  | some x =>
    obtain ⟨j, hj, entry, hp, first⟩ := State.rotated_found hc
      (p := fun d => s.eligible d.cannon && !(s.cannon d.cannon).suspect) sound
    simp only [Bool.and_eq_true, Bool.not_eq_true'] at hp
    refine .inl ⟨j, x.2, hj, entry, (s.cannonFits_iff _).mpr hp.1, .inl ⟨hp.2, fun i d hi hd fits => ?_⟩⟩
    have before := first i d hi hd
    rw [(s.cannonFits_iff _).mp fits, Bool.true_and] at before
    simpa using before
  | none =>
    have suspects : ∀ d ∈ s.conf.cannonList b, s.cannonFits d.cannon → (s.cannon d.cannon).suspect = true := fun d hd fits => by
      have none := State.rotated_unfound hc (p := fun d => s.eligible d.cannon && !(s.cannon d.cannon).suspect) sound hd
      rw [(s.cannonFits_iff _).mp fits, Bool.true_and] at none
      simpa using none
    cases fit : (rotated (s.conf.cannonList b) (s.bed b).cursor).find? (fun x => s.eligible x.2.cannon) with
    | some x =>
      obtain ⟨j, hj, entry, hp, first⟩ := State.rotated_found hc (p := fun d => s.eligible d.cannon) fit
      exact .inl ⟨j, x.2, hj, entry, (s.cannonFits_iff _).mpr hp,
        .inr ⟨suspects, fun i d hi hd => unfit d (first i d hi hd)⟩⟩
    | none => exact .inr fun d hd => unfit d (State.rotated_unfound hc (p := fun d => s.eligible d.cannon) fit hd)

end

theorem State.chooseCannon_none {s : State} {b : Nat} (h : ∀ e ∈ s.conf.cannonList b, ¬s.cannonFits e.cannon) :
    s.chooseCannon b = none := by
  have none : ∀ x ∈ rotated (s.conf.cannonList b) (s.bed b).cursor, s.eligible x.2.cannon = false := fun x hx => by
    have mem : x ∈ (List.range (s.conf.cannonList b).length).zip (s.conf.cannonList b) := by
      rcases List.mem_append.mp hx with h | h
      · exact List.mem_of_mem_drop h
      · exact List.mem_of_mem_take h
    rw [← Bool.not_eq_true, ← s.cannonFits_iff]
    exact h x.2 (List.of_mem_zip mem).2
  rw [s.chooseCannon_eq, List.find?_eq_none.mpr (fun x hx => by simp [none x hx]),
    List.find?_eq_none.mpr (fun x hx => by simp [none x hx])]
  rfl

/-! ### The judgment -/

theorem State.headerTakes_iff (s : State) (c : Nat) : s.headerTakes c ↔ s.hasCapacity c = true :=
  (s.headerFits_iff _ _).symm

/-- The award of an order that passes every check. -/
def State.award (s : State) (o : Order) (w : WaterSource) (j : Nat) (e : ListEntry) : Award :=
  ⟨w, s.offerFor o w, ((s.bed o.bed).cursor + j) % (s.conf.cannonList o.bed).length, e⟩

/-- The judgment of an order whose bed passes the first three checks. -/
theorem State.judgeOrder_passing {s : State} {o : Order} (h : s.bedPasses o.bed) : s.judgeOrder o =
    match s.chooseSource o.origin o.preference with
    | none => .error .water
    | some (w, offer) => match s.chooseCannon o.bed with
      | none => .error .cannon
      | some (i, e) => if s.hasCapacity e.cannon then .ok ⟨w, offer, i, e⟩ else .error .capacity := by
  obtain ⟨mode, claim, cap⟩ := (s.bedPasses_iff o.bed).mp h
  unfold State.judgeOrder
  rw [mode, claim, cap]
  rfl

section
variable {s : State} {o : Order} (hc : (s.bed o.bed).cursor < (s.conf.cannonList o.bed).length)
include hc

theorem State.judgeOrder_passes {w : WaterSource} {j : Nat} {e : ListEntry} (h : s.passesChecks o w j e) :
    s.judgeOrder o = .ok (s.award o w j e) := by
  obtain ⟨bed, water, picks, header⟩ := h
  rw [State.judgeOrder_passing bed, State.chooseSource_given water, State.chooseCannon_picks hc picks]
  exact if_pos ((s.headerTakes_iff _).mp header)

theorem State.judgeOrder_fails {k : Block} (h : s.failsCheck o k) : s.judgeOrder o = .error k := by
  have watered : s.takesRecycled o ∨ s.takesFresh o → ∃ w n, s.chooseSource o.origin o.preference = some (w, n) := fun h => by
    obtain ⟨w, given⟩ := (s.givesWater_or o).mpr h
    exact ⟨w, _, State.chooseSource_given given⟩
  cases k with
  | mode =>
    have mode : s.ctrl.mode.grants = false := by
      rw [← Bool.not_eq_true, ← s.modeGrants_iff]
      exact h
    unfold State.judgeOrder
    rw [mode]
    rfl
  | zone =>
    unfold State.judgeOrder
    rw [(s.modeGrants_iff).mp h.1, (s.underClaim_iff _).mp h.2]
    rfl
  | cap =>
    have claim : s.claimed o.bed = false := by
      rw [← Bool.not_eq_true, ← s.underClaim_iff]
      exact h.2.1
    unfold State.judgeOrder
    rw [(s.modeGrants_iff).mp h.1, claim, (s.underCap_iff _).mp h.2.2]
    rfl
  | water =>
    obtain ⟨bed, recycled, fresh⟩ := h
    rw [State.judgeOrder_passing bed, State.chooseSource_none recycled fresh]
  | cannon =>
    obtain ⟨bed, water, unfit⟩ := h
    obtain ⟨w, n, chosen⟩ := watered water
    rw [State.judgeOrder_passing bed, chosen, State.chooseCannon_none unfit]
  | capacity =>
    obtain ⟨bed, water, j, e, picks, header⟩ := h
    obtain ⟨w, n, chosen⟩ := watered water
    rw [State.judgeOrder_passing bed, chosen, State.chooseCannon_picks hc picks]
    exact if_neg (mt (s.headerTakes_iff _).mpr header)

/-- Every order fails a check or passes them all (R121 to R125). -/
theorem State.fails_or_passes : (∃ k, s.failsCheck o k) ∨ ∃ w j e, s.passesChecks o w j e := by
  by_cases mode : s.modeGrants
  · by_cases claim : s.underClaim o.bed
    · exact .inl ⟨.zone, mode, claim⟩
    · by_cases cap : s.underCap o.bed
      · exact .inl ⟨.cap, mode, claim, cap⟩
      · have bed : s.bedPasses o.bed := ⟨mode, claim, cap⟩
        by_cases water : s.takesRecycled o ∨ s.takesFresh o
        · obtain ⟨w, given⟩ := (s.givesWater_or o).mpr water
          rcases State.picks_or hc with ⟨j, e, picks⟩ | unfit
          · by_cases header : s.headerTakes e.cannon
            · exact .inr ⟨w, j, e, bed, given, picks, header⟩
            · exact .inl ⟨.capacity, bed, water, j, e, picks, header⟩
          · exact .inl ⟨.cannon, bed, water, unfit⟩
        · exact .inl ⟨.water, bed, not_or.mp water⟩
  · exact .inl ⟨.mode, mode⟩

end

end Sys2Proof.Machine
end

section
/-! SUPPORT. The scans of a dispatch attempt (R121): judgments leave the state as it was but for what they write in the waiting
orders, and the last scan writes them all. -/

namespace Sys2Proof.Machine

/-! ### States alike but for the blocked-by of waiting orders -/

/-- An order without what a scan's judgment writes into it (R121). -/
def Order.unjudged (o : Order) : Order := { o with blocked := if o.state = .waiting then none else o.blocked }

theorem Order.unjudged_inStart {o : Order} (h : o.inStart = true) : o.unjudged = o := by
  have started : o.state ≠ .waiting := by simpa [Order.inStart] using h
  unfold Order.unjudged
  rw [if_neg started]

/-- A judgment leaves an order's bed, state and start. -/
theorem Order.unjudged_eq {o q : Order} (h : o.unjudged = q.unjudged) : o.bed = q.bed ∧ o.state = q.state ∧ o.start = q.start := by
  unfold Order.unjudged at h
  cases o
  cases q
  simp_all

/-- The judgment of an order does not read what an earlier one wrote. -/
theorem State.judgeOrder_unjudged (s : State) (o : Order) : s.judgeOrder o.unjudged = s.judgeOrder o := rfl

theorem State.judgeOrder_of_unjudged (s : State) {o q : Order} (h : o.unjudged = q.unjudged) : s.judgeOrder o = s.judgeOrder q := by
  rw [← s.judgeOrder_unjudged o, h, s.judgeOrder_unjudged]

/-- Two states that differ at most in the blocked-by of waiting orders and the places of orders in the queue. -/
structure Alike (s t : State) : Prop where
  rest : t = { s with disp := { s.disp with orders := t.disp.orders } }
  orders : (t.disp.orders.map Order.unjudged).Perm (s.disp.orders.map Order.unjudged)

namespace Alike

theorem refl (s : State) : Alike s s := ⟨rfl, .refl _⟩

theorem symm {s t : State} (h : Alike s t) : Alike t s := ⟨by rw [h.rest], h.orders.symm⟩

theorem trans {s t u : State} (h1 : Alike s t) (h2 : Alike t u) : Alike s u :=
  ⟨by rw [h2.rest, h1.rest], h2.orders.trans h1.orders⟩

variable {s t : State} (h : Alike s t)
include h

theorem mem {o : Order} (ho : o ∈ t.disp.orders) : ∃ q ∈ s.disp.orders, q.unjudged = o.unjudged :=
  List.mem_map.mp (h.orders.subset (List.mem_map_of_mem ho))

theorem beds : (t.disp.orders.map Order.bed).Perm (s.disp.orders.map Order.bed) := by
  have same : Order.bed ∘ Order.unjudged = Order.bed := rfl
  have perm := h.orders.map Order.bed
  rwa [List.map_map, List.map_map, same] at perm

theorem startLaw (law : s.startLaw) : t.startLaw := by
  refine ⟨h.beds.nodup_iff.mpr law.one, fun o ho => ?_⟩
  obtain ⟨q, hq, e⟩ := h.mem ho
  obtain ⟨-, state, start⟩ := Order.unjudged_eq e
  rw [← start, ← state]
  exact law.starts q hq

/-- The order of a bed stands in both. -/
theorem order (law : s.startLaw) {b : Nat} {o : Order} (ho : t.order b = some o) :
    ∃ q, s.order b = some q ∧ q.unjudged = o.unjudged := by
  obtain ⟨mem, rfl⟩ := State.order_mem ho
  obtain ⟨q, hq, e⟩ := h.mem mem
  obtain ⟨bed, -⟩ := Order.unjudged_eq e
  exact ⟨q, bed ▸ State.order_of_mem law.one hq, e⟩

theorem startedOrders : t.startedOrders.Perm s.startedOrders := by
  have same : ∀ l : List Order, l.filter Order.inStart = (l.map Order.unjudged).filter Order.inStart := fun l => by
    rw [List.filter_map]
    have kept : Order.inStart ∘ Order.unjudged = Order.inStart := rfl
    rw [kept]
    conv_lhs => rw [← List.map_id (l.filter Order.inStart)]
    exact List.map_congr_left fun o ho => (Order.unjudged_inStart (List.mem_filter.mp ho).2).symm
  unfold State.startedOrders
  rw [same t.disp.orders, same s.disp.orders]
  exact h.orders.filter _

theorem eligible (c : Nat) : t.eligible c = s.eligible c := by
  have free : (t.startOn c).isNone = (s.startOn c).isNone := by
    have one : ∀ {u v : State}, Alike u v → (u.startOn c).isNone = true → (v.startOn c).isNone = true := fun {u v} k hu => by
      unfold State.startOn at hu ⊢
      rw [Option.isNone_iff_eq_none, List.find?_eq_none] at hu ⊢
      intro o ho
      obtain ⟨q, hq, e⟩ := k.mem ho
      obtain ⟨-, -, start⟩ := Order.unjudged_eq e
      rw [← start]
      exact hu q hq
    exact Bool.eq_iff_iff.mpr ⟨one h.symm, one h⟩
  have line : t.line = s.line := by rw [h.rest]
  have conf : t.conf = s.conf := by rw [h.rest]
  unfold State.eligible
  rw [free, line, conf, State.cannon_congr (congrArg Line.cannons line)]

theorem hasCapacity (c : Nat) : t.hasCapacity c = s.hasCapacity c := by
  have flow : t.flowSum t.startedOrders = s.flowSum s.startedOrders := by
    have flows : t.flowOf = s.flowOf := by rw [h.rest]; rfl
    unfold State.flowSum
    rw [flows]
    exact (h.startedOrders.map _).sum_eq
  have fits : ∀ m n, t.headerFits m n = s.headerFits m n := fun m n => by rw [h.rest]; rfl
  have conf : t.conf = s.conf := by rw [h.rest]
  unfold State.hasCapacity
  rw [fits, flow, h.startedOrders.length_eq, conf]

/-- The judgment of an order is the same in both (R122 to R125). -/
theorem judgeOrder (o : Order) : t.judgeOrder o = s.judgeOrder o := by
  have ctrl : t.ctrl = s.ctrl := by rw [h.rest]
  have claimed : t.claimed o.bed = s.claimed o.bed := by rw [h.rest]; rfl
  have capped : t.capped o.bed = s.capped o.bed := by rw [h.rest]; rfl
  have source : t.chooseSource o.origin o.preference = s.chooseSource o.origin o.preference := by rw [h.rest]; rfl
  have cannon : t.chooseCannon o.bed = s.chooseCannon o.bed := by
    have conf : t.conf = s.conf := by rw [h.rest]
    have beds : t.bed o.bed = s.bed o.bed := by rw [h.rest]; rfl
    have cannons : t.cannon = s.cannon := by rw [h.rest]; rfl
    have fits : t.eligible = s.eligible := funext h.eligible
    unfold State.chooseCannon
    rw [conf, beds, cannons, fits]
  have capacity : t.hasCapacity = s.hasCapacity := funext h.hasCapacity
  unfold State.judgeOrder
  rw [ctrl, claimed, capped, source, cannon, capacity]

end Alike

/-! ### One judgment -/

theorem Alike.writeBlock {s : State} {b : Nat} {o : Order} (law : s.startLaw) (ho : s.order b = some o)
    (hw : o.state = .waiting) (k : Block) : Alike s (s.writeBlock o k) := by
  refine ⟨rfl, ?_⟩
  have same : ({ o with blocked := some k } : Order).unjudged = o.unjudged := by
    unfold Order.unjudged
    rw [if_pos hw, if_pos hw]
  have put := ((insertOrder_perm { o with blocked := some k } (ordersWithout o.bed s.disp.orders)).map Order.unjudged).trans
    (.refl _)
  rw [List.map_cons, same, ← List.map_cons] at put
  exact put.trans ((perm_cons_ordersWithout law.one (State.order_mem ho).1).map Order.unjudged).symm

/-- The waiting orders on some beds carry the check they fail (R121). -/
def State.settledOn (s : State) (l : List Nat) : Prop :=
  ∀ o ∈ s.disp.orders, o.state = .waiting → o.bed ∈ l → ∃ k, s.judgeOrder o = .error k ∧ o.blocked = some k

/-- Every waiting order carries the check it fails (R121). -/
def State.allJudged (s : State) : Prop :=
  ∀ o ∈ s.disp.orders, o.state = .waiting → ∃ k, s.judgeOrder o = .error k ∧ o.blocked = some k

theorem State.settledOn.writeBlock {s : State} {l : List Nat} (h : s.settledOn l) (law : s.startLaw) {b : Nat} {o : Order}
    (ho : s.order b = some o) (hw : o.state = .waiting) {k : Block} (hk : s.judgeOrder o = .error k) :
    (s.writeBlock o k).settledOn (l ++ [b]) := by
  have alike := Alike.writeBlock law ho hw k
  obtain ⟨mem, rfl⟩ := State.order_mem ho
  intro q hq waiting hb
  rw [alike.judgeOrder]
  rcases State.mem_putOrder.mp hq with rfl | ⟨hq, hne⟩
  · exact ⟨k, hk, rfl⟩
  · refine h q hq waiting ?_
    rcases List.mem_append.mp hb with hb | hb
    · exact hb
    · exact absurd (List.mem_singleton.mp hb) hne

/-! ### One scan -/

section
variable {s : State} {b : Nat} (rest : List Nat)

theorem scan_skips (h : ∀ o, s.order b = some o → o.state ≠ .waiting) : scan (b :: rest) s = scan rest s := by
  conv_lhs => unfold scan
  cases ho : s.order b with
  | none => rfl
  | some o => exact if_neg (h o ho)

variable {o : Order} (ho : s.order b = some o) (hw : o.state = .waiting)
include ho hw

theorem scan_grants {a : Award} (hk : s.judgeOrder o = .ok a) : scan (b :: rest) s = (s.grant o a, true) := by
  unfold scan
  rw [ho]
  dsimp only
  rw [if_pos hw, hk]

theorem scan_blocks {k : Block} (hk : s.judgeOrder o = .error k) : scan (b :: rest) s = scan rest (s.writeBlock o k) := by
  conv_lhs => unfold scan
  rw [ho]
  dsimp only
  rw [if_pos hw, hk]

end

/-- A scan grants nothing and writes its beds' orders, or ends with the grant of an order that passes (R121). -/
theorem scan_cases (l : List Nat) : ∀ (s : State) (done : List Nat), s.startLaw → s.settledOn done →
    ((scan l s).2 = false ∧ Alike s (scan l s).1 ∧ (scan l s).1.settledOn (done ++ l)) ∨
      ∃ u b o a, scan l s = (u.grant o a, true) ∧ Alike s u ∧ u.order b = some o ∧ o.state = .waiting ∧ u.judgeOrder o = .ok a := by
  induction l with
  | nil => exact fun s done _ h => .inl ⟨rfl, .refl s, by rw [List.append_nil]; exact h⟩
  | cons b rest ih =>
    intro s done law h
    by_cases waits : ∃ o, s.order b = some o ∧ o.state = .waiting
    · obtain ⟨o, ho, hw⟩ := waits
      cases hk : s.judgeOrder o with
      | ok a => exact .inr ⟨s, b, o, a, scan_grants rest ho hw hk, .refl s, ho, hw, hk⟩
      | error k =>
        have alike := Alike.writeBlock law ho hw k
        have next := ih _ _ (alike.startLaw law) (h.writeBlock law ho hw hk)
        rw [List.append_assoc, List.singleton_append] at next
        rw [scan_blocks rest ho hw hk]
        rcases next with ⟨flag, after, settled⟩ | ⟨u, b', q, a, e, after, hq⟩
        · exact .inl ⟨flag, alike.trans after, settled⟩
        · exact .inr ⟨u, b', q, a, e, alike.trans after, hq⟩
    · have none : ∀ o, s.order b = some o → o.state ≠ .waiting := fun o ho hw => waits ⟨o, ho, hw⟩
      have more : s.settledOn (done ++ [b]) := fun o ho hw hb => by
        rcases List.mem_append.mp hb with hb | hb
        · exact h o ho hw hb
        · exact absurd hw (none o (List.mem_singleton.mp hb ▸ State.order_of_mem law.one ho))
      have next := ih s (done ++ [b]) law more
      rw [List.append_assoc, List.singleton_append] at next
      rw [scan_skips rest none]
      exact next

end Sys2Proof.Machine
end

section
/-! SUPPORT. The attempt's scans to their end (R121): each grant takes an order out of WAITING, and what the last scan leaves does
not depend on what the earlier ones wrote. -/

namespace Sys2Proof.Machine

/-! ### Waiting orders and grants -/

/-- How many orders wait. -/
def State.waitingCount (s : State) : Nat := s.disp.orders.countP (fun o => o.state == .waiting)

theorem Alike.waitingCount {s t : State} (h : Alike s t) : t.waitingCount = s.waitingCount := by
  have same : ∀ l : List Order, l.countP (fun o => o.state == .waiting) =
      (l.map Order.unjudged).countP (fun o => o.state == .waiting) := fun l => by
    rw [List.countP_map]
    rfl
  unfold State.waitingCount
  rw [same t.disp.orders, same s.disp.orders]
  exact h.orders.countP_eq _

theorem State.grant_waitingCount {s : State} {b : Nat} {o : Order} (law : s.startLaw) (ho : s.order b = some o)
    (hw : o.state = .waiting) (a : Award) : (s.grant o a).waitingCount + 1 = s.waitingCount := by
  have after := (insertOrder_perm (s.granted o a) (ordersWithout o.bed s.disp.orders)).countP_eq (fun o => o.state == .waiting)
  have before := (perm_cons_ordersWithout law.one (State.order_mem ho).1).countP_eq (fun o => o.state == .waiting)
  unfold State.waitingCount
  rw [State.grant_orders, after, before, List.countP_cons, List.countP_cons, hw]
  simp [State.granted]

/-- Orders alike but for what a judgment writes differ in nothing but the blocked-by. -/
theorem Order.eq_of_unjudged {o q : Order} (h : o.unjudged = q.unjudged) : q = { o with blocked := q.blocked } := by
  unfold Order.unjudged at h
  cases o
  cases q
  simp_all

theorem Alike.grant {s t : State} {o q : Order} (h : Alike s t) (e : o.unjudged = q.unjudged)
    (a : Award) : Alike (s.grant o a) (t.grant q a) := by
  have same := Order.eq_of_unjudged e
  have granted : t.granted q a = s.granted o a := by
    rw [h.rest, same]
    rfl
  have left : (ordersWithout q.bed t.disp.orders).map Order.unjudged |>.Perm
      ((ordersWithout o.bed s.disp.orders).map Order.unjudged) := by
    have filtered : ∀ (b : Nat) (l : List Order), (ordersWithout b l).map Order.unjudged = ordersWithout b (l.map Order.unjudged) :=
      fun b l => by
        unfold ordersWithout
        rw [List.filter_map]
        rfl
    rw [filtered, filtered, (Order.unjudged_eq e).1]
    exact h.orders.filter _
  refine ⟨?_, ?_⟩
  · have form : ∀ l : List Order, ({ s with disp := { s.disp with orders := l } } : State).grant { o with blocked := q.blocked } a =
        { s.grant o a with disp := { (s.grant o a).disp with orders := (({ s with disp := { s.disp with orders := l } } : State).grant
          { o with blocked := q.blocked } a).disp.orders } } := fun _ => by
      obtain ⟨w, n, i, e⟩ := a
      cases w <;> rfl
    rw [same, h.rest]
    exact form t.disp.orders
  · rw [State.grant_orders, State.grant_orders, granted]
    have put := fun l : List Order => (insertOrder_perm (s.granted o a) l).map Order.unjudged
    exact (put _).trans ((left.cons _).trans (put _).symm)

/-! ### The queue keeps its order -/

/-- The queue stands in its order (R113). -/
def State.inQueue (s : State) : Prop := s.disp.orders.Pairwise (fun a b => a.before b = true)

theorem State.inQueue_of_law {s : State} (h : s.queueOrderLaw) : s.inQueue := h.1.imp fun ab => decide_eq_true ab

theorem before_asymm {a b : Order} (h : a.before b = true) : b.before a = false := by
  unfold Order.before at h ⊢
  rw [decide_eq_true_iff] at h
  rw [decide_eq_false_iff_not]
  omega

/-- An order rewritten in its place in the queue (R113). -/
def replaced (b : Nat) (p : Order) (l : List Order) : List Order := l.map (fun q => if q.bed = b then p else q)

theorem replaced_of_not_mem {b : Nat} {l : List Order} (h : b ∉ l.map Order.bed) (p : Order) : replaced b p l = l := by
  unfold replaced
  conv_rhs => rw [← List.map_id l]
  refine List.map_congr_left fun q hq => if_neg fun e : q.bed = b => h (e ▸ List.mem_map_of_mem hq)

theorem ordersWithout_of_not_mem {b : Nat} {l : List Order} (h : b ∉ l.map Order.bed) : ordersWithout b l = l :=
  List.filter_eq_self.mpr fun q hq => by
    rw [bne_iff_ne]
    exact fun e => h (e ▸ List.mem_map_of_mem hq)

/-- Written with its priority and creation as they were, an order stands in its place (R113). -/
theorem insertOrder_in_place {o p : Order} (key : ∀ q, p.before q = o.before q) (l : List Order)
    (sorted : l.Pairwise (fun a b => a.before b = true)) (one : (l.map Order.bed).Nodup) (ho : o ∈ l) :
    insertOrder p (ordersWithout o.bed l) = replaced o.bed p l := by
  induction l with
  | nil => exact absurd ho List.not_mem_nil
  | cons x rest ih =>
    obtain ⟨first, sorted⟩ := List.pairwise_cons.mp sorted
    obtain ⟨alone, one⟩ := List.nodup_cons.mp one
    rcases List.mem_cons.mp ho with rfl | ho
    · have without : ordersWithout o.bed (o :: rest) = rest := by
        rw [← ordersWithout_of_not_mem alone]
        unfold ordersWithout
        simp
      have put : insertOrder p rest = p :: rest := by
        cases rest with
        | nil => rfl
        | cons y tail => exact if_pos ((key y).trans (first y (List.mem_cons_self ..)))
      have rest' := replaced_of_not_mem alone p
      unfold replaced at rest' ⊢
      rw [without, put, List.map_cons, if_pos rfl, rest']
    · have other : x.bed ≠ o.bed := fun e => alone (e ▸ List.mem_map_of_mem ho)
      have without : ordersWithout o.bed (x :: rest) = x :: ordersWithout o.bed rest := by
        unfold ordersWithout
        rw [List.filter_cons, if_pos (bne_iff_ne.mpr other)]
      have behind : p.before x = false := (key x).trans (before_asymm (first o ho))
      have step : insertOrder p (x :: ordersWithout o.bed rest) = x :: insertOrder p (ordersWithout o.bed rest) := by
        conv_lhs => unfold insertOrder
        rw [if_neg (by rw [behind]; exact Bool.false_ne_true)]
      rw [without, step, ih sorted one ho]
      unfold replaced
      rw [List.map_cons, if_neg other]

theorem replaced_sorted {o p : Order} (key : ∀ q, p.before q = o.before q) (key' : ∀ q : Order, q.before p = q.before o)
    {l : List Order} (one : (l.map Order.bed).Nodup) (ho : o ∈ l) (sorted : l.Pairwise (fun a b => a.before b = true)) :
    (replaced o.bed p l).Pairwise (fun a b => a.before b = true) := by
  unfold replaced
  rw [List.pairwise_map]
  refine sorted.imp_of_mem fun {a b} ha hb h => ?_
  have own : ∀ q ∈ l, q.bed = o.bed → q = o := fun q hq e => by
    exact List.inj_on_of_nodup_map one hq ho e
  by_cases ea : a.bed = o.bed
  · rw [own a ha ea] at h
    rw [if_pos ea, key]
    by_cases eb : b.bed = o.bed
    · rw [own b hb eb] at h
      rwa [if_pos eb, key']
    · rwa [if_neg eb]
  · rw [if_neg ea]
    by_cases eb : b.bed = o.bed
    · rw [own b hb eb] at h
      rwa [if_pos eb, key']
    · rwa [if_neg eb]

section
variable {s : State} {b : Nat} {o : Order} (law : s.startLaw) (queue : s.inQueue) (ho : s.order b = some o)
include law queue ho

theorem State.writeBlock_replaced (k : Block) :
    (s.writeBlock o k).disp.orders = replaced o.bed { o with blocked := some k } s.disp.orders :=
  insertOrder_in_place (o := o) (p := { o with blocked := some k }) (fun _ => rfl) _ queue law.one (State.order_mem ho).1

theorem State.grant_replaced (a : Award) : (s.grant o a).disp.orders = replaced o.bed (s.granted o a) s.disp.orders := by
  rw [State.grant_orders]
  exact insertOrder_in_place (o := o) (p := s.granted o a) (fun _ => rfl) _ queue law.one (State.order_mem ho).1

theorem State.writeBlock_inQueue (k : Block) : (s.writeBlock o k).inQueue := by
  unfold State.inQueue
  rw [State.writeBlock_replaced law queue ho]
  exact replaced_sorted (o := o) (p := { o with blocked := some k }) (fun _ => rfl) (fun _ => rfl) law.one (State.order_mem ho).1 queue

theorem State.grant_inQueue (a : Award) : (s.grant o a).inQueue := by
  unfold State.inQueue
  rw [State.grant_replaced law queue ho]
  exact replaced_sorted (o := o) (p := s.granted o a) (fun _ => rfl) (fun _ => rfl) law.one (State.order_mem ho).1 queue

end

/-- One start rule and a queue in order. -/
def State.ordered (s : State) : Prop := s.startLaw ∧ s.inQueue

theorem State.ordered.writeBlock {s : State} {b : Nat} {o : Order} (ho : s.order b = some o) (h : s.ordered) (k : Block) :
    (s.writeBlock o k).ordered :=
  ⟨(Moves.put (A := fun _ _ => False) (P := True) ho { o with blocked := some k } rfl .rfl rfl).startLaw h.1,
    State.writeBlock_inQueue h.1 h.2 ho k⟩

theorem State.ordered.grant {s : State} {b : Nat} {o : Order} (ho : s.order b = some o) (h : s.ordered) (a : Award) :
    (s.grant o a).ordered := ⟨State.grant_startLaw h.1, State.grant_inQueue h.1 h.2 ho a⟩

/-- A scan keeps the queue in order. -/
theorem scan_ordered (l : List Nat) (s : State) (h : s.ordered) : (scan l s).1.ordered :=
  scan_keeps State.ordered (fun _ _ _ k ho h => State.ordered.writeBlock ho h k) (fun _ _ _ a ho _ _ h => State.ordered.grant ho h a) l s h

theorem scans_ordered (n : Nat) (s : State) (h : s.ordered) : (scans n s).ordered :=
  scans_keeps State.ordered (fun _ _ _ k ho h => State.ordered.writeBlock ho h k) (fun _ _ _ a ho _ _ h => State.ordered.grant ho h a) n s h

/-! ### The last scan -/

theorem State.allJudged_of_settledOn {s u : State} (alike : Alike s u) (h : u.settledOn (s.disp.orders.map Order.bed)) : u.allJudged :=
  fun o ho hw => h o ho hw (alike.beds.subset (List.mem_map_of_mem ho))

theorem State.waitingCount_le (s : State) : s.waitingCount ≤ s.disp.orders.length := List.countP_le_length

/-- With a scan for each waiting order and one more, the last scan grants nothing: every order left waiting carries the check it
fails (R121). -/
theorem scans_allJudged (n : Nat) : ∀ s : State, s.startLaw → s.waitingCount < n → (scans n s).allJudged := by
  induction n with
  | zero => exact fun s _ h => absurd h (Nat.not_lt_zero _)
  | succ n ih =>
    intro s law count
    unfold scans
    dsimp only
    rcases scan_cases (s.disp.orders.map Order.bed) s [] law (fun _ _ _ h => absurd h List.not_mem_nil) with
      ⟨flag, alike, settled⟩ | ⟨u, b, o, a, form, alike, ho, hw, hk⟩
    · rw [flag, if_neg Bool.false_ne_true]
      exact State.allJudged_of_settledOn alike settled
    · rw [form, if_pos rfl]
      have ulaw := alike.startLaw law
      have fewer := State.grant_waitingCount ulaw ho hw a
      rw [alike.waitingCount] at fewer
      exact ih (u.grant o a) (State.grant_startLaw ulaw) (by omega)

end Sys2Proof.Machine
end

section
/-! SUPPORT. What an attempt's scans leave does not depend on what earlier judgments wrote; nor on the judgments of the orders
ahead of the first that passes (R121). -/

namespace Sys2Proof.Machine

/-! ### An order judged -/

/-- A waiting order with the check it fails written in it; any other order as it stands (R121). -/
def State.judged (s : State) (o : Order) : Order :=
  if o.state = .waiting then
    match s.judgeOrder o with
    | .error k => { o with blocked := some k }
    | .ok _ => o
  else o

theorem State.judged_of_not_waiting (s : State) {o : Order} (h : o.state ≠ .waiting) : s.judged o = o := if_neg h

theorem State.judged_of_error {s : State} {o : Order} (h : o.state = .waiting) {k : Block} (hk : s.judgeOrder o = .error k) :
    s.judged o = { o with blocked := some k } := by
  unfold State.judged
  rw [if_pos h, hk]

theorem Alike.judged {s t : State} (h : Alike s t) : t.judged = s.judged := by
  funext o
  unfold State.judged
  rw [h.judgeOrder]

/-- An order that carries what it is judged is what its judgment makes of it. -/
theorem State.judged_unjudged {s : State} (h : s.allJudged) {o : Order} (ho : o ∈ s.disp.orders) : s.judged o.unjudged = o := by
  by_cases hw : o.state = .waiting
  · obtain ⟨k, hk, blocked⟩ := h o ho hw
    rw [State.judged_of_error (o := o.unjudged) hw hk, ← blocked]
    rfl
  · have same : o.unjudged = o := by
      unfold Order.unjudged
      rw [if_neg hw]
    rw [same, s.judged_of_not_waiting hw]

theorem State.orders_of_allJudged {s : State} (h : s.allJudged) : s.disp.orders = (s.disp.orders.map Order.unjudged).map s.judged := by
  rw [List.map_map]
  conv_lhs => rw [← List.map_id s.disp.orders]
  exact List.map_congr_left fun o ho => (State.judged_unjudged h ho).symm

/-- The queue in its order is one list. -/
theorem Alike.unjudged_eq {s t : State} (h : Alike s t) (hs : s.inQueue) (ht : t.inQueue) :
    t.disp.orders.map Order.unjudged = s.disp.orders.map Order.unjudged := by
  have sorted : ∀ u : State, u.inQueue → (u.disp.orders.map Order.unjudged).Pairwise (fun a b => a.before b = true) :=
    fun u hu => List.pairwise_map.mpr (hu.imp fun ab => ab)
  exact h.orders.eq_of_pairwise (fun a b _ _ hab hba => by rw [before_asymm hab] at hba; cases hba) (sorted t ht) (sorted s hs)

/-- Alike and in order, with every waiting order judged, two states are one. -/
theorem Alike.eq_of_allJudged {s t : State} (h : Alike s t) (hs : s.inQueue) (ht : t.inQueue) (js : s.allJudged) (jt : t.allJudged) :
    t = s := by
  have orders : t.disp.orders = s.disp.orders := by
    rw [State.orders_of_allJudged jt, State.orders_of_allJudged js, h.unjudged_eq hs ht, h.judged]
  rw [h.rest, orders]

/-! ### Alike states are scanned alike -/

theorem scan_agrees (l : List Nat) : ∀ {s t : State}, Alike s t → s.startLaw →
    (scan l t).2 = (scan l s).2 ∧ Alike (scan l s).1 (scan l t).1 := by
  induction l with
  | nil => exact fun h _ => ⟨rfl, h⟩
  | cons b rest ih =>
    intro s t h law
    have law' := h.startLaw law
    by_cases waits : ∃ o, s.order b = some o ∧ o.state = .waiting
    · obtain ⟨o, ho, hw⟩ := waits
      obtain ⟨q, hq, e⟩ := h.symm.order law' ho
      have hw' : q.state = .waiting := (Order.unjudged_eq e).2.1.trans hw
      have judged : t.judgeOrder q = s.judgeOrder o := (h.judgeOrder q).trans (s.judgeOrder_of_unjudged e)
      cases hk : s.judgeOrder o with
      | ok a =>
        rw [scan_grants rest ho hw hk, scan_grants rest hq hw' (judged.trans hk)]
        exact ⟨rfl, h.grant e.symm a⟩
      | error k =>
        have one := Alike.writeBlock law ho hw k
        rw [scan_blocks rest ho hw hk, scan_blocks rest hq hw' (judged.trans hk)]
        exact ih ((one.symm.trans h).trans (Alike.writeBlock law' hq hw' k)) (one.startLaw law)
    · have none : ∀ o, s.order b = some o → o.state ≠ .waiting := fun o ho hw => waits ⟨o, ho, hw⟩
      rw [scan_skips rest none, scan_skips rest fun q hq hw => by
        obtain ⟨o, ho, e⟩ := h.order law hq
        exact none o ho ((Order.unjudged_eq e).2.1.trans hw)]
      exact ih h law

/-- Scans of alike states in order, each with a scan for every waiting order and one more, leave one state. -/
theorem scans_agree (n : Nat) : ∀ (m : Nat) {s t : State}, Alike s t → s.startLaw → s.inQueue → t.inQueue → s.waitingCount < n →
    s.waitingCount < m → scans m t = scans n s := by
  induction n with
  | zero => exact fun m s t _ _ _ _ count => absurd count (Nat.not_lt_zero _)
  | succ n ih =>
    intro m s t h law hs ht count count'
    obtain ⟨m, rfl⟩ := Nat.exists_eq_succ_of_ne_zero (Nat.ne_of_gt (Nat.zero_lt_of_lt count'))
    have beds : t.disp.orders.map Order.bed = s.disp.orders.map Order.bed := by
      have same : ∀ l : List Order, l.map Order.bed = (l.map Order.unjudged).map Order.bed := fun l => by
        rw [List.map_map]
        rfl
      rw [same t.disp.orders, same s.disp.orders, h.unjudged_eq hs ht]
    have law' := h.startLaw law
    obtain ⟨flag, alike⟩ := scan_agrees (s.disp.orders.map Order.bed) h law
    obtain ⟨slaw, squeue⟩ := scan_ordered (s.disp.orders.map Order.bed) s ⟨law, hs⟩
    obtain ⟨-, tqueue⟩ := scan_ordered (s.disp.orders.map Order.bed) t ⟨law', ht⟩
    unfold scans
    dsimp only
    rw [beds, flag]
    rcases scan_cases (s.disp.orders.map Order.bed) s [] law (fun _ _ _ h => absurd h List.not_mem_nil) with
      ⟨none, after, settled⟩ | ⟨u, b, o, a, form, after, ho, hw, hk⟩
    · rw [none, if_neg Bool.false_ne_true, if_neg Bool.false_ne_true]
      have js := State.allJudged_of_settledOn after settled
      have jt : (scan (s.disp.orders.map Order.bed) t).1.allJudged := by
        rcases scan_cases (s.disp.orders.map Order.bed) t [] law' (fun _ _ _ h => absurd h List.not_mem_nil) with
          ⟨-, after', settled'⟩ | ⟨_, _, _, _, form', -⟩
        · rw [← beds] at settled' after' ⊢
          exact State.allJudged_of_settledOn after' settled'
        · rw [form'] at flag
          rw [← flag] at none
          cases none
      exact alike.eq_of_allJudged squeue tqueue js jt
    · have fewer := State.grant_waitingCount (after.startLaw law) ho hw a
      rw [after.waitingCount] at fewer
      rw [form] at alike slaw squeue ⊢
      rw [if_pos rfl, if_pos rfl]
      have less : (u.grant o a).waitingCount < n ∧ (u.grant o a).waitingCount < m := by omega
      exact ih m alike slaw squeue tqueue less.1 less.2

/-! ### The orders ahead of the first that passes -/

/-- A scan goes on behind orders that are not awarded. -/
theorem scan_goes_on (behind : List Nat) (ahead : List Nat) : ∀ {s : State}, s.startLaw → s.inQueue →
    (∀ b ∈ ahead, ∀ o, s.order b = some o → o.state = .waiting → ∃ k, s.judgeOrder o = .error k) →
    ∃ u, scan (ahead ++ behind) s = scan behind u ∧ Alike s u ∧ u.inQueue := by
  induction ahead with
  | nil => exact fun {s} _ queue _ => ⟨s, rfl, .refl s, queue⟩
  | cons b rest ih =>
    intro s law queue fails
    rw [List.cons_append]
    have failing : ∀ {u : State}, Alike s u → ∀ d ∈ rest, ∀ o, u.order d = some o → o.state = .waiting →
        ∃ k, u.judgeOrder o = .error k := fun {u} h d hd o ho hw => by
      obtain ⟨q, hq, e⟩ := h.order law ho
      obtain ⟨k, hk⟩ := fails d (List.mem_cons_of_mem b hd) q hq ((Order.unjudged_eq e).2.1.trans hw)
      exact ⟨k, ((h.judgeOrder o).trans (s.judgeOrder_of_unjudged e.symm)).trans hk⟩
    by_cases waits : ∃ o, s.order b = some o ∧ o.state = .waiting
    · obtain ⟨o, ho, hw⟩ := waits
      obtain ⟨k, hk⟩ := fails b (List.mem_cons_self ..) o ho hw
      have one := Alike.writeBlock law ho hw k
      obtain ⟨u, form, alike, queue'⟩ := ih (one.startLaw law) (State.writeBlock_inQueue law queue ho k) (failing one)
      exact ⟨u, (scan_blocks _ ho hw hk).trans form, one.trans alike, queue'⟩
    · obtain ⟨u, form, alike, queue'⟩ := ih law queue (failing (.refl s))
      exact ⟨u, (scan_skips _ fun o ho hw => waits ⟨o, ho, hw⟩).trans form, alike, queue'⟩

/-- Where no order is awarded, the scans leave each waiting order with the check it fails (R121). -/
theorem scans_all_fail {s : State} (law : s.startLaw) (n : Nat)
    (fails : ∀ o ∈ s.disp.orders, o.state = .waiting → ∃ k, s.judgeOrder o = .error k) :
    Alike s (scans (n + 1) s) ∧ (scans (n + 1) s).allJudged := by
  unfold scans
  dsimp only
  rcases scan_cases (s.disp.orders.map Order.bed) s [] law (fun _ _ _ h => absurd h List.not_mem_nil) with
    ⟨flag, alike, settled⟩ | ⟨u, b, o, a, -, alike, ho, hw, hk⟩
  · rw [flag, if_neg Bool.false_ne_true]
    exact ⟨alike, State.allJudged_of_settledOn alike settled⟩
  · obtain ⟨q, hq, e⟩ := alike.order law ho
    obtain ⟨k, hk'⟩ := fails q (State.order_mem hq).1 ((Order.unjudged_eq e).2.1.trans hw)
    rw [alike.judgeOrder, s.judgeOrder_of_unjudged e.symm, hk'] at hk
    cases hk

/-- Without a waiting order the scans change nothing. -/
theorem scans_idle {s : State} (h : ∀ o ∈ s.disp.orders, o.state ≠ .waiting) (n : Nat) : scans n s = s := by
  have none : ∀ l : List Nat, scan l s = (s, false) := fun l => by
    induction l with
    | nil => rfl
    | cons b rest ih => rw [scan_skips rest fun o ho => h o (State.order_mem ho).1, ih]
  cases n with
  | zero => rfl
  | succ n =>
    unfold scans
    dsimp only
    rw [none, if_neg Bool.false_ne_true]

/-- A scan grants the one order that waits when it passes. -/
theorem scan_grants_sole {s : State} {o : Order} (ho : s.order o.bed = some o) (hw : o.state = .waiting)
    (sole : ∀ q ∈ s.disp.orders, q.bed ≠ o.bed → q.state ≠ .waiting) {a : Award} (hk : s.judgeOrder o = .ok a) (l : List Nat)
    (hl : o.bed ∈ l) : scan l s = (s.grant o a, true) := by
  induction l with
  | nil => exact absurd hl List.not_mem_nil
  | cons b rest ih =>
    by_cases hb : b = o.bed
    · exact hb ▸ scan_grants rest ho hw hk
    · rw [scan_skips rest fun q hq => by
        obtain ⟨mem, bed⟩ := State.order_mem hq
        exact sole q mem (bed ▸ hb)]
      exact ih ((List.mem_cons.mp hl).resolve_left fun e => hb e.symm)

end Sys2Proof.Machine
end

section
/-! SUPPORT. The grant of an order that passes every check, in the words of R126 and R127. -/

namespace Sys2Proof.Machine

/-- Of two writes of one entry the later stands. -/
theorem setNth_setNth {α : Type} {n : Nat} (v : Vector α n) (k : Nat) (x y : α) : setNth (setNth v k x) k y = setNth v k y := by
  unfold setNth
  split
  · rfl
  · exact Vector.setIfInBounds_setIfInBounds ..

/-- A START placed for a cannon stands in the record just written (R127, R143). -/
theorem State.setCannon_place (s : State) (c : Nat) (r : Cannon) (x : LineCommand) : (s.setCannon c r).place c x =
    { s with line := { s.line with
      cannons := setNth s.line.cannons c { r with held := some ⟨x, s.line.heldSerial⟩ }, heldSerial := s.line.heldSerial + 1 } } := by
  have record : setNth (setNth s.line.cannons c r) c { (s.setCannon c r).cannon c with held := some ⟨x, s.line.heldSerial⟩ } =
      setNth s.line.cannons c { r with held := some ⟨x, s.line.heldSerial⟩ } := by
    rw [setNth_setNth]
    by_cases inside : 1 ≤ c ∧ c ≤ 24
    · rw [State.cannon_setCannon_same s r inside.1 inside.2]
    · have outside : ∀ y : Cannon, setNth s.line.cannons c y = s.line.cannons := fun y => by
        unfold setNth
        split
        · rfl
        · exact Vector.setIfInBounds_eq_of_size_le (by omega)
      rw [outside, outside]
  unfold State.place
  dsimp only
  rw [← record]
  rfl

theorem State.startVolume_award (s : State) (o : Order) (w : WaterSource) (j : Nat) (e : ListEntry) :
    s.startVolume o (s.award o w j e) = s.grantVolume o w e := by
  unfold State.startVolume State.grantVolume
  dsimp only [State.award]
  cases (s.bed o.bed).hold with
  | none => exact (Nat.min_self _).symm
  | some h => rfl

theorem State.award_cursor (s : State) (o : Order) (w : WaterSource) (j : Nat) (e : ListEntry) :
    ((s.award o w j e).index + 1) % (s.conf.cannonList o.bed).length =
      ((s.bed o.bed).cursor + j + 1) % (s.conf.cannonList o.bed).length := Nat.mod_add_mod _ _ _

/-- The grant of an award and the state after a grant differ at most in the places of the orders in the queue (R127). -/
theorem State.grant_award (s : State) (o : Order) (w : WaterSource) (j : Nat) (e : ListEntry) :
    s.grant o (s.award o w j e) =
      { s.afterGrant o w j e with disp := { (s.afterGrant o w j e).disp with
        orders := insertOrder (s.granted o (s.award o w j e)) (ordersWithout o.bed s.disp.orders) } } := by
  unfold State.grant
  dsimp only
  rw [State.setCannon_place, s.award_cursor, s.startVolume_award]
  unfold State.granted
  rw [s.startVolume_award]
  unfold State.afterGrant
  cases w <;> rfl

theorem State.afterGrant_orders (s : State) (o : Order) (w : WaterSource) (j : Nat) (e : ListEntry) :
    (s.afterGrant o w j e).disp.orders = replaced o.bed (s.granted o (s.award o w j e)) s.disp.orders := by
  unfold State.granted
  rw [s.startVolume_award]
  rfl

/-- In a queue in order the state after a grant is what the grant makes (R113, R127). -/
theorem State.afterGrant_eq {s : State} {o : Order} (law : s.startLaw) (queue : s.inQueue) (ho : s.order o.bed = some o)
    (w : WaterSource) (j : Nat) (e : ListEntry) : s.afterGrant o w j e = s.grant o (s.award o w j e) := by
  have orders := State.grant_replaced law queue ho (s.award o w j e)
  rw [State.grant_orders, ← s.afterGrant_orders] at orders
  rw [s.grant_award, orders]

/-- The order of a bed that is granted its start (R127). -/
theorem State.afterGrant_order {s : State} {o : Order} (ho : s.order o.bed = some o) (w : WaterSource) (j : Nat) (e : ListEntry) :
    (s.afterGrant o w j e).order o.bed = some (s.granted o (s.award o w j e)) := by
  have first : ∀ l : List Order, l.find? (fun q => q.bed == o.bed) = some o →
      (replaced o.bed (s.granted o (s.award o w j e)) l).find? (fun q => q.bed == o.bed) = some (s.granted o (s.award o w j e)) :=
    fun l h => by
      induction l with
      | nil => cases h
      | cons x rest ih =>
        unfold replaced
        rw [List.map_cons]
        by_cases hx : x.bed = o.bed
        · rw [if_pos hx]
          exact List.find?_cons_of_pos (beq_iff_eq.mpr rfl)
        · rw [if_neg hx, List.find?_cons_of_neg (by simpa using hx)]
          rw [List.find?_cons_of_neg (by simpa using hx)] at h
          exact ih h
  have found := first _ ho
  rw [← s.afterGrant_orders] at found
  exact found

theorem State.grant_order (s : State) (o : Order) (a : Award) : (s.grant o a).order o.bed = some (s.granted o a) := by
  have found := s.order_putOrder_same (s.granted o a)
  unfold State.order at found ⊢
  rw [State.grant_orders]
  exact found

end Sys2Proof.Machine
end

section
/-! SUPPORT. The end of a dispatch attempt: the DEMAND notice (R86) and the judgments of WATER_SHORT (R135, log 49). -/

namespace Sys2Proof.Machine

/-! ### The judgment of one bed -/

/-- The bed as the judgment of WATER_SHORT leaves it, from its order (R135). -/
def Bed.shortAfter (r : Bed) (o : Order) : Bed :=
  if o.waterBlocked then { r with waterShort := r.waterShort || o.origin == .autoSevere }
  else if o.blocked.isSome then { r with waterShort := false }
  else r

/-- A WATER_SHORT record is asked for the order (R135). -/
def State.startsShort (s : State) (o : Order) : Bool := o.waterBlocked && (o.origin == .autoSevere && !(s.bed o.bed).waterShort)

/-- The WATER_SHORT record of an order (R135). -/
def State.askShort (s u : State) (o : Order) : State :=
  u.askRecord .waterShort o.bed (saturate 65535 (o.remaining / 100)) (some (s.bed o.bed).band)

@[simp] theorem judgeShort_disp (s : State) (b : Nat) : (judgeShort s b).disp = s.disp := by
  unfold judgeShort
  (repeat' split) <;> simp

@[simp] theorem judgeShort_line (s : State) (b : Nat) : (judgeShort s b).line = s.line := by
  unfold judgeShort
  (repeat' split) <;> simp

@[simp] theorem judgeShort_water (s : State) (b : Nat) : (judgeShort s b).water = s.water := by
  unfold judgeShort
  (repeat' split) <;> simp

@[simp] theorem judgeShort_store (s : State) (b : Nat) : (judgeShort s b).store = s.store := by
  unfold judgeShort
  (repeat' split) <;> simp

theorem State.bed_askRecord (s : State) (k : RecordKind) (n m : Nat) (d : Option Band) (b : Nat) :
    (s.askRecord k n m d).bed b = s.bed b := State.bed_congr (by simp) b

theorem judgeShort_bed_ne (s : State) {a b : Nat} (h : b ≠ a) : (judgeShort s a).bed b = s.bed b := by
  unfold judgeShort
  (repeat' split) <;> simp [State.bed_askRecord, State.bed_setBed_ne _ _ h]

theorem judgeShort_bed {s : State} {o : Order} (ho : s.order o.bed = some o) (h1 : 1 ≤ o.bed) (h2 : o.bed ≤ 32) :
    (judgeShort s o.bed).bed o.bed = (s.bed o.bed).shortAfter o := by
  unfold judgeShort Bed.shortAfter
  rw [ho]
  dsimp only
  by_cases water : o.waterBlocked = true
  · rw [if_pos water, if_pos water]
    by_cases starts : o.origin = .autoSevere ∧ (s.bed o.bed).waterShort = false
    · rw [if_pos starts, State.bed_askRecord, State.bed_setBed_same _ _ h1 h2]
      have severe : ((s.bed o.bed).waterShort || o.origin == .autoSevere) = true := by
        rw [starts.1]
        exact Bool.or_true _
      rw [severe]
    · rw [if_neg starts]
      have kept : ((s.bed o.bed).waterShort || o.origin == .autoSevere) = (s.bed o.bed).waterShort := by
        cases short : (s.bed o.bed).waterShort with
        | true => rfl
        | false => simpa using fun e => starts ⟨e, short⟩
      rw [kept]
  · rw [if_neg water, if_neg water]
    by_cases blocked : o.blocked.isSome = true
    · rw [if_pos blocked, if_pos blocked, State.bed_setBed_same _ _ h1 h2]
    · rw [if_neg blocked, if_neg blocked]

/-! ### The records asked -/

/-- The state with its beds, its water and its dispatcher replaced: what a producer's asking for a record does not read. -/
def State.besides (s : State) (b : BedTable) (w : Water) (d : Dispatcher) : State := { s with beds := b, water := w, disp := d }

theorem State.askRecord_besides (s : State) (b : BedTable) (w : Water) (d : Dispatcher) (k : RecordKind) (n m : Nat) (e : Option Band) :
    (s.besides b w d).askRecord k n m e = (s.askRecord k n m e).besides b w d := by
  have reader : ∀ (u : State) c, flushReader (u.besides b w d) c = (flushReader u c).besides b w d := fun u c => by
    unfold flushReader
    dsimp only
    rw [apply_ite (fun u : State => u.besides b w d), apply_ite (fun u : State => u.besides b w d)]
    rfl
  have flush : ∀ u : State, (u.besides b w d).flushRecords = u.flushRecords.besides b w d := fun u => by
    unfold State.flushRecords readerClasses
    simp only [List.foldl_cons, List.foldl_nil, reader]
  have overflow : ∀ (u : State) full, (u.besides b w d).overflowIf full = (u.overflowIf full).besides b w d := fun u full => by
    cases full <;> rfl
  unfold State.askRecord
  dsimp only
  rw [apply_ite (fun u : State => u.besides b w d), ← flush, ← overflow]
  rfl

theorem judgeShort_besides {s u : State} {o : Order} (ho : u.order o.bed = some o) (hb : u.bed o.bed = s.bed o.bed)
    (b : BedTable) (w : Water) (d : Dispatcher) :
    (if s.startsShort o then s.askShort (u.besides b w d) o else u.besides b w d) = (judgeShort u o.bed).besides b w d := by
  have setBed : ∀ r, (u.setBed o.bed r).besides b w d = u.besides b w d := fun _ => rfl
  unfold judgeShort
  rw [ho]
  dsimp only
  rw [hb]
  by_cases water : o.waterBlocked = true
  · rw [if_pos water]
    by_cases starts : o.origin = .autoSevere ∧ (s.bed o.bed).waterShort = false
    · have asks : s.startsShort o = true := by
        unfold State.startsShort
        rw [water, starts.1, starts.2]
        rfl
      unfold State.askShort
      rw [if_pos asks, if_pos starts, ← setBed, State.askRecord_besides]
    · have asks : s.startsShort o = false := by
        unfold State.startsShort
        rw [water, Bool.true_and]
        cases severe : o.origin == .autoSevere with
        | false => rfl
        | true => simpa using fun e => starts ⟨by simpa using severe, e⟩
      rw [asks, if_neg starts, if_neg Bool.false_ne_true]
  · have asks : s.startsShort o = false := by
      unfold State.startsShort
      rw [Bool.not_eq_true] at water
      rw [water, Bool.false_and]
    rw [asks, if_neg water, if_neg Bool.false_ne_true]
    split
    · exact (setBed _).symm
    · rfl

/-- The judgments ask for the WATER_SHORT records in queue order (log 49). -/
theorem foldl_judgeShort {s : State} {b : BedTable} {w : Water} {d : Dispatcher} (l : List Order) : ∀ {u : State},
    (l.map Order.bed).Nodup → (∀ o ∈ l, u.order o.bed = some o) → (∀ o ∈ l, u.bed o.bed = s.bed o.bed) →
    (l.filter s.startsShort).foldl s.askShort (u.besides b w d) = ((l.map Order.bed).foldl judgeShort u).besides b w d := by
  induction l with
  | nil => exact fun _ _ _ => rfl
  | cons o rest ih =>
    intro u one orders beds
    obtain ⟨alone, one⟩ := List.nodup_cons.mp one
    have here := judgeShort_besides (orders o (List.mem_cons_self ..)) (beds o (List.mem_cons_self ..)) b w d
    have next := ih (u := judgeShort u o.bed) one
      (fun q hq => (State.order_congr (by simp) _).trans (orders q (List.mem_cons_of_mem o hq)))
      (fun q hq => (judgeShort_bed_ne u fun e : q.bed = o.bed => alone (e ▸ List.mem_map_of_mem hq)).trans
        (beds q (List.mem_cons_of_mem o hq)))
    rw [List.map_cons, List.foldl_cons, ← next, ← here, List.filter_cons]
    split
    · rfl
    · rfl

end Sys2Proof.Machine
end

section
/-! SUPPORT. What the end of a dispatch attempt leaves, tells and asks (R86, R135). -/

namespace Sys2Proof.Machine

/-! ### The DEMAND notice -/

/-- An order blocked for WATER is counted under RECYCLED when it prefers it, and without a preference when it may not draw on
FRESH or the gate is OPEN (R85). -/
theorem Order.wantedFrom_recycled (gate : Gate) (o : Order) : (o.wantedFrom gate == .recycled) =
    (o.preference == .recycled || (o.preference == .any && (decide (¬o.urgent) || gate == .isOpen))) := by
  unfold Order.wantedFrom Order.urgent
  cases o.preference with
  | recycled => rfl
  | fresh => rfl
  | any => cases o.origin <;> cases gate <;> rfl

theorem Order.wantedFrom_fresh (gate : Gate) (o : Order) : (o.wantedFrom gate == .fresh) = !(o.wantedFrom gate == .recycled) := by
  cases o.wantedFrom gate <;> rfl

/-- The demand is told at the end of the attempt (R86). -/
abbrev State.tellsDemand (s : State) : Prop :=
  s.disp.orders.filter Order.waterBlocked ≠ [] ∧ s.water.demandMark = false ∧ s.classes .demand ≠ 0 ∧ 5 ≤ s.free

/-- The DEMAND notice with the two sums of R85. -/
def State.demandNotice (s : State) : Frame :=
  .notice (s.classes .demand) .demand (be24 (min 16777215 (s.wanted .recycled)) ++ be24 (min 16777215 (s.wanted .fresh)))

theorem State.makeDemand_eq (s : State) : s.makeDemand = { s with
    port := { s.port with outbound := s.port.outbound ++ if s.tellsDemand then [s.demandNotice] else [] }
    water := { s.water with demandMark := s.water.demandMark || decide s.tellsDemand } } := by
  have room : s.room = true ↔ 5 ≤ s.free := decide_eq_true_iff
  have any : s.disp.orders.any Order.waterBlocked = true ↔ s.disp.orders.filter Order.waterBlocked ≠ [] := by
    rw [Ne, List.filter_eq_nil_iff, List.any_eq_true]
    simp
  unfold State.makeDemand
  by_cases told : s.tellsDemand
  · rw [if_pos told, if_pos (by rw [any, room]; exact told), decide_eq_true told, Bool.or_true]
    rfl
  · rw [if_neg told, if_neg (by rw [any, room]; exact told), decide_eq_false told, Bool.or_false, List.append_nil]

/-! ### The end of the attempt -/

theorem State.endAttempt_kept (s : State) : s.endAttempt.disp = s.disp ∧ s.endAttempt.line = s.line ∧ s.endAttempt.store = s.store ∧
    s.endAttempt.water = { s.water with demandMark := s.water.demandMark || decide s.tellsDemand } := by
  have kept := foldl_keeps (fun u t => t.disp = u.disp ∧ t.line = u.line ∧ t.store = u.store ∧ t.water = u.water)
    (fun _ => ⟨rfl, rfl, rfl, rfl⟩)
    (fun _ _ _ ⟨d, l, r, w⟩ ⟨d', l', r', w'⟩ => ⟨d'.trans d, l'.trans l, r'.trans r, w'.trans w⟩) judgeShort (by simp)
    (s.disp.orders.map Order.bed) s.makeDemand
  obtain ⟨disp, line, store, water⟩ := kept
  rw [s.makeDemand_eq] at disp line store water
  unfold State.endAttempt
  rw [s.makeDemand_eq]
  exact ⟨disp, line, store, water⟩

/-- A bed without an order stays as it was. -/
theorem State.endAttempt_bed_none {s : State} {b : Nat} (h : s.order b = none) : s.endAttempt.bed b = s.bed b := by
  have outside : b ∉ s.disp.orders.map Order.bed := fun hb => by
    obtain ⟨o, ho, bed⟩ := List.mem_map.mp hb
    have other := List.find?_eq_none.mp h o ho
    rw [beq_iff_eq] at other
    exact other bed
  have beds : s.makeDemand.bed b = s.bed b := by
    rw [s.makeDemand_eq]
    rfl
  exact (foldl_view_of_not_mem State.bed judgeShort (fun _ => True) (fun _ _ _ => trivial) (fun u a b _ h => judgeShort_bed_ne u h)
    _ _ trivial b outside).trans beds

/-- A bed with an order is as its judgment leaves it (R135). -/
theorem State.endAttempt_bed {s : State} (one : s.oneOrderPerBed) {o : Order} (ho : s.order o.bed = some o) (h1 : 1 ≤ o.bed)
    (h2 : o.bed ≤ 32) : s.endAttempt.bed o.bed = (s.bed o.bed).shortAfter o := by
  have disp : s.makeDemand.disp = s.disp := by rw [s.makeDemand_eq]
  have beds : s.makeDemand.bed o.bed = s.bed o.bed := by
    rw [s.makeDemand_eq]
    rfl
  obtain ⟨u, hu, same, after⟩ := foldl_view_of_mem State.bed judgeShort (fun u => u.disp = s.disp)
    (fun u a hu => (judgeShort_disp u a).trans hu) (fun u a b _ h => judgeShort_bed_ne u h) _ one s.makeDemand disp o.bed
    (List.mem_map_of_mem (State.order_mem ho).1)
  have order : u.order o.bed = some o := (State.order_congr (congrArg Dispatcher.orders hu) _).trans ho
  exact after.trans ((judgeShort_bed order h1 h2).trans (by rw [same, beds]))

/-- The DEMAND notice joins, and behind it the WATER_SHORT records are asked in queue order (logs 18, 49). -/
theorem State.endAttempt_asks {s : State} (one : s.oneOrderPerBed) (b : BedTable) (w : Water) (d : Dispatcher) :
    s.endAttempt.besides b w d = (s.disp.orders.filter s.startsShort).foldl s.askShort (s.makeDemand.besides b w d) := by
  refine (foldl_judgeShort s.disp.orders (u := s.makeDemand) one (fun o ho => ?_) (fun o _ => ?_)).symm
  · rw [s.makeDemand_eq]
    exact State.order_of_mem one ho
  · rw [s.makeDemand_eq]
    rfl

end Sys2Proof.Machine
end

section
/-! SUPPORT. What every state of an attempt's scans has in common with the state in which they began (R120 to R127). -/

namespace Sys2Proof.Machine

/-- The award of an order says that its bed passes the first three checks (R122). -/
theorem State.judgeOrder_bedPasses {s : State} {o : Order} {a : Award} (h : s.judgeOrder o = .ok a) : s.bedPasses o.bed := by
  obtain ⟨mode, claim, -⟩ := State.judgeOrder_ok h
  refine (s.bedPasses_iff o.bed).mpr ⟨(s.modeGrants_iff).mp mode, claim, ?_⟩
  cases cap : s.capped o.bed with
  | false => rfl
  | true =>
    unfold State.judgeOrder at h
    rw [(s.modeGrants_iff).mp mode, claim, cap] at h
    cases h

/-- No order passes in a mode that does not grant (R122). -/
theorem State.judgeOrder_of_mode {s : State} (h : ¬s.modeGrants) (o : Order) : s.judgeOrder o = .error .mode := by
  rw [s.modeGrants_iff, Bool.not_eq_true] at h
  unfold State.judgeOrder
  rw [h]
  rfl

/-- A state within the scans of an attempt, seen from the state in which they began. -/
structure Scanning (s u : State) : Prop where
  frame : AttemptFrame s u
  attempt : u.disp.attempt = s.disp.attempt
  balance : ∀ w, (u.source w).balance = (s.source w).balance
  hold : ∀ b, (u.bed b).hold = (s.bed b).hold
  waiting : ∀ o ∈ u.disp.orders, o.state = .waiting → ∃ q ∈ s.disp.orders, q.bed = o.bed ∧ q.state = .waiting
  granted : ∀ o ∈ u.disp.orders, o.state = .granted → (∃ q ∈ s.disp.orders, q.bed = o.bed ∧ q.state = .granted) ∨
    (s.bedPasses o.bed ∧ ∃ q ∈ s.disp.orders, q.bed = o.bed ∧ q.state = .waiting)

namespace Scanning

theorem refl (s : State) : Scanning s s where
  frame := by simp [AttemptFrame]
  attempt := rfl
  balance _ := rfl
  hold _ := rfl
  waiting o ho hw := ⟨o, ho, rfl, hw⟩
  granted o ho hg := .inl ⟨o, ho, rfl, hg⟩

variable {s u : State} (h : Scanning s u)
include h

theorem mode : u.ctrl.mode = s.ctrl.mode := by
  have frame := h.frame
  simp only [AttemptFrame] at frame
  simp [frame]

theorem bedPasses {b : Nat} (pass : u.bedPasses b) : s.bedPasses b := by
  have conf : u.conf = s.conf := h.frame.2.1
  have zones : u.zones = s.zones := by
    have frame := h.frame
    simp only [AttemptFrame] at frame
    simp [frame]
  unfold State.bedPasses State.modeGrants State.underClaim State.underCap at pass
  rwa [h.mode, zones, h.hold, conf] at pass

theorem block {b : Nat} {o : Order} (ho : u.order b = some o) (k : Block) : Scanning s (u.writeBlock o k) where
  frame := by
    have frame := h.frame
    simp only [AttemptFrame] at frame
    simp [AttemptFrame, frame]
  attempt := h.attempt
  balance := h.balance
  hold := h.hold
  waiting q hq hw := by
    rcases State.mem_putOrder.mp hq with rfl | ⟨hq, -⟩
    · exact h.waiting o (State.order_mem ho).1 hw
    · exact h.waiting q hq hw
  granted q hq hg := by
    rcases State.mem_putOrder.mp hq with rfl | ⟨hq, -⟩
    · exact h.granted o (State.order_mem ho).1 hg
    · exact h.granted q hq hg

theorem grant {b : Nat} {o : Order} {a : Award} (ho : u.order b = some o) (hw : o.state = .waiting) (hk : u.judgeOrder o = .ok a) :
    Scanning s (u.grant o a) := by
  have orders : ∀ q ∈ (u.grant o a).disp.orders, q = u.granted o a ∨ q ∈ u.disp.orders := fun q hq => by
    rw [State.grant_orders] at hq
    exact (mem_insertOrder.mp hq).imp_right fun hq => (mem_ordersWithout.mp hq).1
  refine ⟨?_, ?_, fun w => ?_, fun c => ?_, fun q hq hs => ?_, fun q hq hg => ?_⟩
  · have frame := h.frame
    simp only [AttemptFrame] at frame
    simp [AttemptFrame, frame]
  · rw [← h.attempt]
    simp [State.grant, State.reserveWater]
  · rw [u.grant_source, ← h.balance w]
    split
    · rename_i e
      rw [e]
    · rfl
  · rw [← h.hold c]
    rw [u.grant_bed]
    split
    · rename_i e
      rw [e.1]
    · rfl
  · rcases orders q hq with rfl | hq
    · cases hs
    · exact h.waiting q hq hs
  · rcases orders q hq with rfl | hq
    · exact .inr ⟨h.bedPasses (State.judgeOrder_bedPasses hk), h.waiting o (State.order_mem ho).1 hw⟩
    · exact h.granted q hq hg

end Scanning

theorem scans_scanning (n : Nat) (s : State) : Scanning s (scans n s) :=
  scans_keeps (Scanning s) (fun _ _ _ k ho h => h.block ho k) (fun _ _ _ _ ho hw hk h => h.grant ho hw hk) n s (.refl s)

end Sys2Proof.Machine
end

section
/-! SUPPORT. A dispatch attempt from its mark to its end (R120 to R127). -/

namespace Sys2Proof.Machine

/-- The state with the attempt mark cleared (R120). -/
def State.unmarked (s : State) : State := { s with disp := { s.disp with attempt := false } }

/-- The state at the end of an attempt's scans (R121). -/
def State.attempted (s : State) : State := scans (s.disp.orders.length + 1) s.unmarked

theorem exec_dispatchAttempt {s : State} (h : s.disp.attempt = true) :
    exec .dispatchAttempt s = .next s.attempted.endAttempt := by
  have started : exec .dispatchAttempt s = .next (if s.disp.attempt then s.attempted.endAttempt else s) := rfl
  rw [started, if_pos h]

theorem State.startLaw.unmarked {s : State} (law : s.startLaw) : s.unmarked.startLaw := ⟨law.one, law.starts⟩

/-- The order of a bed at the end of an attempt is that of the scans' end. -/
theorem State.endAttempt_order (s : State) (b : Nat) : s.endAttempt.order b = s.order b :=
  State.order_congr (congrArg Dispatcher.orders s.endAttempt_kept.1) b

theorem State.endAttempt_source (s : State) (w : WaterSource) : s.endAttempt.source w = s.source w := by
  obtain ⟨-, -, -, water⟩ := s.endAttempt_kept
  cases w
  · exact (congrArg Water.recycled water).trans rfl
  · exact (congrArg Water.fresh water).trans rfl

/-- The one order that waits is granted when it passes (R121, R127). -/
theorem State.attempted_sole {s : State} {o : Order} (ho : s.order o.bed = some o) (hw : o.state = .waiting)
    (sole : ∀ q ∈ s.disp.orders, q.bed ≠ o.bed → q.state ≠ .waiting) {a : Award} (hk : s.judgeOrder o = .ok a) :
    s.attempted = s.unmarked.grant o a := by
  have granted : scan (s.unmarked.disp.orders.map Order.bed) s.unmarked = (s.unmarked.grant o a, true) :=
    scan_grants_sole (s := s.unmarked) ho hw sole hk _ (List.mem_map_of_mem (State.order_mem ho).1)
  unfold State.attempted scans
  dsimp only
  rw [granted, if_pos rfl]
  refine scans_idle (fun q hq => ?_) _
  rw [State.grant_orders] at hq
  rcases mem_insertOrder.mp hq with rfl | hq
  · exact fun e => by cases e
  · obtain ⟨mem, bed⟩ := mem_ordersWithout.mp hq
    exact sole q mem bed

section
variable {s : State} (law : s.startLaw)
include law

/-- Every order left WAITING carries the check it fails (R121). -/
theorem State.attempted_allJudged : s.attempted.allJudged :=
  scans_allJudged _ _ law.unmarked (Nat.lt_succ_of_le s.unmarked.waitingCount_le)

/-- Where no waiting order is awarded, the attempt's scans leave each with the check it fails. -/
theorem State.attempted_all_fail (fails : ∀ o ∈ s.disp.orders, o.state = .waiting → ∃ k, s.judgeOrder o = .error k) :
    Alike s.unmarked s.attempted ∧ s.attempted.allJudged := scans_all_fail law.unmarked _ fails

/-- Where no waiting order is awarded, a waiting order is left with the check it fails. -/
theorem State.attempted_order (fails : ∀ o ∈ s.disp.orders, o.state = .waiting → ∃ k, s.judgeOrder o = .error k) {o : Order}
    (ho : s.order o.bed = some o) : s.attempted.order o.bed = some (s.judged o) := by
  obtain ⟨alike, judged⟩ := State.attempted_all_fail law fails
  obtain ⟨q, hq, e⟩ := alike.symm.order (alike.startLaw law.unmarked) (o := o) ho
  have form : s.attempted.judged q.unjudged = q := State.judged_unjudged judged (State.order_mem hq).1
  have same : s.judged o.unjudged = s.judged o := by
    by_cases hw : o.state = .waiting
    · obtain ⟨k, hk⟩ := fails o (State.order_mem ho).1 hw
      rw [State.judged_of_error hw hk, State.judged_of_error (o := o.unjudged) hw hk]
      rfl
    · rw [s.judged_of_not_waiting hw, s.judged_of_not_waiting (o := o.unjudged) hw]
      unfold Order.unjudged
      rw [if_neg hw]
  have unmarked : s.unmarked.judged = s.judged := rfl
  rw [hq, ← form, alike.judged, e, unmarked, same]

/-- The attempt goes on from the first order that passes as one from the state after its grant (R121). -/
theorem State.attempted_ahead (queue : s.inQueue) {ahead behind : List Order} {o : Order}
    (split : s.disp.orders = ahead ++ o :: behind) (hw : o.state = .waiting)
    (fails : ∀ q ∈ ahead, q.state = .waiting → ∃ k, s.judgeOrder q = .error k) {a : Award} (hk : s.judgeOrder o = .ok a)
    {t : State} (next : t.unmarked = s.unmarked.grant o a) : s.attempted = t.attempted := by
  have law' := law.unmarked
  have ho : s.unmarked.order o.bed = some o := State.order_of_mem law.one (by rw [split]; simp)
  have beds : s.unmarked.disp.orders.map Order.bed = ahead.map Order.bed ++ o.bed :: behind.map Order.bed := by
    rw [← List.map_cons, ← List.map_append, ← split]
    rfl
  obtain ⟨u, form, alike, uqueue⟩ := scan_goes_on (o.bed :: behind.map Order.bed) (ahead.map Order.bed) law' queue
    (fun b hb q hq hqw => by
      obtain ⟨p, hp, rfl⟩ := List.mem_map.mp hb
      have first : s.unmarked.order p.bed = some p := State.order_of_mem law.one (by rw [split]; simp [hp])
      rw [← Option.some.inj (first.symm.trans hq)] at hqw ⊢
      exact fails p hp hqw)
  obtain ⟨q, hq, e⟩ := alike.symm.order (alike.startLaw law') ho
  obtain ⟨bed, state, -⟩ := Order.unjudged_eq e
  have judged : u.judgeOrder q = .ok a := (alike.judgeOrder q).trans ((s.unmarked.judgeOrder_of_unjudged e).trans hk)
  have granted : scan (s.unmarked.disp.orders.map Order.bed) s.unmarked = (u.grant q a, true) := by
    rw [beds, form]
    exact scan_grants _ hq (state.trans hw) judged
  have count := State.grant_waitingCount law' ho hw a
  have most := s.unmarked.waitingCount_le
  have orders : t.disp.orders.length = s.disp.orders.length := by
    have same : t.disp.orders = (s.unmarked.grant o a).disp.orders := congrArg (fun u => u.disp.orders) next
    rw [same, State.grant_replaced law' queue ho]
    exact List.length_map _
  have length : s.unmarked.disp.orders.length = s.disp.orders.length := rfl
  unfold State.attempted scans
  dsimp only
  rw [granted, if_pos rfl, ← scans, next, orders]
  exact scans_agree _ _ (alike.grant e.symm a) (State.grant_startLaw law') (State.grant_inQueue law' queue ho a)
    (State.grant_inQueue (alike.startLaw law') uqueue hq a) (by omega) (by omega)

/-- In a queue in order the orders stand where they stood, judged (R113, R121). -/
theorem State.attempted_orders (queue : s.inQueue)
    (fails : ∀ o ∈ s.disp.orders, o.state = .waiting → ∃ k, s.judgeOrder o = .error k) :
    s.attempted.disp.orders.map Order.bed = s.disp.orders.map Order.bed := by
  obtain ⟨alike, -⟩ := State.attempted_all_fail law fails
  have unjudged := alike.unjudged_eq queue (scans_ordered _ s.unmarked ⟨law.unmarked, queue⟩).2
  have same : ∀ l : List Order, l.map Order.bed = (l.map Order.unjudged).map Order.bed := fun l => by
    rw [List.map_map]
    rfl
  rw [same s.attempted.disp.orders, unjudged, ← same]
  rfl

end

end Sys2Proof.Machine
end

section
/-! DISPATCH_ATTEMPT, whole (R71, R72, R86, R109, R120 to R127, R135). -/

namespace Sys2Proof.Machine

/-! ### The attempt with one waiting order -/

section
variable {s : State} {o : Order} (law : s.startLaw) (ho : s.order o.bed = some o) (hw : o.state = .waiting)
  (hc : (s.bed o.bed).cursor < (s.conf.cannonList o.bed).length)
include law ho hw hc

/-- A waiting order that fails is left with the check it fails, where no order passes (R121). -/
theorem State.attempt_fails (fails : ∀ q ∈ s.disp.orders, q.state = .waiting → ∃ k, s.judgeOrder q = .error k) {k : Block}
    (hk : s.failsCheck o k) : s.attempted.endAttempt.order o.bed = some { o with blocked := some k } := by
  rw [State.endAttempt_order, State.attempted_order law fails ho, State.judged_of_error hw (State.judgeOrder_fails hc hk)]

variable (sole : ∀ q ∈ s.disp.orders, q.bed ≠ o.bed → q.state ≠ .waiting)
include sole

theorem State.attempt_sole_fails {k : Block} (hk : s.failsCheck o k) :
    s.attempted.endAttempt.order o.bed = some { o with blocked := some k } := by
  refine State.attempt_fails law ho hw hc (fun q hq hqw => ⟨k, ?_⟩) hk
  have bed : q.bed = o.bed := by_contra fun hne => sole q hq hne hqw
  have found := State.order_of_mem law.one hq
  rw [bed, ho] at found
  rw [← Option.some.inj found]
  exact State.judgeOrder_fails hc hk

/-- The one waiting order that passes leaves the attempt with its start (R126, R127). -/
theorem State.attempt_sole_passes {w : WaterSource} {j : Nat} {e : ListEntry} (hp : s.passesChecks o w j e) :
    s.attempted.endAttempt.order o.bed = (s.afterGrant o w j e).order o.bed ∧
    s.attempted.endAttempt.disp.grantSequence = (s.disp.grantSequence + 1) % 65536 ∧
    (s.attempted.endAttempt.source w).reserved = (s.source w).reserved + s.grantVolume o w e ∧
    (∀ v, v ≠ w → (s.attempted.endAttempt.source v).reserved = (s.source v).reserved) ∧
    s.attempted.endAttempt.line = (s.afterGrant o w j e).line ∧
    (1 ≤ o.bed → o.bed ≤ 32 →
      (s.attempted.endAttempt.bed o.bed).cursor = ((s.bed o.bed).cursor + j + 1) % (s.conf.cannonList o.bed).length ∧
      (s.attempted.endAttempt.bed o.bed).waterShort = false) := by
  have granted := State.attempted_sole ho hw sole (State.judgeOrder_passes hc hp)
  have form := s.unmarked.grant_award o w j e
  have award : s.unmarked.award o w j e = s.award o w j e := rfl
  have line : (s.unmarked.afterGrant o w j e).line = (s.afterGrant o w j e).line := by cases w <;> rfl
  have order := s.unmarked.grant_order o (s.award o w j e)
  have source := fun v => s.unmarked.grant_source o (s.award o w j e) v
  have drawn : (s.award o w j e).source = w := rfl
  rw [drawn] at source
  obtain ⟨disp, lineKept, -, -⟩ := (s.unmarked.grant o (s.award o w j e)).endAttempt_kept
  rw [award] at form
  rw [granted]
  refine ⟨?_, ?_, ?_, fun v hv => ?_, ?_, fun h1 h2 => ?_⟩
  · rw [State.endAttempt_order, order, State.afterGrant_order ho]
    rfl
  · rw [disp, form]
    rfl
  · rw [State.endAttempt_source, source, if_pos rfl, ← s.startVolume_award o w j e]
    rfl
  · rw [State.endAttempt_source, source, if_neg hv]
    rfl
  · rw [lineKept, form]
    exact line
  · have bed : (s.unmarked.grant o (s.award o w j e)).endAttempt.bed o.bed =
        ((s.unmarked.grant o (s.award o w j e)).bed o.bed).shortAfter (s.unmarked.granted o (s.award o w j e)) :=
      State.endAttempt_bed (State.grant_startLaw law.unmarked).one (o := s.unmarked.granted o (s.award o w j e)) order h1 h2
    rw [bed, State.grant_bed, if_pos ⟨rfl, h1, h2⟩]
    exact ⟨s.award_cursor o w j e, rfl⟩

end

/-! ### The attempt in which every waiting order fails -/

/-- The orders blocked for WATER, with what they are owed from a source (R85). -/
theorem State.wanted_eq (s : State) (w : WaterSource) : s.wanted w =
    (((s.disp.orders.filter Order.waterBlocked).filter (fun o => o.wantedFrom s.water.gate == w)).map Order.remaining).sum := by
  unfold State.wanted
  rw [List.filter_filter]
  simp only [Bool.and_comm]

theorem Bed.shortAfter_of_clear (r : Bed) {o : Order} (hw : o.state ≠ .waiting) (hb : o.blocked = none) : r.shortAfter o = r := by
  have dry : o.waterBlocked = false := by
    unfold Order.waterBlocked
    rw [beq_false_of_ne hw, Bool.false_and]
  unfold Bed.shortAfter
  rw [dry, hb]
  rfl

theorem Bed.shortAfter_of_blocked (r : Bed) {o : Order} (hw : o.state = .waiting) (k : Block) :
    r.shortAfter { o with blocked := some k } =
      { r with waterShort := decide (k = .water) && (r.waterShort || o.origin == .autoSevere) } := by
  have blocked : ({ o with blocked := some k } : Order).waterBlocked = decide (k = .water) := by
    unfold Order.waterBlocked
    rw [hw]
    cases k <;> rfl
  unfold Bed.shortAfter
  rw [blocked]
  by_cases water : k = .water
  · rw [decide_eq_true water, Bool.true_and]
    rfl
  · rw [decide_eq_false water, Bool.false_and]
    rfl

section
variable {s : State} (law : s.startLaw) (fails : ∀ o ∈ s.disp.orders, o.state = .waiting → ∃ k, s.judgeOrder o = .error k)
include law fails

/-- Nothing but the blocked-by of waiting orders differs before the end of the attempt. -/
theorem State.attempted_rest : s.attempted = { s with disp := { s.disp with attempt := false, orders := s.attempted.disp.orders } } :=
  (State.attempted_all_fail law fails).1.rest

theorem State.attempted_one : s.attempted.oneOrderPerBed :=
  ((State.attempted_all_fail law fails).1.startLaw law.unmarked).one

theorem State.attempted_bed (b : Nat) : s.attempted.bed b = s.bed b := by
  rw [State.attempted_rest law fails]
  rfl

theorem State.attempt_bed {o : Order} (ho : o ∈ s.disp.orders) (h1 : 1 ≤ o.bed) (h2 : o.bed ≤ 32) :
    s.attempted.endAttempt.bed o.bed = (s.bed o.bed).shortAfter (s.judged o) := by
  have bed : (s.judged o).bed = o.bed := by
    unfold State.judged
    split
    · split <;> rfl
    · rfl
  have order := State.attempted_order law fails (State.order_of_mem law.one ho)
  rw [← State.attempted_bed law fails]
  rw [← bed] at h1 h2 order ⊢
  exact State.endAttempt_bed (State.attempted_one law fails) order h1 h2

theorem State.attempt_bed_none {b : Nat} (h : s.order b = none) : s.attempted.endAttempt.bed b = s.bed b := by
  rw [← State.attempted_bed law fails]
  refine State.endAttempt_bed_none ?_
  cases hb : s.attempted.order b with
  | none => rfl
  | some o =>
    obtain ⟨q, hq, -⟩ := (State.attempted_all_fail law fails).1.order law.unmarked hb
    cases h.symm.trans hq

/-- The water, the messages and the records after an attempt in which every waiting order fails (R86, R135, logs 18, 49). -/
theorem State.attempt_tells :
    let short := s.attempted.disp.orders.filter Order.waterBlocked
    let recycled := fun (o : Order) => o.preference == .recycled ||
      (o.preference == .any && (decide (¬o.urgent) || s.water.gate == .isOpen))
    let wanted := fun (orders : List Order) => be24 (min 16777215 (orders.map Order.remaining).sum)
    let told := short ≠ [] ∧ s.water.demandMark = false ∧ s.classes .demand ≠ 0 ∧ 5 ≤ s.free
    let demand := if told then [Frame.notice (s.classes .demand) .demand
      (wanted (short.filter recycled) ++ wanted (short.filter (fun o => !recycled o)))] else []
    s.attempted.endAttempt.water = { s.water with demandMark := s.water.demandMark || decide told } ∧
    s.attempted.endAttempt.besides s.beds s.water s.disp =
      (short.filter (fun o => o.origin == .autoSevere && !(s.bed o.bed).waterShort)).foldl s.askShort
        { s with port := { s.port with outbound := s.port.outbound ++ demand } } := by
  intro short recycled wanted told demand
  have rest := State.attempted_rest law fails
  have tells : s.attempted.tellsDemand = told := by
    unfold State.tellsDemand
    rw [rest]
    rfl
  have gate : s.attempted.water.gate = s.water.gate := by rw [rest]
  have fromRecycled : (fun o : Order => o.wantedFrom s.attempted.water.gate == .recycled) = recycled :=
    funext fun o => by rw [gate, o.wantedFrom_recycled]
  have fromFresh : (fun o : Order => o.wantedFrom s.attempted.water.gate == .fresh) = fun o => !recycled o :=
    funext fun o => by rw [o.wantedFrom_fresh, ← fromRecycled]
  have classes : s.attempted.classes .demand = s.classes .demand := by
    rw [rest]
    rfl
  have notice : s.attempted.demandNotice = .notice (s.classes .demand) .demand
      (wanted (short.filter recycled) ++ wanted (short.filter (fun o => !recycled o))) := by
    unfold State.demandNotice
    rw [State.wanted_eq, State.wanted_eq, fromRecycled, fromFresh, classes]
  have started : s.attempted.startsShort = fun o => o.waterBlocked && (o.origin == .autoSevere && !(s.bed o.bed).waterShort) :=
    funext fun o => by
      unfold State.startsShort
      rw [State.attempted_bed law fails]
  have asks : s.attempted.askShort = s.askShort := funext fun u => funext fun o => by
    unfold State.askShort
    rw [State.attempted_bed law fails]
  have base : s.attempted.makeDemand.besides s.beds s.water s.disp =
      { s with port := { s.port with outbound := s.port.outbound ++ demand } } := by
    have list : (if s.attempted.tellsDemand then [s.attempted.demandNotice] else []) = demand := by
      rw [notice]
      simp only [tells]
      rfl
    rw [State.makeDemand_eq, list, rest]
    rfl
  refine ⟨?_, ?_⟩
  · obtain ⟨-, -, -, water⟩ := s.attempted.endAttempt_kept
    rw [water]
    simp only [tells]
    rw [rest]
  · have filtered : s.attempted.disp.orders.filter s.attempted.startsShort =
        short.filter (fun o => o.origin == .autoSevere && !(s.bed o.bed).waterShort) := by
      rw [started, List.filter_filter]
      simp only [Bool.and_comm]
    rw [State.endAttempt_asks (State.attempted_one law fails), filtered, asks, base]

end

end Sys2Proof.Machine
end

section
/-! DISPATCH_ATTEMPT settled. -/

namespace Sys2Proof.Machine

/-- What an attempt leaves in the orders, whatever the queue's order (R120 to R122). -/
theorem State.attempt_orders {s : State} (law : s.startLaw) :
    s.attempted.endAttempt.disp.attempt = false ∧
    (∀ o ∈ s.attempted.endAttempt.disp.orders, o.state = .waiting → o.blocked.isSome = true) ∧
    (∀ o ∈ s.attempted.endAttempt.disp.orders, o.state = .granted →
      (∃ q ∈ s.disp.orders, q.bed = o.bed ∧ q.state = .granted) ∨
      ((s.ctrl.mode = .automatic ∨ s.ctrl.mode = .fallback) ∧ s.claimed o.bed = false ∧ s.capped o.bed = false ∧
        ∃ q ∈ s.disp.orders, q.bed = o.bed ∧ q.state = .waiting)) := by
  have scanning : Scanning s.unmarked s.attempted := scans_scanning _ _
  rw [s.attempted.endAttempt_kept.1]
  refine ⟨scanning.attempt, fun o ho hw => ?_, fun o ho hg => ?_⟩
  · obtain ⟨k, -, blocked⟩ := State.attempted_allJudged law o ho hw
    rw [blocked]
    rfl
  · refine (scanning.granted o ho hg).imp_right fun ⟨pass, waited⟩ => ?_
    obtain ⟨mode, claim, cap⟩ := (s.bedPasses_iff o.bed).mp pass
    exact ⟨(s.modeGrants_iff).mpr mode, claim, cap, waited⟩

/-- In a mode that does not grant nothing is reserved or granted (R122). -/
theorem State.attempt_without_mode {s : State} (law : s.startLaw) (h : ¬s.modeGrants) :
    (∀ o ∈ s.attempted.endAttempt.disp.orders, o.state = .waiting → o.blocked = some .mode) ∧
    s.attempted.endAttempt.line = s.line ∧
    (∀ w, (s.attempted.endAttempt.source w).reserved = (s.source w).reserved) ∧
    s.attempted.endAttempt.disp.grantSequence = s.disp.grantSequence := by
  have fails : ∀ o ∈ s.disp.orders, o.state = .waiting → ∃ k, s.judgeOrder o = .error k :=
    fun o _ _ => ⟨.mode, State.judgeOrder_of_mode h o⟩
  have rest := State.attempted_rest law fails
  obtain ⟨disp, line, -, -⟩ := s.attempted.endAttempt_kept
  refine ⟨fun o ho hw => ?_, ?_, fun w => ?_, ?_⟩
  · rw [disp] at ho
    obtain ⟨k, hk, blocked⟩ := State.attempted_allJudged law o ho hw
    rw [(State.attempted_all_fail law fails).1.judgeOrder, State.judgeOrder_of_mode (s := s.unmarked) h] at hk
    rw [blocked, Except.error.inj hk]
  · rw [line, rest]
  · rw [State.endAttempt_source, rest]
    rfl
  · rw [disp, rest]

/-- What an attempt leaves as it was. -/
theorem State.attempt_keeps_rest (s : State) :
    (∀ w, (s.attempted.endAttempt.source w).balance = (s.source w).balance) ∧
    s.attempted.endAttempt.osc = s.osc ∧ s.attempted.endAttempt.meas = s.meas ∧ s.attempted.endAttempt.zones = s.zones ∧
    s.attempted.endAttempt.forecast = s.forecast ∧ s.attempted.endAttempt.ctrl.mode = s.ctrl.mode := by
  have scanning : Scanning s.unmarked s.attempted := scans_scanning _ _
  have unmarked : s.unmarked.osc = s.osc ∧ s.unmarked.meas = s.meas ∧ s.unmarked.zones = s.zones ∧ s.unmarked.forecast = s.forecast ∧
    s.unmarked.ctrl.mode = s.ctrl.mode := ⟨rfl, rfl, rfl, rfl, rfl⟩
  refine ⟨fun w => ?_, ?_⟩
  · rw [State.endAttempt_source]
    exact scanning.balance w
  · have frame := scanning.frame
    simp only [AttemptFrame] at frame
    simp [frame, unmarked]

/-- An attempt in which every waiting order fails a check, whole (R86, R121, R135). -/
theorem State.attempt_all_fail {s : State} (law : s.startLaw) (queue : s.inQueue)
    (cursors : ∀ o ∈ s.disp.orders, o.state = .waiting → (s.bed o.bed).cursor < (s.conf.cannonList o.bed).length)
    (failing : ∀ o ∈ s.disp.orders, o.state = .waiting → ∃ k, s.failsCheck o k) :
    s.attempted.endAttempt.disp = { s.disp with attempt := false, orders := s.attempted.endAttempt.disp.orders } ∧
    s.attempted.endAttempt.disp.orders.map Order.bed = s.disp.orders.map Order.bed ∧
    (∀ o ∈ s.disp.orders, (o.state ≠ .waiting → s.attempted.endAttempt.order o.bed = some o) ∧
      (o.state = .waiting → ∀ k, s.failsCheck o k → s.attempted.endAttempt.order o.bed = some { o with blocked := some k })) ∧
    (∀ o ∈ s.disp.orders, 1 ≤ o.bed → o.bed ≤ 32 →
      (o.state ≠ .waiting → o.blocked = none → s.attempted.endAttempt.bed o.bed = s.bed o.bed) ∧
      (o.state = .waiting → ∀ k, s.failsCheck o k → s.attempted.endAttempt.bed o.bed = { s.bed o.bed with
        waterShort := decide (k = .water) && ((s.bed o.bed).waterShort || o.origin == .autoSevere) })) ∧
    (∀ b, s.order b = none → s.attempted.endAttempt.bed b = s.bed b) ∧ s.attempted.endAttempt.line = s.line ∧
    s.attempted.endAttempt.store = s.store ∧ s.attempted.endAttempt.beds.pending = s.beds.pending := by
  have fails : ∀ o ∈ s.disp.orders, o.state = .waiting → ∃ k, s.judgeOrder o = .error k := fun o ho hw => by
    obtain ⟨k, hk⟩ := failing o ho hw
    exact ⟨k, State.judgeOrder_fails (cursors o ho hw) hk⟩
  have rest := State.attempted_rest law fails
  obtain ⟨disp, line, store, -⟩ := s.attempted.endAttempt_kept
  refine ⟨?_, ?_, fun o ho => ⟨fun hw => ?_, fun hw k hk => ?_⟩, fun o ho h1 h2 => ⟨fun hw hb => ?_, fun hw k hk => ?_⟩,
    fun b hb => State.attempt_bed_none law fails hb, ?_, ?_, ?_⟩
  · rw [disp]
    exact congrArg State.disp rest
  · rw [disp]
    exact State.attempted_orders law queue fails
  · rw [State.endAttempt_order, State.attempted_order law fails (State.order_of_mem law.one ho), s.judged_of_not_waiting hw]
  · exact State.attempt_fails law (State.order_of_mem law.one ho) hw (cursors o ho hw) fails hk
  · rw [State.attempt_bed law fails ho h1 h2, s.judged_of_not_waiting hw, Bed.shortAfter_of_clear _ hw hb]
  · rw [State.attempt_bed law fails ho h1 h2, State.judged_of_error hw (State.judgeOrder_fails (cursors o ho hw) hk),
      Bed.shortAfter_of_blocked _ hw]
  · rw [line, rest]
  · rw [store, rest]
  · rw [(show s.attempted.endAttempt.beds.pending = s.attempted.beds.pending by simp), rest]

/-- Settles O41: each clause by the lemma on the attempt's scans that it states, and the end of the attempt by
`State.attempt_tells`. -/
theorem dispatchAttempts : Obligations.DispatchAttempts := by
  unfold Obligations.DispatchAttempts
  refine fun s => ⟨fun off => ?_, fun mark order => ?_, fun mark order queueOrder cursors => ⟨fun o ho hw => ?_, ?_, fun failing => ?_⟩⟩
  · have idle : exec .dispatchAttempt s = .next (if s.disp.attempt then s.attempted.endAttempt else s) := rfl
    rw [idle, off]
    rfl
  · have law := State.startLaw_of_orderLaw order
    obtain ⟨cleared, blocked, granted⟩ := State.attempt_orders law
    obtain ⟨balance, kept⟩ := s.attempt_keeps_rest
    refine ⟨_, exec_dispatchAttempt mark, cleared, blocked, granted, fun h1 h2 => ?_, fun o ho hw sole hc => ⟨fun k hk => ?_,
      fun w j e hp => State.attempt_sole_passes law ho hw hc sole hp⟩, balance .recycled, balance .fresh, kept⟩
    · obtain ⟨blocked, line, reserved, sequence⟩ := State.attempt_without_mode law (not_or.mpr ⟨h1, h2⟩)
      exact ⟨blocked, line, reserved .recycled, reserved .fresh, sequence⟩
    · exact State.attempt_sole_fails law ho hw hc sole hk
  · exact State.fails_or_passes (cursors o ho hw)
  · intro ahead o behind split hw failing w j e hp
    have law := State.startLaw_of_orderLaw order
    have queue := State.inQueue_of_law queueOrder
    have mem : ∀ q ∈ ahead ++ [o], q ∈ s.disp.orders := fun q hq => by
      rw [split, List.append_cons]
      exact List.mem_append_left _ hq
    have ho : o ∈ s.disp.orders := mem o (List.mem_append_right _ (List.mem_singleton_self o))
    have next : (s.afterGrant o w j e).unmarked = s.unmarked.grant o (s.award o w j e) := by
      have grant := State.afterGrant_eq law.unmarked queue (State.order_of_mem law.unmarked.one ho) w j e
      have award : s.unmarked.award o w j e = s.award o w j e := rfl
      rw [← award, ← grant]
      cases w <;> rfl
    rw [exec_dispatchAttempt mark, exec_dispatchAttempt (s := s.afterGrant o w j e) mark,
      State.attempted_ahead law queue split hw (fun q hq hqw => by
        obtain ⟨k, hk⟩ := failing q hq hqw
        exact ⟨k, State.judgeOrder_fails (cursors q (mem q (List.mem_append_left _ hq)) hqw) hk⟩)
        (State.judgeOrder_passes (cursors o ho hw) hp) next]
  · have law := State.startLaw_of_orderLaw order
    have fails : ∀ o ∈ s.disp.orders, o.state = .waiting → ∃ k, s.judgeOrder o = .error k := fun o ho hw => by
      obtain ⟨k, hk⟩ := failing o ho hw
      exact ⟨k, State.judgeOrder_fails (cursors o ho hw) hk⟩
    obtain ⟨disp, beds, orders, rest⟩ := State.attempt_all_fail law (State.inQueue_of_law queueOrder) cursors failing
    obtain ⟨water, asked⟩ := State.attempt_tells law fails
    rw [← s.attempted.endAttempt_kept.1] at water asked
    have port := congrArg State.port asked
    have recs := congrArg State.recs asked
    have ctrl := congrArg State.ctrl asked
    exact ⟨_, exec_dispatchAttempt mark, disp, beds, orders, ⟨water, port, recs, ctrl⟩, rest⟩

end Sys2Proof.Machine
end
